-- ==== Sys2Proof/Word.lean ====
section
/-! DEFINITION. The words of the machine: bytes, 64-bit words and 128-bit vectors. -/
namespace Sys2Proof

/-- One byte of memory or of an instruction (20_memory.md R60). -/
abbrev Byte := BitVec 8

/-- One 64-bit register, address or instruction pointer (10_state.md R20, R25). -/
abbrev Word := BitVec 64

/-- One XMM register (10_state.md R51). -/
abbrev Xmm := BitVec 128

/-- A 5-bit general-purpose register identifier, 0..31 (10_state.md R20, 30_encoding.md R116). -/
abbrev RegId := BitVec 5

end Sys2Proof
end

