-- ==== Sys2Proof/Config.lean ====
section
/-! DEFINITION. What an implementation fixes and the spec leaves open: the free values (`any`) and the opaque
functions the spec names without describing them. None has a body that a proof can see. -/
namespace Sys2Proof

/-- The shape of one AMX tile register in the current tile configuration: whether its id is valid, how many rows it
has and how many bytes a row has (43_promoted_vex.md R311, R313; 60_exceptions.md R442). -/
structure TileShape where
  valid : Bool
  rows  : Nat
  colsb : Nat
  deriving DecidableEq, Repr, Inhabited

/-- `tile_state`, opaque in the spec (10_state.md R52, 43_promoted_vex.md R320): whether tiles are configured, the
shape of tmm0..tmm7, and a token that stands for the tile contents. -/
structure TileState where
  configured : Bool
  shapes     : Vector TileShape 8
  contents   : Nat
  deriving DecidableEq, Repr, Inhabited

/-- `any` for one flag (00_scope.md R13): the first argument is the model's counter of steps, the second tells apart
the uses of one step. No value of it can be proved. -/
opaque Config.freeFlag : Nat → Nat → Bool

/-- `any` for an integer result of at most 64 bits (41_shift_rotate.md R228, R230). -/
opaque Config.freeWord : Nat → Nat → Word

/-- `any` for an XMM register (44_promoted_system_crypto.md R339, R340). -/
opaque Config.freeXmm : Nat → Nat → Xmm

/-- The Scale field of the extended instruction-information field of an instruction with no index register, which the spec
calls undefined (60_exceptions.md R469). -/
opaque Config.freeScale : Nat → BitVec 2

/-- A register id field of the extended instruction-information field that does not apply, for which the spec states no
value (60_exceptions.md R469); the second argument tells the fields apart. -/
opaque Config.freeRegId : Nat → Nat → RegId

/-- Whether a write of zero to an EGPR that leaves the APX component all zero marks it in use: 10_state.md R48 says
that an all-zero component with XINUSE[19] = 1 is possible and not when it arises. -/
opaque Config.zeroWriteSetsXinuse : Bool

/-- `KL_AesDec128` (44_promoted_system_crypto.md R331): handle, block, internal wrapping key; success and result. -/
opaque Config.klAesDec128 : BitVec 384 → Xmm → Nat → Bool × Xmm
/-- `KL_AesDec256` (R332). -/
opaque Config.klAesDec256 : BitVec 512 → Xmm → Nat → Bool × Xmm
/-- `KL_AesEnc128` (R335). -/
opaque Config.klAesEnc128 : BitVec 384 → Xmm → Nat → Bool × Xmm
/-- `KL_AesEnc256` (R336). -/
opaque Config.klAesEnc256 : BitVec 512 → Xmm → Nat → Bool × Xmm
/-- `KL_AesDecWide128` (R333) on xmm0..xmm7. -/
opaque Config.klAesDecWide128 : BitVec 384 → Vector Xmm 8 → Nat → Bool × Vector Xmm 8
/-- `KL_AesDecWide256` (R334) on xmm0..xmm7. -/
opaque Config.klAesDecWide256 : BitVec 512 → Vector Xmm 8 → Nat → Bool × Vector Xmm 8
/-- `KL_AesEncWide128` (R337) on xmm0..xmm7. -/
opaque Config.klAesEncWide128 : BitVec 384 → Vector Xmm 8 → Nat → Bool × Vector Xmm 8
/-- `KL_AesEncWide256` (R338) on xmm0..xmm7. -/
opaque Config.klAesEncWide256 : BitVec 512 → Vector Xmm 8 → Nat → Bool × Vector Xmm 8
/-- `KL_EncodeKey128` (R339): the source register, the key, the wrapping key; the handle and the information word. -/
opaque Config.klEncodeKey128 : BitVec 32 → Xmm → Nat → BitVec 384 × BitVec 32
/-- `KL_EncodeKey256` (R340): the 256-bit key is xmm1:xmm0. -/
opaque Config.klEncodeKey256 : BitVec 32 → BitVec 256 → Nat → BitVec 512 × BitVec 32

/-- `Sha1Msg1` (44_promoted_system_crypto.md R341, R349). -/
opaque Config.sha1Msg1 : Xmm → Xmm → Xmm
/-- `Sha1Msg2` (R342). -/
opaque Config.sha1Msg2 : Xmm → Xmm → Xmm
/-- `Sha1NextE` (R343). -/
opaque Config.sha1NextE : Xmm → Xmm → Xmm
/-- `Sha1Rnds4` (R344), with the immediate that selects the round function. -/
opaque Config.sha1Rnds4 : Xmm → Xmm → BitVec 8 → Xmm
/-- `Sha256Msg1` (R345). -/
opaque Config.sha256Msg1 : Xmm → Xmm → Xmm
/-- `Sha256Msg2` (R346). -/
opaque Config.sha256Msg2 : Xmm → Xmm → Xmm
/-- `Sha256Rnds2` (R347), with the implicit XMM0. -/
opaque Config.sha256Rnds2 : Xmm → Xmm → Xmm → Xmm

/-- `LoadTileCfg` (43_promoted_vex.md R302) on a configuration that is not rejected. -/
opaque Config.loadTileCfg : TileState → BitVec 512 → TileState
/-- `TileCfgBytes` (R310): the 64 bytes STTILECFG stores. -/
opaque Config.tileCfgBytes : TileState → BitVec 512
/-- `TileLoad` (R311): the new contents token from the old one, the tile id and the rows read. -/
opaque Config.tileLoad : Nat → Nat → List (List Byte) → Nat
/-- The byte TILESTORED stores (R313) for a contents token, a tile id, a row and a column. -/
opaque Config.tileByte : Nat → Nat → Nat → Nat → Byte

end Sys2Proof
end

