-- ==== Sys2Proof/Machine/State.lean ====
section
/-! DEFINITION. The state of the machine as plain data, the reasons a step can stop, and the state after reset. -/
namespace Sys2Proof.Machine

/-- The six status flags (10_state.md R31). -/
structure Flags where
  cf : Bool
  pf : Bool
  af : Bool
  zf : Bool
  sf : Bool
  of : Bool
  deriving DecidableEq, Repr, Inhabited

/-- The operating modes named by the exception classes (60_exceptions.md R461). -/
inductive Mode | realMode | virtual8086 | protectedMode | compatibility | mode64
  deriving DecidableEq, Repr, Inhabited

/-- The kinds of access the translation oracle distinguishes (20_memory.md R72); a shadow-stack write asks for a user
or for a supervisor shadow stack (60_exceptions.md R445, R446). -/
inductive AccessKind | read | write | fetch | shadowUser | shadowSupervisor
  deriving DecidableEq, Repr, Inhabited

/-- One entry of the translation oracle: accesses of this kind to the linear addresses lo..hi fault with this opaque
code (20_memory.md R72). -/
structure PageFault where
  lo   : Nat
  hi   : Nat
  kind : AccessKind
  code : Nat
  deriving DecidableEq, Repr, Inhabited

/-- The width of a linear address, 48 or 57 bits (20_memory.md R64). -/
inductive LaWidth | la48 | la57
  deriving DecidableEq, Repr, Inhabited

/-- The CPUID feature flags that gate instructions (00_scope.md R9). -/
structure Features where
  apxF          : Bool
  adx           : Bool
  amxTile       : Bool
  avx10         : Bool
  /-- CPUID.(EAX=0x24,ECX=0).EBX[7:0]. -/
  avx10Version  : BitVec 8
  avx512bw      : Bool
  avx512dq      : Bool
  avx512f       : Bool
  bmi1          : Bool
  bmi2          : Bool
  cet           : Bool
  cmpccxadd     : Bool
  enqcmd        : Bool
  invpcid       : Bool
  keylocker     : Bool
  aeskle        : Bool
  wideKl        : Bool
  lzcnt         : Bool
  movbe         : Bool
  movdir        : Bool
  sha           : Bool
  vmx           : Bool
  deriving DecidableEq, Repr, Inhabited

/-- AVX10_1: the AVX10 flag, and a version of at least 1 (00_scope.md R9). -/
def Features.avx10_1 (f : Features) : Bool := f.avx10 && decide (1 ≤ f.avx10Version.toNat)

/-- KEYLOCKER_WIDE: KEYLOCKER, AESKLE and the wide Key Locker flag (00_scope.md R9). -/
def Features.keylockerWide (f : Features) : Bool := f.keylocker && f.aeskle && f.wideKl

/-- The parameters of the modelled processor (00_scope.md R9, 92_eei_decisions.md "Open parameters, collected"): no
instruction changes them. -/
structure Params where
  features         : Features
  laWidth          : LaWidth
  /-- AC_ENABLED: CR0.AM = 1 and RFLAGS.AC = 1 (20_memory.md R68). -/
  acEnabled        : Bool
  fsBase           : Word
  gsBase           : Word
  /-- MASK_ID_HIGH_BIT_UD (43_promoted_vex.md R298). -/
  maskIdHighBitUd  : Bool
  /-- The oracle `Translate`: the first entry that matches answers, none means success (20_memory.md R72). -/
  pageFaults       : List PageFault
  /-- The configurations `TileCfgValid` rejects (60_exceptions.md R440). -/
  tileCfgRejected  : List (BitVec 512)
  /-- The control registers that exist, by id (10_state.md R42): PRESUMED, notes/assumptions/41.md. -/
  controlRegs      : List RegId
  /-- The debug registers that exist, by id (10_state.md R42): PRESUMED, notes/assumptions/41.md. -/
  debugRegs        : List RegId
  /-- `stop_address` (70_reset_and_hazards.md R497), when the run has one. -/
  stopAddress      : Option Word
  deriving DecidableEq, Repr, Inhabited

/-- The control bits the exception classes consult (10_state.md R36, R41): no instruction of this spec writes them. -/
structure Control where
  cr4Osxsave       : Bool
  /-- XCR0[19], XCR0[APX_F] (10_state.md R35). -/
  xcr0Apx          : Bool
  cr0Ts            : Bool
  cr0Em            : Bool
  cr4Osfxsr        : Bool
  cr4Kl            : Bool
  cr4Cet           : Bool
  cr4Pcide         : Bool
  /-- IA32_U_CET.SH_STK_EN and IA32_U_CET.WR_SHSTK_EN. -/
  uCetShStkEn      : Bool
  uCetWrShstkEn    : Bool
  /-- IA32_S_CET.SH_STK_EN and IA32_S_CET.WR_SHSTK_EN. -/
  sCetShStkEn      : Bool
  sCetWrShstkEn    : Bool
  /-- IA32_PASID.PASID_Valid. -/
  pasidValid       : Bool
  inVmxOperation   : Bool
  eptSupported     : Bool
  inveptSupported  : Bool
  vpidSupported    : Bool
  invvpidSupported : Bool
  deriving DecidableEq, Repr, Inhabited

/-- Memory: the bytes that are not zero, by strictly rising address (20_memory.md R60). An address that is not listed
reads as 0: DESIGN CHOICE, unsafe, notes/assumptions/3.md. -/
abbrev Memory := List Host.Cell

/-- The state of the one logical processor and its memory (00_scope.md R8). -/
structure State where
  /-- The 32 general-purpose registers; 16..31 are the EGPRs (10_state.md R20). -/
  gpr         : Vector Word 32
  /-- RIP (10_state.md R25). -/
  rip         : Word
  /-- RIP has been incremented past 2^64: the next fetch raises #GP(0) (70_reset_and_hazards.md R496). -/
  ripWrapped  : Bool
  flags       : Flags
  /-- The opmask registers k0..k7 (10_state.md R50). -/
  k           : Vector Word 8
  /-- xmm0..xmm15 (10_state.md R51). -/
  xmm         : Vector Xmm 16
  /-- `tile_state` (10_state.md R52). -/
  tile        : TileState
  /-- `iwkey`, the Key Locker internal wrapping key, an opaque token (44_promoted_system_crypto.md R348). -/
  iwkey       : Nat
  /-- XINUSE[19] (10_state.md R48). -/
  xinuse19    : Bool
  mem         : Memory
  mode        : Mode
  /-- CPL, 0..3 (10_state.md R45). -/
  cpl         : Fin 4
  ctrl        : Control
  params      : Params
  /-- The result bits of the coming `EnqueueCommand`s: inputs of the machine (42_muldiv_misc.md R276). -/
  enqueueInputs : List Bool
  /-- The model's own counter of steps, to which the free values of `Config` are applied; not the spec's. -/
  free        : Nat
  deriving DecidableEq, Repr

/-- The exceptions an instruction can raise, with the error code where the source prints one
(60_exceptions.md R430). -/
inductive Exc
  /-- #DE: a divisor of 0 or a quotient that does not fit (DIV and IDIV). -/
  | de
  /-- #DB: listed by the source, never raised by the model (60_exceptions.md R475). -/
  | db
  /-- #UD: an invalid opcode, a reserved encoding, or an instruction whose enabling is missing. -/
  | ud
  /-- #NM: CR0.TS = 1 for the Key Locker, KMOV and SHA classes. -/
  | nm
  /-- #SS(0): a non-canonical address that references the SS segment. -/
  | ss
  /-- #GP(0): a non-canonical address, a mandatory alignment, a privilege or an operand condition. -/
  | gp
  /-- #PF(code): the translation oracle refused the access with this opaque code. -/
  | pf (code : Nat)
  /-- #AC(0): an unaligned access at CPL 3 while alignment checking is enabled. -/
  | ac
  deriving DecidableEq, Repr

/-- The ways a run of the machine ends by itself. -/
inductive Fault
  /-- An exception: every exception is a terminal fault with the state before the instruction
  (60_exceptions.md R431, R433). Raised by the fetch and by the meanings. Safe: the hardware would deliver the
  exception, of which the spec says nothing. -/
  | exception (e : Exc)
  /-- `rip` equals the caller's stop address before the fetch (70_reset_and_hazards.md R497). Raised by the step. Safe:
  the run ends where the caller asked it to. -/
  | stopAddress
  deriving DecidableEq, Repr

/-- What the model has no meaning for (outcome `Unsupported`, 00_scope.md R8). All of them are safe: the machine stops
where the hardware goes on. -/
inductive Refusal
  /-- An instruction of the opcode table whose arm has no meaning yet. Raised by the dispatch. -/
  | notModelled (mnemonic : String)
  /-- Bytes with neither a REX2 nor an EVEX prefix: an instruction that is not APX (00_scope.md R8). Raised by the step. -/
  | notApxInstruction
  /-- A REX2-prefixed legacy instruction outside the modelled subset (45_jmpabs_rex2.md R389). Raised by the step. -/
  | rex2OutsideSubset
  /-- An existing EVEX instruction, which the spec does not describe (30_encoding.md R141). Raised by the step. -/
  | existingEvex
  /-- REP or REPNE before REX2 (45_jmpabs_rex2.md R376). Raised by the step. -/
  | repBeforeRex2
  /-- LOCK before a REX2 instruction for which the spec gives it no meaning (45_jmpabs_rex2.md R376). Raised by the step. -/
  | lockBeforeRex2
  /-- 0x66 before a REX2 instruction whose rule has no OSIZE of 16: PUSH, POP, MOVSXD, SETcc (45_jmpabs_rex2.md R372,
  R375, R388). Raised by the step. -/
  | operandSize16
  /-- A promoted VEX opcode of maps 1 to 3 with a W or a digit that no row lists (00_scope.md R8). Raised by the step. -/
  | unlistedVex
  deriving DecidableEq, Repr

/-- All six status flags clear. -/
def Flags.clear : Flags := ⟨false, false, false, false, false, false⟩

/-- Every feature parameter 1: the default profile (00_scope.md R11); the AVX10 version is the least that makes
AVX10_1 = 1. -/
def Features.all : Features where
  apxF := true
  adx := true
  amxTile := true
  avx10 := true
  avx10Version := 1
  avx512bw := true
  avx512dq := true
  avx512f := true
  bmi1 := true
  bmi2 := true
  cet := true
  cmpccxadd := true
  enqcmd := true
  invpcid := true
  keylocker := true
  aeskle := true
  wideKl := true
  lzcnt := true
  movbe := true
  movdir := true
  sha := true
  vmx := true

/-- The default profile (00_scope.md R11, 92_eei_decisions.md "Open parameters, collected"). The control and debug registers
that exist are PRESUMED, notes/assumptions/41.md. -/
def Params.default : Params where
  features := Features.all
  laWidth := .la48
  acEnabled := false
  fsBase := 0
  gsBase := 0
  maskIdHighBitUd := false
  pageFaults := []
  tileCfgRejected := []
  controlRegs := [0, 2, 3, 4, 8]
  debugRegs := [0, 1, 2, 3, 4, 5, 6, 7]
  stopAddress := none

/-- The control bits after reset: APX not enabled (70_reset_and_hazards.md R490, R491); CR4.OSFXSR = 1 as the default
profile has it (00_scope.md R11); the others 0. DESIGN CHOICE, unsafe, notes/assumptions/2.md. -/
def Control.reset : Control where
  cr4Osxsave := false
  xcr0Apx := false
  cr0Ts := false
  cr0Em := false
  cr4Osfxsr := true
  cr4Kl := false
  cr4Cet := false
  cr4Pcide := false
  uCetShStkEn := false
  uCetWrShstkEn := false
  sCetShStkEn := false
  sCetWrShstkEn := false
  pasidValid := false
  inVmxOperation := false
  eptSupported := false
  inveptSupported := false
  vpidSupported := false
  invvpidSupported := false

/-- No tile configuration loaded, every shape empty. -/
def tileReset : TileState where
  configured := false
  shapes := Vector.replicate 8 ⟨false, 0, 0⟩
  contents := 0

/-- The machine after RESET: R8..R31 and xmm0..xmm15 are 0 (10_state.md R54, 70_reset_and_hazards.md R490), APX is not
enabled (R491). Every other value is a DESIGN CHOICE, unsafe, notes/assumptions/1.md and 2.md: the spec states none. -/
def State.reset : State where
  gpr := Vector.replicate 32 0
  rip := 0
  ripWrapped := false
  flags := Flags.clear
  k := Vector.replicate 8 0
  xmm := Vector.replicate 16 0
  tile := tileReset
  iwkey := 0
  xinuse19 := false
  mem := []
  mode := .mode64
  cpl := 3
  ctrl := Control.reset
  params := Params.default
  enqueueInputs := []
  free := 0

end Sys2Proof.Machine
end

