-- ==== Sys2Proof/Syntax.lean ====
section
/-! DEFINITION. The instructions of Intel APX as syntax: every row of `spec/opcode_table.json` is a
constructor of `Instr`, with the operand types it carries. Register ids are logical (30_encoding.md R116), immediates
are the bits that stand in the instruction. -/
namespace Sys2Proof

/-- OSIZE of a SCALABLE form (30_encoding.md R125, R111): 16, 32 or 64 bits. -/
inductive OSize | o16 | o32 | o64
  deriving DecidableEq, Repr, Inhabited

/-- OSIZE of a form that has a byte opcode beside its SCALABLE opcode (40_alu.md R180, 41_shift_rotate.md R220). -/
inductive OpSize | o8 | o16 | o32 | o64
  deriving DecidableEq, Repr, Inhabited

/-- The source size of MOVZX and MOVSX: 8 or 16 bits (45_jmpabs_rex2.md R382). -/
inductive SrcSize | b8 | w16
  deriving DecidableEq, Repr, Inhabited

/-- Operand size of a form whose W bit selects 32 or 64 bits (30_encoding.md R125, 43_promoted_vex.md R290). -/
inductive YSize | y32 | y64
  deriving DecidableEq, Repr, Inhabited

/-- The sixteen condition codes in the order of their numbers (10_state.md R33). -/
inductive Cond | o | no | b | nb | z | nz | be | nbe | s | ns | p | np | l | nl | le | nle
  deriving DecidableEq, Repr, Inhabited

/-- The sixteen source condition codes of CCMPscc and CTESTscc: codes 10 and 11 are T and F (46_conditional.md R391). -/
inductive Scc | o | no | b | nb | z | nz | be | nbe | s | ns | t | f | l | nl | le | nle
  deriving DecidableEq, Repr, Inhabited

/-- The default flags value of CCMPscc and CTESTscc (46_conditional.md R392). -/
structure Dfv where
  of : Bool
  sf : Bool
  zf : Bool
  cf : Bool
  deriving DecidableEq, Repr, Inhabited

/-- The immediate `iz` of a SCALABLE form together with its OSIZE: two bytes when OSIZE is 16, four bytes when it is 32
or 64 (30_encoding.md R160). -/
inductive ImmZ
  | i16 (v : BitVec 16)
  | i32 (v : BitVec 32)
  | i64 (v : BitVec 32)
  deriving DecidableEq, Repr, Inhabited

/-- The immediate of a form that has a byte opcode beside its SCALABLE opcode, together with its OSIZE: one byte, two
bytes, or four bytes (30_encoding.md R160). -/
inductive Imm
  | i8 (v : BitVec 8)
  | i16 (v : BitVec 16)
  | i32 (v : BitVec 32)
  | i64 (v : BitVec 32)
  deriving DecidableEq, Repr, Inhabited

/-- The immediate of REX2 MOV B0+rb and B8+rd together with its OSIZE: one, two, four or eight bytes
(45_jmpabs_rex2.md R380). -/
inductive MovImm
  | b8 (v : BitVec 8)
  | w16 (v : BitVec 16)
  | d32 (v : BitVec 32)
  | q64 (v : BitVec 64)
  deriving DecidableEq, Repr, Inhabited

/-- A segment override (30_encoding.md R108). -/
inductive Segment | es | cs | ss | ds | fs | gs
  deriving DecidableEq, Repr, Inhabited

/-- The displacement that stands in a memory form (30_encoding.md R153). -/
inductive Disp
  | none
  | d8 (v : BitVec 8)
  | d32 (v : BitVec 32)
  deriving DecidableEq, Repr, Inhabited

/-- An index register with its scale, `gpr[id] * 2^scale` (30_encoding.md R154). -/
structure Index where
  id    : RegId
  scale : BitVec 2
  deriving DecidableEq, Repr, Inhabited

/-- The memory forms of ModRM and SIB (30_encoding.md R153, R154). -/
inductive MemForm
  | base (id : RegId) (disp : Disp)
  | sib (id : RegId) (index : Option Index) (disp : Disp)
  | sibNoBase (index : Option Index) (disp : BitVec 32)
  | ripRel (disp : BitVec 32)
  deriving DecidableEq, Repr, Inhabited

/-- A memory operand: its segment override, whether an ASIZE override (0x67) makes addresses 32 bits wide
(20_memory.md R67), and its form. -/
structure Mem where
  seg  : Option Segment
  a32  : Bool
  form : MemForm
  deriving DecidableEq, Repr, Inhabited

/-- A ModRM r/m operand: the register with id B, or memory (30_encoding.md R152). -/
inductive RM
  | reg (id : RegId)
  | mem (m : Mem)
  deriving DecidableEq, Repr, Inhabited

/-- An r/m operand that is one of xmm0..xmm15 or memory (44_promoted_system_crypto.md R341). -/
inductive XRM
  | xmm (id : BitVec 4)
  | mem (m : Mem)
  deriving DecidableEq, Repr, Inhabited

/-- The id of an opmask or tile register: three ModRM bits, and the logical R3 or B3 bit, whose meaning is the
parameter MASK_ID_HIGH_BIT_UD (43_promoted_vex.md R298). -/
structure ShortId where
  id : BitVec 3
  hi : Bool
  deriving DecidableEq, Repr, Inhabited

/-- An r/m operand that is an opmask register or memory (43_promoted_vex.md R298). -/
inductive KRM
  | k (id : ShortId)
  | mem (m : Mem)
  deriving DecidableEq, Repr, Inhabited

/-- The rows of `spec/opcode_table.json`, in the table's order; a byte row and the SCALABLE row beside it are one constructor
with an operand size, and so are two encodings with one meaning (notes/assumptions/15.md). `ndd` is the NDD register of a form with
ND = 1 (none: ND = 0), `nf` the NF bit, `zu` the ND bit of a ZU form (30_encoding.md R128, R131, R133). -/
inductive Instr
  -- Legacy-promoted and VEX-promoted EVEX instructions (30_encoding.md R120, R139)
  /-- ADC `r8/m8, r8 ; ND=1: r8, r8/m8, r8`, `rv/mv, rv ; ND=1: rv, rv/mv, rv` (40_alu.md R183) -/
  | adcRmR (sz : OpSize) (rm : RM) (reg : RegId) (ndd : Option RegId)
  /-- ADC `r8, r8/m8 ; ND=1: r8, r8, r8/m8`, `rv, rv/mv ; ND=1: rv, rv, rv/mv` (40_alu.md R183) -/
  | adcRRm (sz : OpSize) (reg : RegId) (rm : RM) (ndd : Option RegId)
  /-- ADC `r8/m8, imm8 ; ND=1: r8, r8/m8, imm8`, `rv/mv, imm16/imm32 ; ND=1: rv, rv/mv, imm16/imm32` (40_alu.md R183) -/
  | adcRmImm (rm : RM) (imm : Imm) (ndd : Option RegId)
  /-- ADC `rv/mv, imm8 ; ND=1: rv, rv/mv, imm8` (40_alu.md R183) -/
  | adcRmI8 (sz : OSize) (rm : RM) (imm : BitVec 8) (ndd : Option RegId)
  /-- ADCX `ry, ry/my ; ND=1: ry, ry, ry/my` (40_alu.md R184) -/
  | adcx (sz : YSize) (reg : RegId) (rm : RM) (ndd : Option RegId)
  /-- ADD `r8/m8, r8 ; ND=1: r8, r8/m8, r8`, `rv/mv, rv ; ND=1: rv, rv/mv, rv` (40_alu.md R185) -/
  | addRmR (sz : OpSize) (rm : RM) (reg : RegId) (ndd : Option RegId) (nf : Bool)
  /-- ADD `r8, r8/m8 ; ND=1: r8, r8, r8/m8`, `rv, rv/mv ; ND=1: rv, rv, rv/mv` (40_alu.md R185) -/
  | addRRm (sz : OpSize) (reg : RegId) (rm : RM) (ndd : Option RegId) (nf : Bool)
  /-- ADD `r8/m8, imm8 ; ND=1: r8, r8/m8, imm8`, `rv/mv, imm16/imm32 ; ND=1: rv, rv/mv, imm16/imm32` (40_alu.md R185) -/
  | addRmImm (rm : RM) (imm : Imm) (ndd : Option RegId) (nf : Bool)
  /-- ADD `rv/mv, imm8 ; ND=1: rv, rv/mv, imm8` (40_alu.md R185) -/
  | addRmI8 (sz : OSize) (rm : RM) (imm : BitVec 8) (ndd : Option RegId) (nf : Bool)
  /-- ADOX `ry, ry/my ; ND=1: ry, ry, ry/my` (40_alu.md R186) -/
  | adox (sz : YSize) (reg : RegId) (rm : RM) (ndd : Option RegId)
  /-- AESDEC128KL `xmm1, m384` (44_promoted_system_crypto.md R331) -/
  | aesdec128kl (x : BitVec 4) (m : Mem)
  /-- AESDEC256KL `xmm1, m512` (44_promoted_system_crypto.md R332) -/
  | aesdec256kl (x : BitVec 4) (m : Mem)
  /-- AESDECWIDE128KL `m384` (44_promoted_system_crypto.md R333) -/
  | aesdecwide128kl (m : Mem)
  /-- AESDECWIDE256KL `m512` (44_promoted_system_crypto.md R334) -/
  | aesdecwide256kl (m : Mem)
  /-- AESENC128KL `xmm1, m384` (44_promoted_system_crypto.md R335) -/
  | aesenc128kl (x : BitVec 4) (m : Mem)
  /-- AESENC256KL `xmm1, m512` (44_promoted_system_crypto.md R336) -/
  | aesenc256kl (x : BitVec 4) (m : Mem)
  /-- AESENCWIDE128KL `m384` (44_promoted_system_crypto.md R337) -/
  | aesencwide128kl (m : Mem)
  /-- AESENCWIDE256KL `m512` (44_promoted_system_crypto.md R338) -/
  | aesencwide256kl (m : Mem)
  /-- AND `r8/m8, r8 ; ND=1: r8, r8/m8, r8`, `rv/mv, rv ; ND=1: rv, rv/mv, rv` (40_alu.md R187) -/
  | andRmR (sz : OpSize) (rm : RM) (reg : RegId) (ndd : Option RegId) (nf : Bool)
  /-- AND `r8, r8/m8 ; ND=1: r8, r8, r8/m8`, `rv, rv/mv ; ND=1: rv, rv, rv/mv` (40_alu.md R187) -/
  | andRRm (sz : OpSize) (reg : RegId) (rm : RM) (ndd : Option RegId) (nf : Bool)
  /-- AND `r8/m8, imm8 ; ND=1: r8, r8/m8, imm8`, `rv/mv, imm16/imm32 ; ND=1: rv, rv/mv, imm16/imm32` (40_alu.md R187) -/
  | andRmImm (rm : RM) (imm : Imm) (ndd : Option RegId) (nf : Bool)
  /-- AND `rv/mv, imm8 ; ND=1: rv, rv/mv, imm8` (40_alu.md R187) -/
  | andRmI8 (sz : OSize) (rm : RM) (imm : BitVec 8) (ndd : Option RegId) (nf : Bool)
  /-- ANDN `ry, ry, my/ry` (43_promoted_vex.md R291) -/
  | andn (sz : YSize) (reg : RegId) (v : RegId) (rm : RM) (nf : Bool)
  /-- BEXTR `ry, my/ry, ry` (43_promoted_vex.md R292) -/
  | bextr (sz : YSize) (reg : RegId) (rm : RM) (v : RegId) (nf : Bool)
  /-- BLSI `ry, my/ry` (43_promoted_vex.md R293) -/
  | blsi (sz : YSize) (v : RegId) (rm : RM) (nf : Bool)
  /-- BLSMSK `ry, my/ry` (43_promoted_vex.md R294) -/
  | blsmsk (sz : YSize) (v : RegId) (rm : RM) (nf : Bool)
  /-- BLSR `ry, my/ry` (43_promoted_vex.md R295) -/
  | blsr (sz : YSize) (v : RegId) (rm : RM) (nf : Bool)
  /-- BZHI `ry, my/ry, ry` (43_promoted_vex.md R296) -/
  | bzhi (sz : YSize) (reg : RegId) (rm : RM) (v : RegId) (nf : Bool)
  /-- CMOVcc `rv, rv, rv/mv` (42_muldiv_misc.md R251) -/
  | cmov (cc : Cond) (sz : OSize) (v : RegId) (reg : RegId) (rm : RM)
  /-- CMPccXADD `my, ry, ry` (43_promoted_vex.md R297) -/
  | cmpccxadd (cc : Cond) (sz : YSize) (m : Mem) (reg : RegId) (v : RegId)
  /-- CRC32 `ry, r8/m8` (42_muldiv_misc.md R252) -/
  | crc32Rm8 (sz : YSize) (reg : RegId) (rm : RM)
  /-- CRC32 `ry, rv/mv` (42_muldiv_misc.md R252) -/
  | crc32Rm (sz : OSize) (reg : RegId) (rm : RM)
  /-- DEC `r8/m8 ; ND=1: r8, r8/m8`, `rv/mv ; ND=1: rv, rv/mv` (40_alu.md R188) -/
  | decRm (sz : OpSize) (rm : RM) (ndd : Option RegId) (nf : Bool)
  /-- DIV `r8/m8`, `rv/mv` (42_muldiv_misc.md R253) -/
  | divRm (sz : OpSize) (rm : RM) (nf : Bool)
  /-- ENCODEKEY128 `r32, r32` (44_promoted_system_crypto.md R339) -/
  | encodekey128 (reg : RegId) (b : RegId)
  /-- ENCODEKEY256 `r32, r32` (44_promoted_system_crypto.md R340) -/
  | encodekey256 (reg : RegId) (b : RegId)
  /-- ENQCMD `ra, m512` (42_muldiv_misc.md R274) -/
  | enqcmd (reg : RegId) (m : Mem)
  /-- ENQCMDS `ra, m512` (42_muldiv_misc.md R275) -/
  | enqcmds (reg : RegId) (m : Mem)
  /-- IDIV `r8/m8`, `rv/mv` (42_muldiv_misc.md R254) -/
  | idivRm (sz : OpSize) (rm : RM) (nf : Bool)
  /-- IMUL `rv, rv/mv, imm16/imm32` (42_muldiv_misc.md R255) -/
  | imulRRmIz (reg : RegId) (rm : RM) (imm : ImmZ) (zu : Bool) (nf : Bool)
  /-- IMUL `rv, rv/mv, imm8` (42_muldiv_misc.md R255) -/
  | imulRRmI8 (sz : OSize) (reg : RegId) (rm : RM) (imm : BitVec 8) (zu : Bool) (nf : Bool)
  /-- IMUL `rv, rv/mv ; ND=1: rv, rv, rv/mv` (42_muldiv_misc.md R255) -/
  | imulRRm (sz : OSize) (reg : RegId) (rm : RM) (ndd : Option RegId) (nf : Bool)
  /-- IMUL `r8/m8`, `rv/mv` (42_muldiv_misc.md R255) -/
  | imulRm (sz : OpSize) (rm : RM) (nf : Bool)
  /-- INC `r8/m8 ; ND=1: r8, r8/m8`, `rv/mv ; ND=1: rv, rv/mv` (40_alu.md R189) -/
  | incRm (sz : OpSize) (rm : RM) (ndd : Option RegId) (nf : Bool)
  /-- INVEPT `r64, m128` (44_promoted_system_crypto.md R350) -/
  | invept (reg : RegId) (m : Mem)
  /-- INVPCID `r64, m128` (44_promoted_system_crypto.md R352) -/
  | invpcid (reg : RegId) (m : Mem)
  /-- INVVPID `r64, m128` (44_promoted_system_crypto.md R351) -/
  | invvpid (reg : RegId) (m : Mem)
  /-- KMOVB `k1, k2/m8` (43_promoted_vex.md R298) -/
  | kmovbKKm (k : ShortId) (src : KRM)
  /-- KMOVB `k1, r32` (43_promoted_vex.md R298) -/
  | kmovbKR (k : ShortId) (b : RegId)
  /-- KMOVB `r32, k1` (43_promoted_vex.md R298) -/
  | kmovbRK (reg : RegId) (k : ShortId)
  /-- KMOVB `m8, k1` (43_promoted_vex.md R298) -/
  | kmovbMK (m : Mem) (k : ShortId)
  /-- KMOVD `r32, k1` (43_promoted_vex.md R299) -/
  | kmovdRK (reg : RegId) (k : ShortId)
  /-- KMOVD `k1, k2/m32` (43_promoted_vex.md R299) -/
  | kmovdKKm (k : ShortId) (src : KRM)
  /-- KMOVD `k1, r32` (43_promoted_vex.md R299) -/
  | kmovdKR (k : ShortId) (b : RegId)
  /-- KMOVD `m32, k1` (43_promoted_vex.md R299) -/
  | kmovdMK (m : Mem) (k : ShortId)
  /-- KMOVQ `k1, k2/m64` (43_promoted_vex.md R300) -/
  | kmovqKKm (k : ShortId) (src : KRM)
  /-- KMOVQ `k1, r64` (43_promoted_vex.md R300) -/
  | kmovqKR (k : ShortId) (b : RegId)
  /-- KMOVQ `r64, k1` (43_promoted_vex.md R300) -/
  | kmovqRK (reg : RegId) (k : ShortId)
  /-- KMOVQ `m64, k1` (43_promoted_vex.md R300) -/
  | kmovqMK (m : Mem) (k : ShortId)
  /-- KMOVW `k1, k2/m16` (43_promoted_vex.md R301) -/
  | kmovwKKm (k : ShortId) (src : KRM)
  /-- KMOVW `k1, r32` (43_promoted_vex.md R301) -/
  | kmovwKR (k : ShortId) (b : RegId)
  /-- KMOVW `r32, k1` (43_promoted_vex.md R301) -/
  | kmovwRK (reg : RegId) (k : ShortId)
  /-- KMOVW `m16, k1` (43_promoted_vex.md R301) -/
  | kmovwMK (m : Mem) (k : ShortId)
  /-- LDTILECFG `m512` (43_promoted_vex.md R302) -/
  | ldtilecfg (m : Mem)
  /-- LZCNT `rv, rv/mv` (42_muldiv_misc.md R256) -/
  | lzcnt (sz : OSize) (reg : RegId) (rm : RM) (nf : Bool)
  /-- MOVBE `rv, rv/mv` (42_muldiv_misc.md R257) -/
  | movbeRRm (sz : OSize) (reg : RegId) (rm : RM)
  /-- MOVBE `rv/mv, rv` (42_muldiv_misc.md R257) -/
  | movbeRmR (sz : OSize) (rm : RM) (reg : RegId)
  /-- MOVDIR64B `ra, m512` (42_muldiv_misc.md R258) -/
  | movdir64b (reg : RegId) (m : Mem)
  /-- MOVDIRI `my, ry` (42_muldiv_misc.md R259) -/
  | movdiri (sz : YSize) (m : Mem) (reg : RegId)
  /-- MUL `r8/m8`, `rv/mv` (42_muldiv_misc.md R260) -/
  | mulRm (sz : OpSize) (rm : RM) (nf : Bool)
  /-- MULX `ry, ry, my/ry` (43_promoted_vex.md R303) -/
  | mulx (sz : YSize) (reg : RegId) (v : RegId) (rm : RM)
  /-- NEG `r8/m8 ; ND=1: r8, r8/m8`, `rv/mv ; ND=1: rv, rv/mv` (40_alu.md R190) -/
  | negRm (sz : OpSize) (rm : RM) (ndd : Option RegId) (nf : Bool)
  /-- NOT `r8/m8 ; ND=1: r8, r8/m8`, `rv/mv ; ND=1: rv, rv/mv` (40_alu.md R191) -/
  | notRm (sz : OpSize) (rm : RM) (ndd : Option RegId)
  /-- OR `r8, r8/m8 ; ND=1: r8, r8, r8/m8`, `rv, rv/mv ; ND=1: rv, rv, rv/mv` (40_alu.md R192) -/
  | orRRm (sz : OpSize) (reg : RegId) (rm : RM) (ndd : Option RegId) (nf : Bool)
  /-- OR `r8/m8, r8 ; ND=1: r8, r8/m8, r8`, `rv/mv, rv ; ND=1: rv, rv/mv, rv` (40_alu.md R192) -/
  | orRmR (sz : OpSize) (rm : RM) (reg : RegId) (ndd : Option RegId) (nf : Bool)
  /-- OR `r8/m8, imm8 ; ND=1: r8, r8/m8, imm8`, `rv/mv, imm16/imm32 ; ND=1: rv, rv/mv, imm16/imm32` (40_alu.md R192) -/
  | orRmImm (rm : RM) (imm : Imm) (ndd : Option RegId) (nf : Bool)
  /-- OR `rv/mv, imm8 ; ND=1: rv, rv/mv, imm8` (40_alu.md R192) -/
  | orRmI8 (sz : OSize) (rm : RM) (imm : BitVec 8) (ndd : Option RegId) (nf : Bool)
  /-- PDEP `ry, ry, my/ry` (43_promoted_vex.md R304) -/
  | pdep (sz : YSize) (reg : RegId) (v : RegId) (rm : RM)
  /-- PEXT `ry, ry, my/ry` (43_promoted_vex.md R305) -/
  | pext (sz : YSize) (reg : RegId) (v : RegId) (rm : RM)
  /-- POPCNT `rv, rv/mv` (42_muldiv_misc.md R261) -/
  | popcnt (sz : OSize) (reg : RegId) (rm : RM) (nf : Bool)
  /-- RCL `r8/m8, imm8 ; ND=1: r8, r8/m8, imm8`, `rv/mv, imm8 ; ND=1: rv, rv/mv, imm8` (41_shift_rotate.md R222) -/
  | rclRmI8 (sz : OpSize) (rm : RM) (imm : BitVec 8) (ndd : Option RegId)
  /-- RCL `r8/m8 ; ND=1: r8, r8/m8`, `rv/mv ; ND=1: rv, rv/mv` (41_shift_rotate.md R222) -/
  | rclRmOne (sz : OpSize) (rm : RM) (ndd : Option RegId)
  /-- RCL `r8/m8 ; ND=1: r8, r8/m8`, `rv/mv ; ND=1: rv, rv/mv` (41_shift_rotate.md R222) -/
  | rclRmCl (sz : OpSize) (rm : RM) (ndd : Option RegId)
  /-- RCR `r8/m8, imm8 ; ND=1: r8, r8/m8, imm8`, `rv/mv, imm8 ; ND=1: rv, rv/mv, imm8` (41_shift_rotate.md R223) -/
  | rcrRmI8 (sz : OpSize) (rm : RM) (imm : BitVec 8) (ndd : Option RegId)
  /-- RCR `r8/m8 ; ND=1: r8, r8/m8`, `rv/mv ; ND=1: rv, rv/mv` (41_shift_rotate.md R223) -/
  | rcrRmOne (sz : OpSize) (rm : RM) (ndd : Option RegId)
  /-- RCR `r8/m8 ; ND=1: r8, r8/m8`, `rv/mv ; ND=1: rv, rv/mv` (41_shift_rotate.md R223) -/
  | rcrRmCl (sz : OpSize) (rm : RM) (ndd : Option RegId)
  /-- ROL `r8/m8, imm8 ; ND=1: r8, r8/m8, imm8`, `rv/mv, imm8 ; ND=1: rv, rv/mv, imm8` (41_shift_rotate.md R224) -/
  | rolRmI8 (sz : OpSize) (rm : RM) (imm : BitVec 8) (ndd : Option RegId) (nf : Bool)
  /-- ROL `r8/m8 ; ND=1: r8, r8/m8`, `rv/mv ; ND=1: rv, rv/mv` (41_shift_rotate.md R224) -/
  | rolRmOne (sz : OpSize) (rm : RM) (ndd : Option RegId) (nf : Bool)
  /-- ROL `r8/m8 ; ND=1: r8, r8/m8`, `rv/mv ; ND=1: rv, rv/mv` (41_shift_rotate.md R224) -/
  | rolRmCl (sz : OpSize) (rm : RM) (ndd : Option RegId) (nf : Bool)
  /-- ROR `r8/m8, imm8 ; ND=1: r8, r8/m8, imm8`, `rv/mv, imm8 ; ND=1: rv, rv/mv, imm8` (41_shift_rotate.md R225) -/
  | rorRmI8 (sz : OpSize) (rm : RM) (imm : BitVec 8) (ndd : Option RegId) (nf : Bool)
  /-- ROR `r8/m8 ; ND=1: r8, r8/m8`, `rv/mv ; ND=1: rv, rv/mv` (41_shift_rotate.md R225) -/
  | rorRmOne (sz : OpSize) (rm : RM) (ndd : Option RegId) (nf : Bool)
  /-- ROR `r8/m8 ; ND=1: r8, r8/m8`, `rv/mv ; ND=1: rv, rv/mv` (41_shift_rotate.md R225) -/
  | rorRmCl (sz : OpSize) (rm : RM) (ndd : Option RegId) (nf : Bool)
  /-- RORX `ry, my/ry, imm8` (43_promoted_vex.md R306) -/
  | rorx (sz : YSize) (reg : RegId) (rm : RM) (imm : BitVec 8)
  /-- SAR `r8/m8, imm8 ; ND=1: r8, r8/m8, imm8`, `rv/mv, imm8 ; ND=1: rv, rv/mv, imm8` (41_shift_rotate.md R226) -/
  | sarRmI8 (sz : OpSize) (rm : RM) (imm : BitVec 8) (ndd : Option RegId) (nf : Bool)
  /-- SAR `r8/m8 ; ND=1: r8, r8/m8`, `rv/mv ; ND=1: rv, rv/mv` (41_shift_rotate.md R226) -/
  | sarRmOne (sz : OpSize) (rm : RM) (ndd : Option RegId) (nf : Bool)
  /-- SAR `r8/m8 ; ND=1: r8, r8/m8`, `rv/mv ; ND=1: rv, rv/mv` (41_shift_rotate.md R226) -/
  | sarRmCl (sz : OpSize) (rm : RM) (ndd : Option RegId) (nf : Bool)
  /-- SARX `ry, my/ry, ry` (43_promoted_vex.md R307) -/
  | sarx (sz : YSize) (reg : RegId) (rm : RM) (v : RegId)
  /-- SBB `r8/m8, r8 ; ND=1: r8, r8/m8, r8`, `rv/mv, rv ; ND=1: rv, rv/mv, rv` (40_alu.md R193) -/
  | sbbRmR (sz : OpSize) (rm : RM) (reg : RegId) (ndd : Option RegId)
  /-- SBB `r8, r8/m8 ; ND=1: r8, r8, r8/m8`, `rv, rv/mv ; ND=1: rv, rv, rv/mv` (40_alu.md R193) -/
  | sbbRRm (sz : OpSize) (reg : RegId) (rm : RM) (ndd : Option RegId)
  /-- SBB `r8/m8, imm8 ; ND=1: r8, r8/m8, imm8`, `rv/mv, imm16/imm32 ; ND=1: rv, rv/mv, imm16/imm32` (40_alu.md R193) -/
  | sbbRmImm (rm : RM) (imm : Imm) (ndd : Option RegId)
  /-- SBB `rv/mv, imm8 ; ND=1: rv, rv/mv, imm8` (40_alu.md R193) -/
  | sbbRmI8 (sz : OSize) (rm : RM) (imm : BitVec 8) (ndd : Option RegId)
  /-- SHA1MSG1 `xmm1, xmm2/m128` (44_promoted_system_crypto.md R341) -/
  | sha1msg1 (x : BitVec 4) (src : XRM)
  /-- SHA1MSG2 `xmm1, xmm2/m128` (44_promoted_system_crypto.md R342) -/
  | sha1msg2 (x : BitVec 4) (src : XRM)
  /-- SHA1NEXTE `xmm1, xmm2/m128` (44_promoted_system_crypto.md R343) -/
  | sha1nexte (x : BitVec 4) (src : XRM)
  /-- SHA1RNDS4 `xmm1, xmm2/m128, imm8` (44_promoted_system_crypto.md R344) -/
  | sha1rnds4 (x : BitVec 4) (src : XRM) (imm : BitVec 8)
  /-- SHA256MSG1 `xmm1, xmm2/m128` (44_promoted_system_crypto.md R345) -/
  | sha256msg1 (x : BitVec 4) (src : XRM)
  /-- SHA256MSG2 `xmm1, xmm2/m128` (44_promoted_system_crypto.md R346) -/
  | sha256msg2 (x : BitVec 4) (src : XRM)
  /-- SHA256RNDS2 `xmm1, xmm2/m128` (44_promoted_system_crypto.md R347) -/
  | sha256rnds2 (x : BitVec 4) (src : XRM)
  /-- SHL `r8/m8, imm8 ; ND=1: r8, r8/m8, imm8`, `rv/mv, imm8 ; ND=1: rv, rv/mv, imm8` (41_shift_rotate.md R227) -/
  | shlRmI8 (alt : Bool) (sz : OpSize) (rm : RM) (imm : BitVec 8) (ndd : Option RegId) (nf : Bool)
  /-- SHL `r8/m8 ; ND=1: r8, r8/m8`, `rv/mv ; ND=1: rv, rv/mv` (41_shift_rotate.md R227) -/
  | shlRmOne (alt : Bool) (sz : OpSize) (rm : RM) (ndd : Option RegId) (nf : Bool)
  /-- SHL `r8/m8 ; ND=1: r8, r8/m8`, `rv/mv ; ND=1: rv, rv/mv` (41_shift_rotate.md R227) -/
  | shlRmCl (alt : Bool) (sz : OpSize) (rm : RM) (ndd : Option RegId) (nf : Bool)
  /-- SHLD `rv/mv, rv, imm8 ; ND=1: rv, rv/mv, rv, imm8` (41_shift_rotate.md R228) -/
  | shldRmRI8 (sz : OSize) (rm : RM) (reg : RegId) (imm : BitVec 8) (ndd : Option RegId) (nf : Bool)
  /-- SHLD `rv/mv, rv ; ND=1: rv, rv/mv, rv` (41_shift_rotate.md R228) -/
  | shldRmRCl (sz : OSize) (rm : RM) (reg : RegId) (ndd : Option RegId) (nf : Bool)
  /-- SHLX `ry, my/ry, ry` (43_promoted_vex.md R308) -/
  | shlx (sz : YSize) (reg : RegId) (rm : RM) (v : RegId)
  /-- SHR `r8/m8, imm8 ; ND=1: r8, r8/m8, imm8`, `rv/mv, imm8 ; ND=1: rv, rv/mv, imm8` (41_shift_rotate.md R229) -/
  | shrRmI8 (sz : OpSize) (rm : RM) (imm : BitVec 8) (ndd : Option RegId) (nf : Bool)
  /-- SHR `r8/m8 ; ND=1: r8, r8/m8`, `rv/mv ; ND=1: rv, rv/mv` (41_shift_rotate.md R229) -/
  | shrRmOne (sz : OpSize) (rm : RM) (ndd : Option RegId) (nf : Bool)
  /-- SHR `r8/m8 ; ND=1: r8, r8/m8`, `rv/mv ; ND=1: rv, rv/mv` (41_shift_rotate.md R229) -/
  | shrRmCl (sz : OpSize) (rm : RM) (ndd : Option RegId) (nf : Bool)
  /-- SHRD `rv/mv, rv, imm8 ; ND=1: rv, rv/mv, rv, imm8` (41_shift_rotate.md R230) -/
  | shrdRmRI8 (sz : OSize) (rm : RM) (reg : RegId) (imm : BitVec 8) (ndd : Option RegId) (nf : Bool)
  /-- SHRD `rv/mv, rv ; ND=1: rv, rv/mv, rv` (41_shift_rotate.md R230) -/
  | shrdRmRCl (sz : OSize) (rm : RM) (reg : RegId) (ndd : Option RegId) (nf : Bool)
  /-- SHRX `ry, my/ry, ry` (43_promoted_vex.md R309) -/
  | shrx (sz : YSize) (reg : RegId) (rm : RM) (v : RegId)
  /-- STTILECFG `m512` (43_promoted_vex.md R310) -/
  | sttilecfg (m : Mem)
  /-- SUB `r8/m8, r8 ; ND=1: r8, r8/m8, r8`, `rv/mv, rv ; ND=1: rv, rv/mv, rv` (40_alu.md R194) -/
  | subRmR (sz : OpSize) (rm : RM) (reg : RegId) (ndd : Option RegId) (nf : Bool)
  /-- SUB `r8, r8/m8 ; ND=1: r8, r8, r8/m8`, `rv, rv/mv ; ND=1: rv, rv, rv/mv` (40_alu.md R194) -/
  | subRRm (sz : OpSize) (reg : RegId) (rm : RM) (ndd : Option RegId) (nf : Bool)
  /-- SUB `r8/m8, imm8 ; ND=1: r8, r8/m8, imm8`, `rv/mv, imm16/imm32 ; ND=1: rv, rv/mv, imm16/imm32` (40_alu.md R194) -/
  | subRmImm (rm : RM) (imm : Imm) (ndd : Option RegId) (nf : Bool)
  /-- SUB `rv/mv, imm8 ; ND=1: rv, rv/mv, imm8` (40_alu.md R194) -/
  | subRmI8 (sz : OSize) (rm : RM) (imm : BitVec 8) (ndd : Option RegId) (nf : Bool)
  /-- TILELOADD `tmm1, sibmem` (43_promoted_vex.md R311) -/
  | tileloadd (t : ShortId) (m : Mem)
  /-- TILELOADDT1 `tmm1, sibmem` (43_promoted_vex.md R312) -/
  | tileloaddt1 (t : ShortId) (m : Mem)
  /-- TILESTORED `sibmem, tmm1` (43_promoted_vex.md R313) -/
  | tilestored (m : Mem) (t : ShortId)
  /-- TZCNT `rv, rv/mv` (42_muldiv_misc.md R262) -/
  | tzcnt (sz : OSize) (reg : RegId) (rm : RM) (nf : Bool)
  /-- WRSSD `m32, r32` (44_promoted_system_crypto.md R353) -/
  | wrssd (m : Mem) (reg : RegId)
  /-- WRSSQ `m64, r64` (44_promoted_system_crypto.md R354) -/
  | wrssq (m : Mem) (reg : RegId)
  /-- WRUSSD `m32, r32` (44_promoted_system_crypto.md R355) -/
  | wrussd (m : Mem) (reg : RegId)
  /-- WRUSSQ `m64, r64` (44_promoted_system_crypto.md R356) -/
  | wrussq (m : Mem) (reg : RegId)
  /-- XOR `r8/m8, r8 ; ND=1: r8, r8/m8, r8`, `rv/mv, rv ; ND=1: rv, rv/mv, rv` (40_alu.md R195) -/
  | xorRmR (sz : OpSize) (rm : RM) (reg : RegId) (ndd : Option RegId) (nf : Bool)
  /-- XOR `r8, r8/m8 ; ND=1: r8, r8, r8/m8`, `rv, rv/mv ; ND=1: rv, rv, rv/mv` (40_alu.md R195) -/
  | xorRRm (sz : OpSize) (reg : RegId) (rm : RM) (ndd : Option RegId) (nf : Bool)
  /-- XOR `r8/m8, imm8 ; ND=1: r8, r8/m8, imm8`, `rv/mv, imm16/imm32 ; ND=1: rv, rv/mv, imm16/imm32` (40_alu.md R195) -/
  | xorRmImm (rm : RM) (imm : Imm) (ndd : Option RegId) (nf : Bool)
  /-- XOR `rv/mv, imm8 ; ND=1: rv, rv/mv, imm8` (40_alu.md R195) -/
  | xorRmI8 (sz : OSize) (rm : RM) (imm : BitVec 8) (ndd : Option RegId) (nf : Bool)
  -- New conditional instructions and PUSH2/POP2 (30_encoding.md R146 to R148)
  /-- CCMPscc `r8/m8, r8, dfv`, `rv/mv, rv, dfv` (46_conditional.md R393) -/
  | ccmpRmR (scc : Scc) (dfv : Dfv) (sz : OpSize) (rm : RM) (reg : RegId)
  /-- CCMPscc `r8, r8/m8, dfv`, `rv, rv/mv, dfv` (46_conditional.md R393) -/
  | ccmpRRm (scc : Scc) (dfv : Dfv) (sz : OpSize) (reg : RegId) (rm : RM)
  /-- CCMPscc `r8/m8, imm8, dfv`, `rv/mv, imm16/imm32, dfv` (46_conditional.md R393) -/
  | ccmpRmImm (scc : Scc) (dfv : Dfv) (rm : RM) (imm : Imm)
  /-- CCMPscc `rv/mv, imm8, dfv` (46_conditional.md R393) -/
  | ccmpRmI8 (scc : Scc) (dfv : Dfv) (sz : OSize) (rm : RM) (imm : BitVec 8)
  /-- CFCMOVcc `rv, rv/mv` (46_conditional.md R396) -/
  | cfcmovLoad (cc : Cond) (sz : OSize) (reg : RegId) (rm : RM)
  /-- CFCMOVcc `rv, rv` (46_conditional.md R397) -/
  | cfcmovReg (cc : Cond) (sz : OSize) (b : RegId) (reg : RegId)
  /-- CFCMOVcc `mv, rv` (46_conditional.md R397) -/
  | cfcmovStore (cc : Cond) (sz : OSize) (m : Mem) (reg : RegId)
  /-- CFCMOVcc `rv, rv, rv/mv` (46_conditional.md R398) -/
  | cfcmovNdd (cc : Cond) (sz : OSize) (v : RegId) (reg : RegId) (rm : RM)
  /-- CTESTscc `r8/m8, r8, dfv`, `rv/mv, rv, dfv` (46_conditional.md R394) -/
  | ctestRmR (scc : Scc) (dfv : Dfv) (sz : OpSize) (rm : RM) (reg : RegId)
  /-- CTESTscc `r8/m8, imm8, dfv`, `rv/mv, imm16/imm32, dfv` (46_conditional.md R394) -/
  | ctestRmImm (scc : Scc) (dfv : Dfv) (alt : Bool) (rm : RM) (imm : Imm)
  /-- SETcc `r8/m8` (46_conditional.md R400) -/
  | setcc (cc : Cond) (rm : RM) (zu : Bool)
  /-- POP2 `r64, r64` (47_push2_pop2.md R423) -/
  | pop2 (v : RegId) (b : RegId)
  /-- POP2P `r64, r64` (47_push2_pop2.md R424) -/
  | pop2p (v : RegId) (b : RegId)
  /-- PUSH2 `r64, r64` (47_push2_pop2.md R421) -/
  | push2 (v : RegId) (b : RegId)
  /-- PUSH2P `r64, r64` (47_push2_pop2.md R422) -/
  | push2p (v : RegId) (b : RegId)
  -- REX2-prefixed instructions (45_jmpabs_rex2.md R375) and JMPABS
  /-- REX2 ADD `r/m8, r8`, `r/m, r` (45_jmpabs_rex2.md R377) -/
  | rex2AddRmR (sz : OpSize) (rm : RM) (reg : RegId)
  /-- REX2 ADD `r8, r/m8`, `r, r/m` (45_jmpabs_rex2.md R377) -/
  | rex2AddRRm (sz : OpSize) (reg : RegId) (rm : RM)
  /-- REX2 ADD `r/m8, imm8`, `r/m, imm16/imm32` (45_jmpabs_rex2.md R377) -/
  | rex2AddRmImm (rm : RM) (imm : Imm)
  /-- REX2 ADD `r/m, imm8` (45_jmpabs_rex2.md R377) -/
  | rex2AddRmI8 (sz : OSize) (rm : RM) (imm : BitVec 8)
  /-- REX2 OR `r/m8, r8`, `r/m, r` (45_jmpabs_rex2.md R377) -/
  | rex2OrRmR (sz : OpSize) (rm : RM) (reg : RegId)
  /-- REX2 OR `r8, r/m8`, `r, r/m` (45_jmpabs_rex2.md R377) -/
  | rex2OrRRm (sz : OpSize) (reg : RegId) (rm : RM)
  /-- REX2 OR `r/m8, imm8`, `r/m, imm16/imm32` (45_jmpabs_rex2.md R377) -/
  | rex2OrRmImm (rm : RM) (imm : Imm)
  /-- REX2 OR `r/m, imm8` (45_jmpabs_rex2.md R377) -/
  | rex2OrRmI8 (sz : OSize) (rm : RM) (imm : BitVec 8)
  /-- REX2 ADC `r/m8, r8`, `r/m, r` (45_jmpabs_rex2.md R377) -/
  | rex2AdcRmR (sz : OpSize) (rm : RM) (reg : RegId)
  /-- REX2 ADC `r8, r/m8`, `r, r/m` (45_jmpabs_rex2.md R377) -/
  | rex2AdcRRm (sz : OpSize) (reg : RegId) (rm : RM)
  /-- REX2 ADC `r/m8, imm8`, `r/m, imm16/imm32` (45_jmpabs_rex2.md R377) -/
  | rex2AdcRmImm (rm : RM) (imm : Imm)
  /-- REX2 ADC `r/m, imm8` (45_jmpabs_rex2.md R377) -/
  | rex2AdcRmI8 (sz : OSize) (rm : RM) (imm : BitVec 8)
  /-- REX2 SBB `r/m8, r8`, `r/m, r` (45_jmpabs_rex2.md R377) -/
  | rex2SbbRmR (sz : OpSize) (rm : RM) (reg : RegId)
  /-- REX2 SBB `r8, r/m8`, `r, r/m` (45_jmpabs_rex2.md R377) -/
  | rex2SbbRRm (sz : OpSize) (reg : RegId) (rm : RM)
  /-- REX2 SBB `r/m8, imm8`, `r/m, imm16/imm32` (45_jmpabs_rex2.md R377) -/
  | rex2SbbRmImm (rm : RM) (imm : Imm)
  /-- REX2 SBB `r/m, imm8` (45_jmpabs_rex2.md R377) -/
  | rex2SbbRmI8 (sz : OSize) (rm : RM) (imm : BitVec 8)
  /-- REX2 AND `r/m8, r8`, `r/m, r` (45_jmpabs_rex2.md R377) -/
  | rex2AndRmR (sz : OpSize) (rm : RM) (reg : RegId)
  /-- REX2 AND `r8, r/m8`, `r, r/m` (45_jmpabs_rex2.md R377) -/
  | rex2AndRRm (sz : OpSize) (reg : RegId) (rm : RM)
  /-- REX2 AND `r/m8, imm8`, `r/m, imm16/imm32` (45_jmpabs_rex2.md R377) -/
  | rex2AndRmImm (rm : RM) (imm : Imm)
  /-- REX2 AND `r/m, imm8` (45_jmpabs_rex2.md R377) -/
  | rex2AndRmI8 (sz : OSize) (rm : RM) (imm : BitVec 8)
  /-- REX2 SUB `r/m8, r8`, `r/m, r` (45_jmpabs_rex2.md R377) -/
  | rex2SubRmR (sz : OpSize) (rm : RM) (reg : RegId)
  /-- REX2 SUB `r8, r/m8`, `r, r/m` (45_jmpabs_rex2.md R377) -/
  | rex2SubRRm (sz : OpSize) (reg : RegId) (rm : RM)
  /-- REX2 SUB `r/m8, imm8`, `r/m, imm16/imm32` (45_jmpabs_rex2.md R377) -/
  | rex2SubRmImm (rm : RM) (imm : Imm)
  /-- REX2 SUB `r/m, imm8` (45_jmpabs_rex2.md R377) -/
  | rex2SubRmI8 (sz : OSize) (rm : RM) (imm : BitVec 8)
  /-- REX2 XOR `r/m8, r8`, `r/m, r` (45_jmpabs_rex2.md R377) -/
  | rex2XorRmR (sz : OpSize) (rm : RM) (reg : RegId)
  /-- REX2 XOR `r8, r/m8`, `r, r/m` (45_jmpabs_rex2.md R377) -/
  | rex2XorRRm (sz : OpSize) (reg : RegId) (rm : RM)
  /-- REX2 XOR `r/m8, imm8`, `r/m, imm16/imm32` (45_jmpabs_rex2.md R377) -/
  | rex2XorRmImm (rm : RM) (imm : Imm)
  /-- REX2 XOR `r/m, imm8` (45_jmpabs_rex2.md R377) -/
  | rex2XorRmI8 (sz : OSize) (rm : RM) (imm : BitVec 8)
  /-- REX2 CMP `r/m8, r8`, `r/m, r` (45_jmpabs_rex2.md R378) -/
  | rex2CmpRmR (sz : OpSize) (rm : RM) (reg : RegId)
  /-- REX2 CMP `r8, r/m8`, `r, r/m` (45_jmpabs_rex2.md R378) -/
  | rex2CmpRRm (sz : OpSize) (reg : RegId) (rm : RM)
  /-- REX2 CMP `r/m8, imm8`, `r/m, imm16/imm32` (45_jmpabs_rex2.md R378) -/
  | rex2CmpRmImm (rm : RM) (imm : Imm)
  /-- REX2 CMP `r/m, imm8` (45_jmpabs_rex2.md R378) -/
  | rex2CmpRmI8 (sz : OSize) (rm : RM) (imm : BitVec 8)
  /-- REX2 TEST `r/m8, r8`, `r/m, r` (45_jmpabs_rex2.md R379) -/
  | rex2TestRmR (sz : OpSize) (rm : RM) (reg : RegId)
  /-- REX2 TEST `r/m8, imm8`, `r/m, imm16/imm32` (45_jmpabs_rex2.md R379) -/
  | rex2TestRmImm (alt : Bool) (rm : RM) (imm : Imm)
  /-- REX2 MOV `r/m8, r8`, `r/m, r` (45_jmpabs_rex2.md R380) -/
  | rex2MovRmR (sz : OpSize) (rm : RM) (reg : RegId)
  /-- REX2 MOV `r8, r/m8`, `r, r/m` (45_jmpabs_rex2.md R380) -/
  | rex2MovRRm (sz : OpSize) (reg : RegId) (rm : RM)
  /-- REX2 MOV `r/m8, imm8`, `r/m, imm16/imm32` (45_jmpabs_rex2.md R380) -/
  | rex2MovRmImm (rm : RM) (imm : Imm)
  /-- REX2 MOV `r8, imm8`, `r, imm16/imm32/imm64` (45_jmpabs_rex2.md R380) -/
  | rex2MovRImm (b : RegId) (imm : MovImm)
  /-- REX2 LEA `r, m` (45_jmpabs_rex2.md R381) -/
  | rex2Lea (sz : OSize) (reg : RegId) (m : Mem)
  /-- REX2 MOVSXD `r64, r/m32 (W=1) ; r32, r/m32 (W=0)` (45_jmpabs_rex2.md R382) -/
  | rex2Movsxd (sz : YSize) (reg : RegId) (rm : RM)
  /-- REX2 MOVZX `r, r/m8`, `r, r/m16` (45_jmpabs_rex2.md R382) -/
  | rex2Movzx (sz : OSize) (src : SrcSize) (reg : RegId) (rm : RM)
  /-- REX2 MOVSX `r, r/m8`, `r, r/m16` (45_jmpabs_rex2.md R382) -/
  | rex2Movsx (sz : OSize) (src : SrcSize) (reg : RegId) (rm : RM)
  /-- REX2 IMUL `r, r/m, imm16/imm32` (45_jmpabs_rex2.md R383) -/
  | rex2ImulRRmIz (reg : RegId) (rm : RM) (imm : ImmZ)
  /-- REX2 IMUL `r, r/m, imm8` (45_jmpabs_rex2.md R383) -/
  | rex2ImulRRmI8 (sz : OSize) (reg : RegId) (rm : RM) (imm : BitVec 8)
  /-- REX2 IMUL `r, r/m` (45_jmpabs_rex2.md R383) -/
  | rex2ImulRRm (sz : OSize) (reg : RegId) (rm : RM)
  /-- REX2 ROL `r/m8, imm8`, `r/m, imm8` (45_jmpabs_rex2.md R384) -/
  | rex2RolRmI8 (sz : OpSize) (rm : RM) (imm : BitVec 8)
  /-- REX2 ROR `r/m8, imm8`, `r/m, imm8` (45_jmpabs_rex2.md R384) -/
  | rex2RorRmI8 (sz : OpSize) (rm : RM) (imm : BitVec 8)
  /-- REX2 RCL `r/m8, imm8`, `r/m, imm8` (45_jmpabs_rex2.md R384) -/
  | rex2RclRmI8 (sz : OpSize) (rm : RM) (imm : BitVec 8)
  /-- REX2 RCR `r/m8, imm8`, `r/m, imm8` (45_jmpabs_rex2.md R384) -/
  | rex2RcrRmI8 (sz : OpSize) (rm : RM) (imm : BitVec 8)
  /-- REX2 SHL `r/m8, imm8`, `r/m, imm8` (45_jmpabs_rex2.md R384) -/
  | rex2ShlRmI8 (alt : Bool) (sz : OpSize) (rm : RM) (imm : BitVec 8)
  /-- REX2 SHR `r/m8, imm8`, `r/m, imm8` (45_jmpabs_rex2.md R384) -/
  | rex2ShrRmI8 (sz : OpSize) (rm : RM) (imm : BitVec 8)
  /-- REX2 SAR `r/m8, imm8`, `r/m, imm8` (45_jmpabs_rex2.md R384) -/
  | rex2SarRmI8 (sz : OpSize) (rm : RM) (imm : BitVec 8)
  /-- REX2 ROL `r/m8, 1`, `r/m, 1` (45_jmpabs_rex2.md R384) -/
  | rex2RolRmOne (sz : OpSize) (rm : RM)
  /-- REX2 ROR `r/m8, 1`, `r/m, 1` (45_jmpabs_rex2.md R384) -/
  | rex2RorRmOne (sz : OpSize) (rm : RM)
  /-- REX2 RCL `r/m8, 1`, `r/m, 1` (45_jmpabs_rex2.md R384) -/
  | rex2RclRmOne (sz : OpSize) (rm : RM)
  /-- REX2 RCR `r/m8, 1`, `r/m, 1` (45_jmpabs_rex2.md R384) -/
  | rex2RcrRmOne (sz : OpSize) (rm : RM)
  /-- REX2 SHL `r/m8, 1`, `r/m, 1` (45_jmpabs_rex2.md R384) -/
  | rex2ShlRmOne (alt : Bool) (sz : OpSize) (rm : RM)
  /-- REX2 SHR `r/m8, 1`, `r/m, 1` (45_jmpabs_rex2.md R384) -/
  | rex2ShrRmOne (sz : OpSize) (rm : RM)
  /-- REX2 SAR `r/m8, 1`, `r/m, 1` (45_jmpabs_rex2.md R384) -/
  | rex2SarRmOne (sz : OpSize) (rm : RM)
  /-- REX2 ROL `r/m8, CL`, `r/m, CL` (45_jmpabs_rex2.md R384) -/
  | rex2RolRmCl (sz : OpSize) (rm : RM)
  /-- REX2 ROR `r/m8, CL`, `r/m, CL` (45_jmpabs_rex2.md R384) -/
  | rex2RorRmCl (sz : OpSize) (rm : RM)
  /-- REX2 RCL `r/m8, CL`, `r/m, CL` (45_jmpabs_rex2.md R384) -/
  | rex2RclRmCl (sz : OpSize) (rm : RM)
  /-- REX2 RCR `r/m8, CL`, `r/m, CL` (45_jmpabs_rex2.md R384) -/
  | rex2RcrRmCl (sz : OpSize) (rm : RM)
  /-- REX2 SHL `r/m8, CL`, `r/m, CL` (45_jmpabs_rex2.md R384) -/
  | rex2ShlRmCl (alt : Bool) (sz : OpSize) (rm : RM)
  /-- REX2 SHR `r/m8, CL`, `r/m, CL` (45_jmpabs_rex2.md R384) -/
  | rex2ShrRmCl (sz : OpSize) (rm : RM)
  /-- REX2 SAR `r/m8, CL`, `r/m, CL` (45_jmpabs_rex2.md R384) -/
  | rex2SarRmCl (sz : OpSize) (rm : RM)
  /-- REX2 SHLD `r/m, r, imm8` (45_jmpabs_rex2.md R384) -/
  | rex2ShldRmRI8 (sz : OSize) (rm : RM) (reg : RegId) (imm : BitVec 8)
  /-- REX2 SHLD `r/m, r, CL` (45_jmpabs_rex2.md R384) -/
  | rex2ShldRmRCl (sz : OSize) (rm : RM) (reg : RegId)
  /-- REX2 SHRD `r/m, r, imm8` (45_jmpabs_rex2.md R384) -/
  | rex2ShrdRmRI8 (sz : OSize) (rm : RM) (reg : RegId) (imm : BitVec 8)
  /-- REX2 SHRD `r/m, r, CL` (45_jmpabs_rex2.md R384) -/
  | rex2ShrdRmRCl (sz : OSize) (rm : RM) (reg : RegId)
  /-- REX2 NOT `r/m8`, `r/m` (45_jmpabs_rex2.md R385) -/
  | rex2NotRm (sz : OpSize) (rm : RM)
  /-- REX2 NEG `r/m8`, `r/m` (45_jmpabs_rex2.md R385) -/
  | rex2NegRm (sz : OpSize) (rm : RM)
  /-- REX2 MUL `r/m8`, `r/m` (45_jmpabs_rex2.md R385) -/
  | rex2MulRm (sz : OpSize) (rm : RM)
  /-- REX2 IMUL `r/m8`, `r/m` (45_jmpabs_rex2.md R385) -/
  | rex2ImulRm (sz : OpSize) (rm : RM)
  /-- REX2 DIV `r/m8`, `r/m` (45_jmpabs_rex2.md R385) -/
  | rex2DivRm (sz : OpSize) (rm : RM)
  /-- REX2 IDIV `r/m8`, `r/m` (45_jmpabs_rex2.md R385) -/
  | rex2IdivRm (sz : OpSize) (rm : RM)
  /-- REX2 INC `r/m8`, `r/m` (45_jmpabs_rex2.md R386) -/
  | rex2IncRm (sz : OpSize) (rm : RM)
  /-- REX2 DEC `r/m8`, `r/m` (45_jmpabs_rex2.md R386) -/
  | rex2DecRm (sz : OpSize) (rm : RM)
  /-- REX2 CMOVcc `r, r/m` (45_jmpabs_rex2.md R374) -/
  | rex2Cmov (cc : Cond) (sz : OSize) (reg : RegId) (rm : RM)
  /-- REX2 SETcc `r/m8` (45_jmpabs_rex2.md R387) -/
  | rex2Setcc (cc : Cond) (rm : RM)
  /-- REX2 PUSH `r/m64` (45_jmpabs_rex2.md R388) -/
  | rex2PushRm (rm : RM)
  /-- REX2 POP `r/m64` (45_jmpabs_rex2.md R388) -/
  | rex2PopRm (rm : RM)
  /-- REX2 PUSH `r64` (45_jmpabs_rex2.md R372) -/
  | rex2PushR (b : RegId)
  /-- REX2 PUSHP `r64` (45_jmpabs_rex2.md R372) -/
  | rex2Pushp (b : RegId)
  /-- REX2 POP `r64` (45_jmpabs_rex2.md R373) -/
  | rex2PopR (b : RegId)
  /-- REX2 POPP `r64` (45_jmpabs_rex2.md R373) -/
  | rex2Popp (b : RegId)
  /-- REX2 JMPABS `target64` (45_jmpabs_rex2.md R370) -/
  | jmpabs (target : Word)
  deriving DecidableEq, Repr

end Sys2Proof
end

