-- ==== Sys2Proof/Machine/Ops.lean ====
section
/-! DEFINITION. The named operations over registers and memory that every meaning uses: taking an exception, the
enabling check, register reads and writes, the memory list, and the checked memory access. -/
namespace Sys2Proof.Machine

/-- The three outcomes of this machine's step. -/
abbrev Result := Host.Outcome State Fault Refusal

/-- Taking an exception, for every exception of the machine: a precise, terminal fault that carries the name and the
error code; the state before the instruction is the step's own argument (60_exceptions.md R431, R433). The spec
describes no delivery and no return (R433, R434), so nothing is saved and no handler is entered. -/
def takeException (e : Exc) : Result := .fault (.exception e)

/-- The vector number of an exception, for information (60_exceptions.md R430). -/
def Exc.vector : Exc → Nat
  | .de => 0
  | .db => 1
  | .ud => 6
  | .nm => 7
  | .ss => 12
  | .gp => 13
  | .pf _ => 14
  | .ac => 17

/-- The error code of an exception: 0 for #SS, #GP and #AC, the oracle's code for #PF, none for the others
(60_exceptions.md R430). -/
def Exc.errorCode : Exc → Option Nat
  | .de => none
  | .db => none
  | .ud => none
  | .nm => none
  | .ss => some 0
  | .gp => some 0
  | .pf c => some c
  | .ac => some 0

/-- The end of a meaning: the next state, or the exception that its checks raised. -/
def finish (r : Except Exc State) : Result :=
  match r with
  | .ok s => .next s
  | .error e => takeException e

/-- `e` unless the condition holds. -/
def require (b : Bool) (e : Exc) : Except Exc Unit :=
  if b then .ok () else .error e

/-- `APX_ENABLED`: 64-bit mode, APX_F, CR4.OSXSAVE and XCR0[19] (10_state.md R38, Table 3.8 in R36). -/
def State.apxEnabled (s : State) : Bool :=
  s.mode == .mode64 && s.params.features.apxF && s.ctrl.cr4Osxsave && s.ctrl.xcr0Apx

/-- The enabling check that comes before every other check of an instruction: #UD unless APX is enabled and the
instruction's own conditions hold (60_exceptions.md R437, R438). -/
def gate (s : State) (ok : Bool) : Except Exc Unit :=
  require (s.apxEnabled && ok) .ud

/-! ### General-purpose registers -/

/-- `gpr[i]`, all 64 bits (00_scope.md R13). -/
def State.getGpr (s : State) (i : RegId) : Word := s.gpr[i.toNat]

/-- The low N bits of `gpr[i]` (10_state.md R22). -/
def State.readGpr (s : State) (N : Nat) (i : RegId) : BitVec N := (s.getGpr i).setWidth N

/-- Writes all 64 bits of a GPR. A nonzero value written to an EGPR marks the APX component in use; whether a zero does
is open (10_state.md R48; notes/assumptions/8.md). -/
def State.setGpr (s : State) (i : RegId) (v : Word) : State :=
  { s with
    gpr := s.gpr.set i.toNat v
    xinuse19 := s.xinuse19 || (decide (16 ≤ i.toNat) && (v != 0 || Config.zeroWriteSetsXinuse)) }

/-- The value a GPR holds after an N-bit write (10_state.md R27): 64-bit and 32-bit results and zero-upper writes clear
the bits above N, other 8-bit and 16-bit writes keep them. -/
def mergeGpr (N : Nat) (zu : Bool) (old : Word) (v : BitVec N) : Word :=
  if N = 64 ∨ N = 32 ∨ zu = true then v.setWidth 64
  else (old >>> N) <<< N ||| v.setWidth 64

/-- `WriteGpr(i, N, v, zu)` (10_state.md R27). -/
def State.writeGpr (s : State) (N : Nat) (i : RegId) (v : BitVec N) (zu : Bool) : State :=
  s.setGpr i (mergeGpr N zu (s.getGpr i) v)

/-- Replaces the six status flags (10_state.md R32). -/
def State.setFlags (s : State) (f : Flags) : State := { s with flags := f }

/-- Replaces the six status flags unless NF suppresses the update (10_state.md R32). -/
def State.setFlagsUnless (s : State) (nf : Bool) (f : Flags) : State := if nf then s else s.setFlags f

/-- `any` for a flag: the use number tells apart the uses of one step (00_scope.md R13). -/
def State.anyFlag (s : State) (use : Nat) : Bool := Config.freeFlag s.free use

/-- All six flags `any` (42_muldiv_misc.md R253). -/
def State.anyFlags (s : State) : Flags :=
  ⟨s.anyFlag 0, s.anyFlag 1, s.anyFlag 2, s.anyFlag 3, s.anyFlag 4, s.anyFlag 5⟩

/-- `xmm[i]` (10_state.md R51). -/
def State.getXmm (s : State) (i : BitVec 4) : Xmm := s.xmm[i.toNat]

/-- Writes bits 127:0 of an XMM register; upper vector bits are no state of the machine (10_state.md R51). -/
def State.setXmm (s : State) (i : BitVec 4) (v : Xmm) : State := { s with xmm := s.xmm.set i.toNat v }

/-- `k[i]` (10_state.md R50). -/
def State.getK (s : State) (i : BitVec 3) : Word := s.k[i.toNat]

/-- Writes an opmask register. -/
def State.setK (s : State) (i : BitVec 3) (v : Word) : State := { s with k := s.k.set i.toNat v }

/-! ### The memory list -/

/-- The byte at an address; an unlisted address reads as 0 (notes/assumptions/3.md). -/
def memRead : Memory → Nat → Byte
  | [], _ => 0
  | (c, d) :: m, a => if c = a then d else memRead m a

/-- Writes one byte and keeps the canonical form: writing 0 removes the entry. -/
def memWrite : Memory → Nat → Byte → Memory
  | [], a, b => if b = 0 then [] else [(a, b)]
  | (c, d) :: m, a, b =>
    if a < c then (if b = 0 then (c, d) :: m else (a, b) :: (c, d) :: m)
    else if a = c then (if b = 0 then m else (a, b) :: m)
    else (c, d) :: memWrite m a b

/-- Every address of the list is at least `lo`, addresses rise strictly and stay below 2^64, and no byte is 0. -/
def memWfFrom : Nat → Memory → Bool
  | _, [] => true
  | lo, (c, d) :: m => decide (lo ≤ c) && decide (c < 2 ^ 64) && d != 0 && memWfFrom (c + 1) m

/-- The canonical form of memory. -/
def Memory.wf (m : Memory) : Bool := memWfFrom 0 m

/-- The bytes at `a`, `a + 1`, ..., n of them, addresses taken modulo 2^64. -/
def readBytes (m : Memory) (a : Word) : Nat → List Byte
  | 0 => []
  | n + 1 => memRead m a.toNat :: readBytes m (a + 1) n

/-- Writes bytes at `a`, `a + 1`, ..., addresses taken modulo 2^64. -/
def writeBytes (m : Memory) (a : Word) : List Byte → Memory
  | [] => m
  | b :: bs => writeBytes (memWrite m a.toNat b) (a + 1) bs

/-- The little-endian value of a list of bytes (20_memory.md R61). -/
def leValue : List Byte → Nat
  | [] => 0
  | b :: bs => b.toNat + 256 * leValue bs

/-- The n bytes of a value, least significant first (20_memory.md R61). -/
def leBytes : Nat → Nat → List Byte
  | 0, _ => []
  | n + 1, v => BitVec.ofNat 8 v :: leBytes n (v / 256)

/-- The byte of memory at a 64-bit address: the model's read of one byte. -/
def State.byteAt (s : State) (a : Word) : Byte := memRead s.mem a.toNat

/-! ### The checked access of 20_memory.md R70 -/

/-- The number of bits of a linear address (20_memory.md R64). -/
def LaWidth.bits : LaWidth → Nat
  | .la48 => 48
  | .la57 => 57

/-- `sext_64(a[LA_WIDTH-1:0]) == a` (20_memory.md R64). -/
def canonical (w : LaWidth) (a : Word) : Bool :=
  (a.setWidth w.bits).signExtend 64 == a

/-- One checked access: where, how many bytes, which kind, whether it references the SS segment, whether its exception
class lists #AC, and its mandatory alignment (1 where there is none). -/
structure Access where
  addr  : Word
  bytes : Nat
  kind  : AccessKind
  ss    : Bool
  ac    : Bool
  align : Nat
  deriving DecidableEq, Repr

/-- The oracle's answer for one byte (20_memory.md R72). -/
def translateByte (faults : List PageFault) (kind : AccessKind) (a : Nat) : Option Nat :=
  match faults with
  | [] => none
  | f :: fs => if f.kind = kind ∧ f.lo ≤ a ∧ a ≤ f.hi then some f.code else translateByte fs kind a

/-- The oracle's answer for the bytes at `a`, `a + 1`, ..., n of them: the first that faults decides. -/
def translateBytes (faults : List PageFault) (kind : AccessKind) (a : Word) : Nat → Option Nat
  | 0 => none
  | n + 1 =>
    match translateByte faults kind a.toNat with
    | some code => some code
    | none => translateBytes faults kind (a + 1) n

/-- The canonical check covers the first and the last byte of the access (20_memory.md R65). -/
def Access.canonicalOk (x : Access) (w : LaWidth) : Bool :=
  canonical w x.addr && canonical w (x.addr + BitVec.ofNat 64 (x.bytes - 1))

/-- An access of 2, 4 or 8 bytes whose address is no multiple of its size (20_memory.md R68). -/
def Access.unaligned (x : Access) : Bool :=
  (x.bytes == 2 || x.bytes == 4 || x.bytes == 8) && x.addr.toNat % x.bytes != 0

/-- The checks of 20_memory.md R70 in its order: canonical form (#SS(0) or #GP(0)), mandatory alignment (#GP(0)),
translation of every byte (#PF), alignment checking (#AC(0)). -/
def checkAccess (s : State) (x : Access) : Except Exc Unit :=
  if x.canonicalOk s.params.laWidth = false then .error (if x.ss then .ss else .gp)
  else if x.addr.toNat % x.align ≠ 0 then .error .gp
  else
    match translateBytes s.params.pageFaults x.kind x.addr x.bytes with
    | some code => .error (.pf code)
    | none =>
      if (x.ac && s.params.acEnabled && decide (s.cpl = 3) && x.unaligned) = true then .error .ac else .ok ()

/-- `MemRead` as an N-bit value, after the checks (00_scope.md R13). -/
def State.load (s : State) (N : Nat) (x : Access) : Except Exc (BitVec N) := do
  checkAccess s x
  pure (BitVec.ofNat N (leValue (readBytes s.mem x.addr x.bytes)))

/-- Stores the low bytes of a value with no check. -/
def State.poke (s : State) (a : Word) (n v : Nat) : State :=
  { s with mem := writeBytes s.mem a (leBytes n v) }

/-- `MemWrite` of an N-bit value, after the checks (00_scope.md R13). -/
def State.store (s : State) (N : Nat) (x : Access) (v : BitVec N) : Except Exc State := do
  checkAccess s x
  pure (s.poke x.addr x.bytes v.toNat)

end Sys2Proof.Machine
end

