-- ==== Sys2Proof/WellFormed.lean ====
section
/-! DEFINITION. Which instructions of `Instr` an encoding can express. -/
namespace Sys2Proof

/-- A ModRM or SIB base without displacement cannot have low bits 101, which select another form
(30_encoding.md R153, R154). -/
def dispOk (id : RegId) : Disp → Bool
  | .none => id.setWidth 3 != (5 : BitVec 3)
  | .d8 _ => true
  | .d32 _ => true

/-- RSP is no index register (30_encoding.md R154). -/
def indexOk : Option Index → Bool
  | none => true
  | some i => i.id != 4

/-- A memory form is expressible (30_encoding.md R153, R154): a base whose low bits are 100 needs a SIB byte. -/
def MemForm.wf : MemForm → Bool
  | .base id d => id.setWidth 3 != (4 : BitVec 3) && dispOk id d
  | .sib id i d => indexOk i && dispOk id d
  | .sibNoBase i _ => indexOk i
  | .ripRel _ => true

/-- A form with a SIB byte, which the tile instructions require (30_encoding.md R157). -/
def MemForm.isSib : MemForm → Bool
  | .base _ _ => false
  | .sib _ _ _ => true
  | .sibNoBase _ _ => true
  | .ripRel _ => false

/-- An expressible memory operand. -/
def Mem.wf (m : Mem) : Bool := m.form.wf

/-- An expressible sibmem operand. -/
def Mem.wfSib (m : Mem) : Bool := m.form.wf && m.form.isSib

/-- An expressible r/m operand. -/
def RM.wf : RM → Bool
  | .reg _ => true
  | .mem m => m.wf

/-- An expressible xmm/m128 operand. -/
def XRM.wf : XRM → Bool
  | .xmm _ => true
  | .mem m => m.wf

/-- An expressible mask/memory operand. -/
def KRM.wf : KRM → Bool
  | .k _ => true
  | .mem m => m.wf

/-- An instruction some bytes encode: its memory operand is expressible. -/
def Instr.wf : Instr → Bool
  | .adcRmR _ rm _ _ => rm.wf
  | .adcRRm _ _ rm _ => rm.wf
  | .adcRmImm rm _ _ => rm.wf
  | .adcRmI8 _ rm _ _ => rm.wf
  | .adcx _ _ rm _ => rm.wf
  | .addRmR _ rm _ _ _ => rm.wf
  | .addRRm _ _ rm _ _ => rm.wf
  | .addRmImm rm _ _ _ => rm.wf
  | .addRmI8 _ rm _ _ _ => rm.wf
  | .adox _ _ rm _ => rm.wf
  | .aesdec128kl _ m => m.wf
  | .aesdec256kl _ m => m.wf
  | .aesdecwide128kl m => m.wf
  | .aesdecwide256kl m => m.wf
  | .aesenc128kl _ m => m.wf
  | .aesenc256kl _ m => m.wf
  | .aesencwide128kl m => m.wf
  | .aesencwide256kl m => m.wf
  | .andRmR _ rm _ _ _ => rm.wf
  | .andRRm _ _ rm _ _ => rm.wf
  | .andRmImm rm _ _ _ => rm.wf
  | .andRmI8 _ rm _ _ _ => rm.wf
  | .andn _ _ _ rm _ => rm.wf
  | .bextr _ _ rm _ _ => rm.wf
  | .blsi _ _ rm _ => rm.wf
  | .blsmsk _ _ rm _ => rm.wf
  | .blsr _ _ rm _ => rm.wf
  | .bzhi _ _ rm _ _ => rm.wf
  | .cmov _ _ _ _ rm => rm.wf
  | .cmpccxadd _ _ m _ _ => m.wf
  | .crc32Rm8 _ _ rm => rm.wf
  | .crc32Rm _ _ rm => rm.wf
  | .decRm _ rm _ _ => rm.wf
  | .divRm _ rm _ => rm.wf
  | .encodekey128 _ _ => true
  | .encodekey256 _ _ => true
  | .enqcmd _ m => m.wf
  | .enqcmds _ m => m.wf
  | .idivRm _ rm _ => rm.wf
  | .imulRRmIz _ rm _ _ _ => rm.wf
  | .imulRRmI8 _ _ rm _ _ _ => rm.wf
  | .imulRRm _ _ rm _ _ => rm.wf
  | .imulRm _ rm _ => rm.wf
  | .incRm _ rm _ _ => rm.wf
  | .invept _ m => m.wf
  | .invpcid _ m => m.wf
  | .invvpid _ m => m.wf
  | .kmovbKKm _ src => src.wf
  | .kmovbKR _ _ => true
  | .kmovbRK _ _ => true
  | .kmovbMK m _ => m.wf
  | .kmovdRK _ _ => true
  | .kmovdKKm _ src => src.wf
  | .kmovdKR _ _ => true
  | .kmovdMK m _ => m.wf
  | .kmovqKKm _ src => src.wf
  | .kmovqKR _ _ => true
  | .kmovqRK _ _ => true
  | .kmovqMK m _ => m.wf
  | .kmovwKKm _ src => src.wf
  | .kmovwKR _ _ => true
  | .kmovwRK _ _ => true
  | .kmovwMK m _ => m.wf
  | .ldtilecfg m => m.wf
  | .lzcnt _ _ rm _ => rm.wf
  | .movbeRRm _ _ rm => rm.wf
  | .movbeRmR _ rm _ => rm.wf
  | .movdir64b _ m => m.wf
  | .movdiri _ m _ => m.wf
  | .mulRm _ rm _ => rm.wf
  | .mulx _ _ _ rm => rm.wf
  | .negRm _ rm _ _ => rm.wf
  | .notRm _ rm _ => rm.wf
  | .orRRm _ _ rm _ _ => rm.wf
  | .orRmR _ rm _ _ _ => rm.wf
  | .orRmImm rm _ _ _ => rm.wf
  | .orRmI8 _ rm _ _ _ => rm.wf
  | .pdep _ _ _ rm => rm.wf
  | .pext _ _ _ rm => rm.wf
  | .popcnt _ _ rm _ => rm.wf
  | .rclRmI8 _ rm _ _ => rm.wf
  | .rclRmOne _ rm _ => rm.wf
  | .rclRmCl _ rm _ => rm.wf
  | .rcrRmI8 _ rm _ _ => rm.wf
  | .rcrRmOne _ rm _ => rm.wf
  | .rcrRmCl _ rm _ => rm.wf
  | .rolRmI8 _ rm _ _ _ => rm.wf
  | .rolRmOne _ rm _ _ => rm.wf
  | .rolRmCl _ rm _ _ => rm.wf
  | .rorRmI8 _ rm _ _ _ => rm.wf
  | .rorRmOne _ rm _ _ => rm.wf
  | .rorRmCl _ rm _ _ => rm.wf
  | .rorx _ _ rm _ => rm.wf
  | .sarRmI8 _ rm _ _ _ => rm.wf
  | .sarRmOne _ rm _ _ => rm.wf
  | .sarRmCl _ rm _ _ => rm.wf
  | .sarx _ _ rm _ => rm.wf
  | .sbbRmR _ rm _ _ => rm.wf
  | .sbbRRm _ _ rm _ => rm.wf
  | .sbbRmImm rm _ _ => rm.wf
  | .sbbRmI8 _ rm _ _ => rm.wf
  | .sha1msg1 _ src => src.wf
  | .sha1msg2 _ src => src.wf
  | .sha1nexte _ src => src.wf
  | .sha1rnds4 _ src _ => src.wf
  | .sha256msg1 _ src => src.wf
  | .sha256msg2 _ src => src.wf
  | .sha256rnds2 _ src => src.wf
  | .shlRmI8 _ _ rm _ _ _ => rm.wf
  | .shlRmOne _ _ rm _ _ => rm.wf
  | .shlRmCl _ _ rm _ _ => rm.wf
  | .shldRmRI8 _ rm _ _ _ _ => rm.wf
  | .shldRmRCl _ rm _ _ _ => rm.wf
  | .shlx _ _ rm _ => rm.wf
  | .shrRmI8 _ rm _ _ _ => rm.wf
  | .shrRmOne _ rm _ _ => rm.wf
  | .shrRmCl _ rm _ _ => rm.wf
  | .shrdRmRI8 _ rm _ _ _ _ => rm.wf
  | .shrdRmRCl _ rm _ _ _ => rm.wf
  | .shrx _ _ rm _ => rm.wf
  | .sttilecfg m => m.wf
  | .subRmR _ rm _ _ _ => rm.wf
  | .subRRm _ _ rm _ _ => rm.wf
  | .subRmImm rm _ _ _ => rm.wf
  | .subRmI8 _ rm _ _ _ => rm.wf
  | .tileloadd _ m => m.wfSib
  | .tileloaddt1 _ m => m.wfSib
  | .tilestored m _ => m.wfSib
  | .tzcnt _ _ rm _ => rm.wf
  | .wrssd m _ => m.wf
  | .wrssq m _ => m.wf
  | .wrussd m _ => m.wf
  | .wrussq m _ => m.wf
  | .xorRmR _ rm _ _ _ => rm.wf
  | .xorRRm _ _ rm _ _ => rm.wf
  | .xorRmImm rm _ _ _ => rm.wf
  | .xorRmI8 _ rm _ _ _ => rm.wf
  | .ccmpRmR _ _ _ rm _ => rm.wf
  | .ccmpRRm _ _ _ _ rm => rm.wf
  | .ccmpRmImm _ _ rm _ => rm.wf
  | .ccmpRmI8 _ _ _ rm _ => rm.wf
  | .cfcmovLoad _ _ _ rm => rm.wf
  | .cfcmovReg _ _ _ _ => true
  | .cfcmovStore _ _ m _ => m.wf
  | .cfcmovNdd _ _ _ _ rm => rm.wf
  | .ctestRmR _ _ _ rm _ => rm.wf
  | .ctestRmImm _ _ _ rm _ => rm.wf
  | .setcc _ rm _ => rm.wf
  | .pop2 _ _ => true
  | .pop2p _ _ => true
  | .push2 _ _ => true
  | .push2p _ _ => true
  | .rex2AddRmR _ rm _ => rm.wf
  | .rex2AddRRm _ _ rm => rm.wf
  | .rex2AddRmImm rm _ => rm.wf
  | .rex2AddRmI8 _ rm _ => rm.wf
  | .rex2OrRmR _ rm _ => rm.wf
  | .rex2OrRRm _ _ rm => rm.wf
  | .rex2OrRmImm rm _ => rm.wf
  | .rex2OrRmI8 _ rm _ => rm.wf
  | .rex2AdcRmR _ rm _ => rm.wf
  | .rex2AdcRRm _ _ rm => rm.wf
  | .rex2AdcRmImm rm _ => rm.wf
  | .rex2AdcRmI8 _ rm _ => rm.wf
  | .rex2SbbRmR _ rm _ => rm.wf
  | .rex2SbbRRm _ _ rm => rm.wf
  | .rex2SbbRmImm rm _ => rm.wf
  | .rex2SbbRmI8 _ rm _ => rm.wf
  | .rex2AndRmR _ rm _ => rm.wf
  | .rex2AndRRm _ _ rm => rm.wf
  | .rex2AndRmImm rm _ => rm.wf
  | .rex2AndRmI8 _ rm _ => rm.wf
  | .rex2SubRmR _ rm _ => rm.wf
  | .rex2SubRRm _ _ rm => rm.wf
  | .rex2SubRmImm rm _ => rm.wf
  | .rex2SubRmI8 _ rm _ => rm.wf
  | .rex2XorRmR _ rm _ => rm.wf
  | .rex2XorRRm _ _ rm => rm.wf
  | .rex2XorRmImm rm _ => rm.wf
  | .rex2XorRmI8 _ rm _ => rm.wf
  | .rex2CmpRmR _ rm _ => rm.wf
  | .rex2CmpRRm _ _ rm => rm.wf
  | .rex2CmpRmImm rm _ => rm.wf
  | .rex2CmpRmI8 _ rm _ => rm.wf
  | .rex2TestRmR _ rm _ => rm.wf
  | .rex2TestRmImm _ rm _ => rm.wf
  | .rex2MovRmR _ rm _ => rm.wf
  | .rex2MovRRm _ _ rm => rm.wf
  | .rex2MovRmImm rm _ => rm.wf
  | .rex2MovRImm _ _ => true
  | .rex2Lea _ _ m => m.wf
  | .rex2Movsxd _ _ rm => rm.wf
  | .rex2Movzx _ _ _ rm => rm.wf
  | .rex2Movsx _ _ _ rm => rm.wf
  | .rex2ImulRRmIz _ rm _ => rm.wf
  | .rex2ImulRRmI8 _ _ rm _ => rm.wf
  | .rex2ImulRRm _ _ rm => rm.wf
  | .rex2RolRmI8 _ rm _ => rm.wf
  | .rex2RorRmI8 _ rm _ => rm.wf
  | .rex2RclRmI8 _ rm _ => rm.wf
  | .rex2RcrRmI8 _ rm _ => rm.wf
  | .rex2ShlRmI8 _ _ rm _ => rm.wf
  | .rex2ShrRmI8 _ rm _ => rm.wf
  | .rex2SarRmI8 _ rm _ => rm.wf
  | .rex2RolRmOne _ rm => rm.wf
  | .rex2RorRmOne _ rm => rm.wf
  | .rex2RclRmOne _ rm => rm.wf
  | .rex2RcrRmOne _ rm => rm.wf
  | .rex2ShlRmOne _ _ rm => rm.wf
  | .rex2ShrRmOne _ rm => rm.wf
  | .rex2SarRmOne _ rm => rm.wf
  | .rex2RolRmCl _ rm => rm.wf
  | .rex2RorRmCl _ rm => rm.wf
  | .rex2RclRmCl _ rm => rm.wf
  | .rex2RcrRmCl _ rm => rm.wf
  | .rex2ShlRmCl _ _ rm => rm.wf
  | .rex2ShrRmCl _ rm => rm.wf
  | .rex2SarRmCl _ rm => rm.wf
  | .rex2ShldRmRI8 _ rm _ _ => rm.wf
  | .rex2ShldRmRCl _ rm _ => rm.wf
  | .rex2ShrdRmRI8 _ rm _ _ => rm.wf
  | .rex2ShrdRmRCl _ rm _ => rm.wf
  | .rex2NotRm _ rm => rm.wf
  | .rex2NegRm _ rm => rm.wf
  | .rex2MulRm _ rm => rm.wf
  | .rex2ImulRm _ rm => rm.wf
  | .rex2DivRm _ rm => rm.wf
  | .rex2IdivRm _ rm => rm.wf
  | .rex2IncRm _ rm => rm.wf
  | .rex2DecRm _ rm => rm.wf
  | .rex2Cmov _ _ _ rm => rm.wf
  | .rex2Setcc _ rm => rm.wf
  | .rex2PushRm rm => rm.wf
  | .rex2PopRm rm => rm.wf
  | .rex2PushR _ => true
  | .rex2Pushp _ => true
  | .rex2PopR _ => true
  | .rex2Popp _ => true
  | .jmpabs _ => true

end Sys2Proof
end

