-- ==== Sys2Proof/Decode.lean ====
section
/-! DEFINITION. The decoder, total on any bytes, and after it the encoder. A row of the opcode table is found by map, pp,
opcode and digit; the checks that raise #UD stand beside it (30_encoding.md, 60_exceptions.md R438, R439). -/
namespace Sys2Proof
open Machine (leBytes leValue)

/-! ### Fields -/

/-- A byte from its bits, bit 7 first. -/
def byteOf (b7 b6 b5 b4 b3 b2 b1 b0 : Bool) : Byte :=
  BitVec.ofBool b7 ++ BitVec.ofBool b6 ++ BitVec.ofBool b5 ++ BitVec.ofBool b4 ++ BitVec.ofBool b3 ++
    BitVec.ofBool b2 ++ BitVec.ofBool b1 ++ BitVec.ofBool b0

/-- A 5-bit register id from its two extension bits and its three low bits (30_encoding.md R104, R116). -/
def idOf (b4 b3 : Bool) (low : BitVec 3) : RegId := BitVec.ofBool b4 ++ BitVec.ofBool b3 ++ low

/-- The three low bits of a register id, as they stand in ModRM, SIB or the opcode. -/
def low3 (i : RegId) : BitVec 3 := i.setWidth 3

/-- A byte from a 2-bit and two 3-bit fields: the layout of ModRM and SIB (30_encoding.md R152, R154). -/
def byte233 (a : BitVec 2) (b c : BitVec 3) : Byte := a ++ b ++ c

/-- ModRM.mod, or SIB.scale. -/
def field2 (b : Byte) : BitVec 2 := b.extractLsb' 6 2
/-- ModRM.reg, or SIB.index. -/
def fieldHi (b : Byte) : BitVec 3 := b.extractLsb' 3 3
/-- ModRM.rm, or SIB.base. -/
def fieldLo (b : Byte) : BitVec 3 := b.extractLsb' 0 3

/-- A condition code from its number (10_state.md R33). -/
def Cond.ofBits (c : BitVec 4) : Cond :=
  match c.toNat with
  | 0 => .o | 1 => .no | 2 => .b | 3 => .nb | 4 => .z | 5 => .nz | 6 => .be | 7 => .nbe
  | 8 => .s | 9 => .ns | 10 => .p | 11 => .np | 12 => .l | 13 => .nl | 14 => .le | _ => .nle

/-- The number of a condition code. -/
def Cond.bits : Cond → BitVec 4
  | .o => 0 | .no => 1 | .b => 2 | .nb => 3 | .z => 4 | .nz => 5 | .be => 6 | .nbe => 7
  | .s => 8 | .ns => 9 | .p => 10 | .np => 11 | .l => 12 | .nl => 13 | .le => 14 | .nle => 15

/-- A source condition code from its number (46_conditional.md R391). -/
def Scc.ofBits (c : BitVec 4) : Scc :=
  match c.toNat with
  | 0 => .o | 1 => .no | 2 => .b | 3 => .nb | 4 => .z | 5 => .nz | 6 => .be | 7 => .nbe
  | 8 => .s | 9 => .ns | 10 => .t | 11 => .f | 12 => .l | 13 => .nl | 14 => .le | _ => .nle

/-- The number of a source condition code. -/
def Scc.bits : Scc → BitVec 4
  | .o => 0 | .no => 1 | .b => 2 | .nb => 3 | .z => 4 | .nz => 5 | .be => 6 | .nbe => 7
  | .s => 8 | .ns => 9 | .t => 10 | .f => 11 | .l => 12 | .nl => 13 | .le => 14 | .nle => 15

/-- The id of xmm0..xmm15 in a 5-bit register field whose bit 4 is 0 (44_promoted_system_crypto.md R331, R341). -/
def xmmId (i : RegId) : BitVec 4 := i.setWidth 4
/-- Bit 4 of an XMM id must be 0 (30_encoding.md R136). -/
def xmmOk (i : RegId) : Bool := !i.getLsbD 4
/-- The 5-bit field of an XMM id. -/
def xmmReg (x : BitVec 4) : RegId := x.setWidth 5
/-- An opmask or tile id: R4 or B4 is ignored, R3 or B3 kept (43_promoted_vex.md R298). -/
def shortId (i : RegId) : ShortId := ⟨i.setWidth 3, i.getLsbD 3⟩
/-- The 5-bit field of an opmask or tile id. -/
def shortReg (k : ShortId) : RegId := idOf false k.hi k.id

/-- OSIZE from W and the OSIZE override: W takes precedence (30_encoding.md R111, R125). -/
def oSize (w p66 : Bool) : OSize := if w then .o64 else if p66 then .o16 else .o32
/-- W of an OSIZE. -/
def OSize.w : OSize → Bool
  | .o16 => false
  | .o32 => false
  | .o64 => true
/-- Whether an OSIZE is encoded with the 0x66 override. -/
def OSize.p66 : OSize → Bool
  | .o16 => true
  | .o32 => false
  | .o64 => false
/-- pp of an OSIZE (30_encoding.md R125). -/
def OSize.pp : OSize → BitVec 2
  | .o16 => 1
  | .o32 => 0
  | .o64 => 0
/-- OSIZE of a SCALABLE opcode as the size of an instruction that has a byte opcode too. -/
def OSize.toOp : OSize → OpSize
  | .o16 => .o16
  | .o32 => .o32
  | .o64 => .o64
/-- W of an OSIZE; a byte form ignores W. -/
def OpSize.w : OpSize → Bool
  | .o8 => false
  | .o16 => false
  | .o32 => false
  | .o64 => true
/-- Whether an OSIZE is encoded with the 0x66 override. -/
def OpSize.p66 : OpSize → Bool
  | .o8 => false
  | .o16 => true
  | .o32 => false
  | .o64 => false
/-- pp of an OSIZE; a byte form has pp = NP. -/
def OpSize.pp : OpSize → BitVec 2
  | .o8 => 0
  | .o16 => 1
  | .o32 => 0
  | .o64 => 0
/-- The opcode of a pair whose byte opcode is even and whose SCALABLE opcode is the next one (40_alu.md R180). -/
def OpSize.opcode (sz : OpSize) (even : Byte) : Byte :=
  match sz with
  | .o8 => even
  | .o16 => even ||| 1
  | .o32 => even ||| 1
  | .o64 => even ||| 1
/-- The opcode of MOVZX and MOVSX (45_jmpabs_rex2.md R382). -/
def SrcSize.opcode (sz : SrcSize) (even : Byte) : Byte :=
  match sz with
  | .b8 => even
  | .w16 => even ||| 1
/-- The digit of SHL: /4, or /6 for its second encoding (41_shift_rotate.md R220). -/
def shlDigit (alt : Bool) : RegId := if alt then 6 else 4
/-- The digit of TEST and CTESTscc: /0, or /1 for their second encoding (46_conditional.md R394). -/
def testDigit (alt : Bool) : RegId := if alt then 1 else 0
/-- The 32- or 64-bit size W selects. -/
def ySize (w : Bool) : YSize := if w then .y64 else .y32
/-- W of a 32- or 64-bit size. -/
def YSize.w : YSize → Bool
  | .y32 => false
  | .y64 => true
/-- OSIZE of an `iz` immediate. -/
def ImmZ.size : ImmZ → OSize
  | .i16 _ => .o16
  | .i32 _ => .o32
  | .i64 _ => .o64
/-- The bytes of an `iz` immediate (30_encoding.md R160). -/
def ImmZ.bytes : ImmZ → List Byte
  | .i16 v => leBytes 2 v.toNat
  | .i32 v => leBytes 4 v.toNat
  | .i64 v => leBytes 4 v.toNat
/-- An `iz` immediate as the immediate of an instruction that has a byte opcode too. -/
def ImmZ.toImm : ImmZ → Imm
  | .i16 v => .i16 v
  | .i32 v => .i32 v
  | .i64 v => .i64 v
/-- OSIZE of an immediate form. -/
def Imm.size : Imm → OpSize
  | .i8 _ => .o8
  | .i16 _ => .o16
  | .i32 _ => .o32
  | .i64 _ => .o64
/-- The bytes of an immediate (30_encoding.md R160). -/
def Imm.bytes : Imm → List Byte
  | .i8 v => [v]
  | .i16 v => leBytes 2 v.toNat
  | .i32 v => leBytes 4 v.toNat
  | .i64 v => leBytes 4 v.toNat
/-- Whether REX2 MOV B8+rd needs the 0x66 override. -/
def MovImm.p66 : MovImm → Bool
  | .b8 _ => false
  | .w16 _ => true
  | .d32 _ => false
  | .q64 _ => false
/-- W of REX2 MOV B8+rd. -/
def MovImm.w : MovImm → Bool
  | .b8 _ => false
  | .w16 _ => false
  | .d32 _ => false
  | .q64 _ => true
/-- The immediate bytes of REX2 MOV B8+rd (45_jmpabs_rex2.md R380). -/
def MovImm.bytes : MovImm → List Byte
  | .b8 v => [v]
  | .w16 v => leBytes 2 v.toNat
  | .d32 v => leBytes 4 v.toNat
  | .q64 v => leBytes 8 v.toNat

/-- The opcode of REX2 MOV with an embedded register (45_jmpabs_rex2.md R380). -/
def MovImm.opcode : MovImm → Byte
  | .b8 _ => 0xB0
  | .w16 _ => 0xB8
  | .d32 _ => 0xB8
  | .q64 _ => 0xB8

/-! ### The outcomes of decoding -/

/-- Why an encoding is outside the model (93_implementation_defined.md 1.5). -/
inductive DecodeRefusal
  | notApx
  /-- An existing EVEX instruction; whether it uses B4 or X4 (10_state.md R37). -/
  | existingEvex (usesApx : Bool)
  | rex2Outside
  | repBeforeRex2
  | lockBeforeRex2
  | operandSize16
  /-- A promoted VEX opcode with a W or a digit that no row lists. -/
  | unlistedVex
  /-- REX2 MOV to or from a debug register (`debug`) or a control register, with the five-bit id of that register
  (10_state.md R42). -/
  | movSystemReg (debug : Bool) (id : RegId)
  deriving DecidableEq, Repr

/-- Why an encoding that has a row is not an instruction. -/
inductive Reject
  | ud
  | refused (r : DecodeRefusal)
  deriving DecidableEq, Repr

/-- What bytes decode to: an instruction and the bytes after it, #UD, not enough bytes, or a refusal. -/
inductive Decoded
  | ok (i : Instr) (rest : List Byte)
  | ud
  | truncated
  | refused (r : DecodeRefusal)
  deriving DecidableEq, Repr

/-- The instruction a row selects, or why there is none. -/
abbrev Sel := Except Reject Instr

/-- A row of the opcode table with its operands filled in, waiting for its immediate (30_encoding.md R160, R161). -/
inductive Row
  | imm0 (r : Sel)
  | imm8 (f : BitVec 8 → Sel)
  | imm16 (f : BitVec 16 → Sel)
  | imm32 (f : BitVec 32 → Sel)
  | imm64 (f : BitVec 64 → Sel)

/-- The instruction if the field checks of its class hold, else #UD. -/
def sel (ok : Bool) (i : Instr) : Sel := if ok then .ok i else .error .ud

/-- A combination that #UD is given for: a (pp, opcode, digit, Mod) of map 4 that is no row (30_encoding.md R163), and a
pp or a map other than the page's (93_implementation_defined.md 1.1). -/
def unassigned : Row := .imm0 (.error .ud)

/-- A promoted VEX opcode of maps 1 to 3 whose W or digit no row lists. The #UD rules of the spec do not reach it, so it is
refused where the bits the format fixes (`ok`) hold: DESIGN CHOICE, safe, notes/assumptions/39.md (00_scope.md R8,
30_encoding.md R139, R163, 43_promoted_vex.md R290). -/
def unlisted (ok : Bool) : Sel := .error (if ok then .refused .unlistedVex else .ud)

/-- A REX2-prefixed opcode outside the modelled subset (45_jmpabs_rex2.md R389). -/
def outside : Row := .imm0 (.error (.refused .rex2Outside))

/-- A REX2-prefixed digit that already raises #UD without REX2 (30_encoding.md R107). Which digits do is PRESUMED, unsafe,
notes/assumptions/40.md. -/
def alreadyUd : Row := .imm0 (.error .ud)

/-- C6 and C7 with a digit other than 0: #UD, but for the byte F8, which is XABORT or XBEGIN (PRESUMED,
notes/assumptions/40.md). -/
def movGroupRest (digit : Nat) (rm : RM) : Row :=
  match rm with
  | .reg b => if digit = 7 ∧ low3 b = 0 then outside else alreadyUd
  | .mem _ => alreadyUd

/-- FF /3 and FF /5, the far call and jump: #UD with a register operand (30_encoding.md R107; PRESUMED,
notes/assumptions/40.md). -/
def farRow (rm : RM) : Row :=
  match rm with
  | .reg _ => alreadyUd
  | .mem _ => outside

/-- The row with an immediate of OSIZE (30_encoding.md R160). -/
def izRow (sz : OSize) (f : ImmZ → Sel) : Row :=
  match sz with
  | .o16 => .imm16 fun v => f (.i16 v)
  | .o32 => .imm32 fun v => f (.i32 v)
  | .o64 => .imm32 fun v => f (.i64 v)

/-- The row of REX2 MOV B8+rd: eight immediate bytes when OSIZE is 64 (45_jmpabs_rex2.md R380). -/
def movRow (sz : OSize) (f : MovImm → Sel) : Row :=
  match sz with
  | .o16 => .imm16 fun v => f (.w16 v)
  | .o32 => .imm32 fun v => f (.d32 v)
  | .o64 => .imm64 fun v => f (.q64 v)

/-- A form whose r/m operand must be memory: Mod = 3 is #UD (30_encoding.md R162). -/
def onMem (rm : RM) (f : Mem → Sel) : Sel :=
  match rm with
  | .reg _ => .error .ud
  | .mem m => f m

/-- A form whose r/m operand must be a register. -/
def onReg (rm : RM) (f : RegId → Sel) : Sel :=
  match rm with
  | .reg i => f i
  | .mem _ => .error .ud

/-- A form whose r/m operand must be memory with a SIB byte (30_encoding.md R157). -/
def onSib (rm : RM) (f : Mem → Sel) : Sel :=
  match rm with
  | .reg _ => .error .ud
  | .mem m => if m.form.isSib then f m else .error .ud

/-- A form whose r/m operand is an XMM register or memory; XMM16..XMM31 are #UD (60_exceptions.md R457). -/
def onXrm (rm : RM) (f : XRM → Sel) : Sel :=
  match rm with
  | .reg i => if xmmOk i then f (.xmm (xmmId i)) else .error .ud
  | .mem m => f (.mem m)

/-- An r/m operand that is an opmask register or memory. -/
def krm : RM → KRM
  | .reg i => .k (shortId i)
  | .mem m => .mem m

/-- The fields of an EVEX instruction that its row reads: logical R and V ids, W, pp, ND, NF, and the other bits of P2
(30_encoding.md R113, R116, R120). -/
structure EvexHead where
  r  : RegId
  v  : RegId
  w  : Bool
  pp : BitVec 2
  nd : Bool
  nf : Bool
  /-- P2[7:5]. -/
  hi : BitVec 3
  /-- P2[1:0]. -/
  lo : BitVec 2
  deriving DecidableEq, Repr

/-- The opcode-extension digit: ModRM.reg alone, R4 and R3 are ignored (30_encoding.md R127). -/
def EvexHead.digit (h : EvexHead) : Nat := (low3 h.r).toNat
/-- OSIZE of a SCALABLE form (30_encoding.md R125). -/
def EvexHead.sz (h : EvexHead) : OSize := oSize h.w (h.pp == 1)
/-- OSIZE of the SCALABLE opcode of a pair. -/
def EvexHead.op (h : EvexHead) : OpSize := h.sz.toOp
/-- The 32- or 64-bit size W selects. -/
def EvexHead.ysz (h : EvexHead) : YSize := ySize h.w
/-- The NDD register, when ND = 1 (30_encoding.md R128). -/
def EvexHead.ndd (h : EvexHead) : Option RegId := if h.nd then some h.v else none
/-- The P2 bits every format but CCMP/CTEST shows as 0 (30_encoding.md R120, R139, R146). -/
def EvexHead.p2ok (h : EvexHead) : Bool := h.hi == 0 && h.lo == 0
/-- NDD and NF supported (30_encoding.md R128, R133). -/
def EvexHead.ndd1 (h : EvexHead) : Bool := h.p2ok && (h.nd || h.v == 0)
/-- NDD supported, NF = 0 required. -/
def EvexHead.ndd0 (h : EvexHead) : Bool := h.ndd1 && !h.nf
/-- ND = 0 and V = 0 required, NF supported (30_encoding.md R129, R132). -/
def EvexHead.one1 (h : EvexHead) : Bool := h.p2ok && !h.nd && h.v == 0
/-- ND = 0, V = 0 and NF = 0 required (30_encoding.md R129, R132, R134). -/
def EvexHead.one0 (h : EvexHead) : Bool := h.one1 && !h.nf
/-- ZU supported, so V = 0 required; NF supported (30_encoding.md R131). -/
def EvexHead.zu1 (h : EvexHead) : Bool := h.p2ok && h.v == 0
/-- ZU supported; NF = 0 required. -/
def EvexHead.zu0 (h : EvexHead) : Bool := h.zu1 && !h.nf
/-- V is an operand, NF supported (30_encoding.md R139). -/
def EvexHead.vex1 (h : EvexHead) : Bool := h.p2ok && !h.nd
/-- V is an operand, NF = 0 required. -/
def EvexHead.vex0 (h : EvexHead) : Bool := h.vex1 && !h.nf
/-- ND = 1 and NF = 0, V is an operand (30_encoding.md R146, 42_muldiv_misc.md R251). -/
def EvexHead.nd10 (h : EvexHead) : Bool := h.p2ok && h.nd && !h.nf
/-- ND = 1 and NF = 1, V is an operand (46_conditional.md R398). -/
def EvexHead.nd11 (h : EvexHead) : Bool := h.p2ok && h.nd && h.nf
/-- ND = 0 and NF = 1, V = 0 required (46_conditional.md R397). -/
def EvexHead.nf01 (h : EvexHead) : Bool := h.one1 && h.nf
/-- CCMP/CTEST: P2[7:5] and ND are 0 (30_encoding.md R147). -/
def EvexHead.cc0 (h : EvexHead) : Bool := h.hi == 0 && !h.nd
/-- SCC = P2[3:0]; P2[3] is the place of the inverted V4 (30_encoding.md R147). -/
def EvexHead.scc (h : EvexHead) : Scc := Scc.ofBits (BitVec.ofBool (!h.v.getLsbD 4) ++ BitVec.ofBool h.nf ++ h.lo)
/-- DFV = P1[6:3], the place of the inverted V3..V0 (30_encoding.md R147). -/
def EvexHead.dfv (h : EvexHead) : Dfv := ⟨!h.v.getLsbD 3, !h.v.getLsbD 2, !h.v.getLsbD 1, !h.v.getLsbD 0⟩

/-- The fields of a REX2 instruction that its row reads (30_encoding.md R103, R104). -/
structure Rex2Head where
  r   : RegId
  /-- The B id of an opcode that embeds a register. -/
  b   : RegId
  w   : Bool
  p66 : Bool
  deriving DecidableEq, Repr

/-- The opcode-extension digit. -/
def Rex2Head.digit (h : Rex2Head) : Nat := (low3 h.r).toNat
/-- OSIZE (30_encoding.md R111). -/
def Rex2Head.sz (h : Rex2Head) : OSize := oSize h.w h.p66
/-- OSIZE of the SCALABLE opcode of a pair. -/
def Rex2Head.op (h : Rex2Head) : OpSize := h.sz.toOp
/-- The 32- or 64-bit size W selects. -/
def Rex2Head.ysz (h : Rex2Head) : YSize := ySize h.w

/-- A form before which 0x66 is not accepted, since its rule has no OSIZE of 16 (45_jmpabs_rex2.md R375, R382, R387,
R388; notes/assumptions/25.md). -/
def no66 (h : Rex2Head) (r : Sel) : Sel :=
  if h.p66 then .error (.refused .operandSize16) else r

/-- PUSH and POP of a register: 0x66 with W = 0 is outside the subset, and W takes precedence over 0x66
(45_jmpabs_rex2.md R372). -/
def no16 (h : Rex2Head) (r : Sel) : Sel :=
  if h.p66 && !h.w then .error (.refused .operandSize16) else r

/-! ### The rows -/

/-- The four CMOVcc and CFCMOVcc forms of opcodes 40..4F, told apart by ND and NF (46_conditional.md R395). -/
def cmovRow (cc : Cond) (h : EvexHead) (rm : RM) : Row :=
  match h.nd, h.nf with
  | false, false => .imm0 (sel h.one0 (.cfcmovLoad cc h.sz h.r rm))
  | false, true =>
    match rm with
    | .reg b => .imm0 (sel h.nf01 (.cfcmovReg cc h.sz b h.r))
    | .mem m => .imm0 (sel h.nf01 (.cfcmovStore cc h.sz m h.r))
  | true, false => .imm0 (sel h.nd10 (.cmov cc h.sz h.v h.r rm))
  | true, true => .imm0 (sel h.nd11 (.cfcmovNdd cc h.sz h.v h.r rm))

/-- Map 4, the SCALABLE rows, which accept pp = NP and pp = 66 (30_encoding.md R170); PUSH2 shares its opcode with INC and DEC
and accepts pp = NP alone. -/
def map4Scalable (op : Nat) (h : EvexHead) (rm : RM) : Row :=
  match op with
  | 0x01 => .imm0 (sel h.ndd1 (.addRmR h.op rm h.r h.ndd h.nf))
  | 0x03 => .imm0 (sel h.ndd1 (.addRRm h.op h.r rm h.ndd h.nf))
  | 0x09 => .imm0 (sel h.ndd1 (.orRmR h.op rm h.r h.ndd h.nf))
  | 0x0B => .imm0 (sel h.ndd1 (.orRRm h.op h.r rm h.ndd h.nf))
  | 0x11 => .imm0 (sel h.ndd0 (.adcRmR h.op rm h.r h.ndd))
  | 0x13 => .imm0 (sel h.ndd0 (.adcRRm h.op h.r rm h.ndd))
  | 0x19 => .imm0 (sel h.ndd0 (.sbbRmR h.op rm h.r h.ndd))
  | 0x1B => .imm0 (sel h.ndd0 (.sbbRRm h.op h.r rm h.ndd))
  | 0x21 => .imm0 (sel h.ndd1 (.andRmR h.op rm h.r h.ndd h.nf))
  | 0x23 => .imm0 (sel h.ndd1 (.andRRm h.op h.r rm h.ndd h.nf))
  | 0x24 => .imm8 fun i => sel h.ndd1 (.shldRmRI8 h.sz rm h.r i h.ndd h.nf)
  | 0x29 => .imm0 (sel h.ndd1 (.subRmR h.op rm h.r h.ndd h.nf))
  | 0x2B => .imm0 (sel h.ndd1 (.subRRm h.op h.r rm h.ndd h.nf))
  | 0x2C => .imm8 fun i => sel h.ndd1 (.shrdRmRI8 h.sz rm h.r i h.ndd h.nf)
  | 0x31 => .imm0 (sel h.ndd1 (.xorRmR h.op rm h.r h.ndd h.nf))
  | 0x33 => .imm0 (sel h.ndd1 (.xorRRm h.op h.r rm h.ndd h.nf))
  | 0x39 => .imm0 (sel h.cc0 (.ccmpRmR h.scc h.dfv h.op rm h.r))
  | 0x3B => .imm0 (sel h.cc0 (.ccmpRRm h.scc h.dfv h.op h.r rm))
  | 0x60 => .imm0 (sel h.one0 (.movbeRRm h.sz h.r rm))
  | 0x61 => .imm0 (sel h.one0 (.movbeRmR h.sz rm h.r))
  | 0x69 => izRow h.sz fun i => sel h.zu1 (.imulRRmIz h.r rm i h.nd h.nf)
  | 0x6B => .imm8 fun i => sel h.zu1 (.imulRRmI8 h.sz h.r rm i h.nd h.nf)
  | 0x81 =>
    match h.digit with
    | 0 => izRow h.sz fun i => sel h.ndd1 (.addRmImm rm i.toImm h.ndd h.nf)
    | 1 => izRow h.sz fun i => sel h.ndd1 (.orRmImm rm i.toImm h.ndd h.nf)
    | 2 => izRow h.sz fun i => sel h.ndd0 (.adcRmImm rm i.toImm h.ndd)
    | 3 => izRow h.sz fun i => sel h.ndd0 (.sbbRmImm rm i.toImm h.ndd)
    | 4 => izRow h.sz fun i => sel h.ndd1 (.andRmImm rm i.toImm h.ndd h.nf)
    | 5 => izRow h.sz fun i => sel h.ndd1 (.subRmImm rm i.toImm h.ndd h.nf)
    | 6 => izRow h.sz fun i => sel h.ndd1 (.xorRmImm rm i.toImm h.ndd h.nf)
    | _ => izRow h.sz fun i => sel h.cc0 (.ccmpRmImm h.scc h.dfv rm i.toImm)
  | 0x83 =>
    match h.digit with
    | 0 => .imm8 fun i => sel h.ndd1 (.addRmI8 h.sz rm i h.ndd h.nf)
    | 1 => .imm8 fun i => sel h.ndd1 (.orRmI8 h.sz rm i h.ndd h.nf)
    | 2 => .imm8 fun i => sel h.ndd0 (.adcRmI8 h.sz rm i h.ndd)
    | 3 => .imm8 fun i => sel h.ndd0 (.sbbRmI8 h.sz rm i h.ndd)
    | 4 => .imm8 fun i => sel h.ndd1 (.andRmI8 h.sz rm i h.ndd h.nf)
    | 5 => .imm8 fun i => sel h.ndd1 (.subRmI8 h.sz rm i h.ndd h.nf)
    | 6 => .imm8 fun i => sel h.ndd1 (.xorRmI8 h.sz rm i h.ndd h.nf)
    | _ => .imm8 fun i => sel h.cc0 (.ccmpRmI8 h.scc h.dfv h.sz rm i)
  | 0x85 => .imm0 (sel h.cc0 (.ctestRmR h.scc h.dfv h.op rm h.r))
  | 0x88 => .imm0 (sel h.one1 (.popcnt h.sz h.r rm h.nf))
  | 0xA5 => .imm0 (sel h.ndd1 (.shldRmRCl h.sz rm h.r h.ndd h.nf))
  | 0xAD => .imm0 (sel h.ndd1 (.shrdRmRCl h.sz rm h.r h.ndd h.nf))
  | 0xAF => .imm0 (sel h.ndd1 (.imulRRm h.sz h.r rm h.ndd h.nf))
  | 0xC1 =>
    match h.digit with
    | 0 => .imm8 fun i => sel h.ndd1 (.rolRmI8 h.op rm i h.ndd h.nf)
    | 1 => .imm8 fun i => sel h.ndd1 (.rorRmI8 h.op rm i h.ndd h.nf)
    | 2 => .imm8 fun i => sel h.ndd0 (.rclRmI8 h.op rm i h.ndd)
    | 3 => .imm8 fun i => sel h.ndd0 (.rcrRmI8 h.op rm i h.ndd)
    | 4 => .imm8 fun i => sel h.ndd1 (.shlRmI8 false h.op rm i h.ndd h.nf)
    | 5 => .imm8 fun i => sel h.ndd1 (.shrRmI8 h.op rm i h.ndd h.nf)
    | 6 => .imm8 fun i => sel h.ndd1 (.shlRmI8 true h.op rm i h.ndd h.nf)
    | _ => .imm8 fun i => sel h.ndd1 (.sarRmI8 h.op rm i h.ndd h.nf)
  | 0xD1 =>
    match h.digit with
    | 0 => .imm0 (sel h.ndd1 (.rolRmOne h.op rm h.ndd h.nf))
    | 1 => .imm0 (sel h.ndd1 (.rorRmOne h.op rm h.ndd h.nf))
    | 2 => .imm0 (sel h.ndd0 (.rclRmOne h.op rm h.ndd))
    | 3 => .imm0 (sel h.ndd0 (.rcrRmOne h.op rm h.ndd))
    | 4 => .imm0 (sel h.ndd1 (.shlRmOne false h.op rm h.ndd h.nf))
    | 5 => .imm0 (sel h.ndd1 (.shrRmOne h.op rm h.ndd h.nf))
    | 6 => .imm0 (sel h.ndd1 (.shlRmOne true h.op rm h.ndd h.nf))
    | _ => .imm0 (sel h.ndd1 (.sarRmOne h.op rm h.ndd h.nf))
  | 0xD3 =>
    match h.digit with
    | 0 => .imm0 (sel h.ndd1 (.rolRmCl h.op rm h.ndd h.nf))
    | 1 => .imm0 (sel h.ndd1 (.rorRmCl h.op rm h.ndd h.nf))
    | 2 => .imm0 (sel h.ndd0 (.rclRmCl h.op rm h.ndd))
    | 3 => .imm0 (sel h.ndd0 (.rcrRmCl h.op rm h.ndd))
    | 4 => .imm0 (sel h.ndd1 (.shlRmCl false h.op rm h.ndd h.nf))
    | 5 => .imm0 (sel h.ndd1 (.shrRmCl h.op rm h.ndd h.nf))
    | 6 => .imm0 (sel h.ndd1 (.shlRmCl true h.op rm h.ndd h.nf))
    | _ => .imm0 (sel h.ndd1 (.sarRmCl h.op rm h.ndd h.nf))
  | 0xF1 => .imm0 (sel h.one0 (.crc32Rm h.sz h.r rm))
  | 0xF4 => .imm0 (sel h.one1 (.tzcnt h.sz h.r rm h.nf))
  | 0xF5 => .imm0 (sel h.one1 (.lzcnt h.sz h.r rm h.nf))
  | 0xF7 =>
    match h.digit with
    | 0 => izRow h.sz fun i => sel h.cc0 (.ctestRmImm h.scc h.dfv false rm i.toImm)
    | 1 => izRow h.sz fun i => sel h.cc0 (.ctestRmImm h.scc h.dfv true rm i.toImm)
    | 2 => .imm0 (sel h.ndd0 (.notRm h.op rm h.ndd))
    | 3 => .imm0 (sel h.ndd1 (.negRm h.op rm h.ndd h.nf))
    | 4 => .imm0 (sel h.one1 (.mulRm h.op rm h.nf))
    | 5 => .imm0 (sel h.one1 (.imulRm h.op rm h.nf))
    | 6 => .imm0 (sel h.one1 (.divRm h.op rm h.nf))
    | _ => .imm0 (sel h.one1 (.idivRm h.op rm h.nf))
  | 0xFF =>
    match h.digit with
    | 0 => .imm0 (sel h.ndd1 (.incRm h.op rm h.ndd h.nf))
    | 1 => .imm0 (sel h.ndd1 (.decRm h.op rm h.ndd h.nf))
    | 6 =>
      if h.pp != 0 then unassigned
      else if h.w then .imm0 (onReg rm fun b => sel h.nd10 (.push2p h.v b))
      else .imm0 (onReg rm fun b => sel h.nd10 (.push2 h.v b))
    | _ => unassigned
  | _ => unassigned

/-- Map 4, pp = NP. -/
def map4NP (op : Nat) (h : EvexHead) (rm : RM) : Row :=
  match op with
  | 0x00 => .imm0 (sel h.ndd1 (.addRmR .o8 rm h.r h.ndd h.nf))
  | 0x02 => .imm0 (sel h.ndd1 (.addRRm .o8 h.r rm h.ndd h.nf))
  | 0x08 => .imm0 (sel h.ndd1 (.orRmR .o8 rm h.r h.ndd h.nf))
  | 0x0A => .imm0 (sel h.ndd1 (.orRRm .o8 h.r rm h.ndd h.nf))
  | 0x10 => .imm0 (sel h.ndd0 (.adcRmR .o8 rm h.r h.ndd))
  | 0x12 => .imm0 (sel h.ndd0 (.adcRRm .o8 h.r rm h.ndd))
  | 0x18 => .imm0 (sel h.ndd0 (.sbbRmR .o8 rm h.r h.ndd))
  | 0x1A => .imm0 (sel h.ndd0 (.sbbRRm .o8 h.r rm h.ndd))
  | 0x20 => .imm0 (sel h.ndd1 (.andRmR .o8 rm h.r h.ndd h.nf))
  | 0x22 => .imm0 (sel h.ndd1 (.andRRm .o8 h.r rm h.ndd h.nf))
  | 0x28 => .imm0 (sel h.ndd1 (.subRmR .o8 rm h.r h.ndd h.nf))
  | 0x2A => .imm0 (sel h.ndd1 (.subRRm .o8 h.r rm h.ndd h.nf))
  | 0x30 => .imm0 (sel h.ndd1 (.xorRmR .o8 rm h.r h.ndd h.nf))
  | 0x32 => .imm0 (sel h.ndd1 (.xorRRm .o8 h.r rm h.ndd h.nf))
  | 0x38 => .imm0 (sel h.cc0 (.ccmpRmR h.scc h.dfv .o8 rm h.r))
  | 0x3A => .imm0 (sel h.cc0 (.ccmpRRm h.scc h.dfv .o8 h.r rm))
  | 0x66 => if h.w then .imm0 (onMem rm fun m => sel h.one0 (.wrssq m h.r)) else .imm0 (onMem rm fun m => sel h.one0 (.wrssd m h.r))
  | 0x80 =>
    match h.digit with
    | 0 => .imm8 fun i => sel h.ndd1 (.addRmImm rm (.i8 i) h.ndd h.nf)
    | 1 => .imm8 fun i => sel h.ndd1 (.orRmImm rm (.i8 i) h.ndd h.nf)
    | 2 => .imm8 fun i => sel h.ndd0 (.adcRmImm rm (.i8 i) h.ndd)
    | 3 => .imm8 fun i => sel h.ndd0 (.sbbRmImm rm (.i8 i) h.ndd)
    | 4 => .imm8 fun i => sel h.ndd1 (.andRmImm rm (.i8 i) h.ndd h.nf)
    | 5 => .imm8 fun i => sel h.ndd1 (.subRmImm rm (.i8 i) h.ndd h.nf)
    | 6 => .imm8 fun i => sel h.ndd1 (.xorRmImm rm (.i8 i) h.ndd h.nf)
    | _ => .imm8 fun i => sel h.cc0 (.ccmpRmImm h.scc h.dfv rm (.i8 i))
  | 0x84 => .imm0 (sel h.cc0 (.ctestRmR h.scc h.dfv .o8 rm h.r))
  | 0x8F =>
    match h.digit with
    | 0 => if h.w then .imm0 (onReg rm fun b => sel h.nd10 (.pop2p h.v b)) else .imm0 (onReg rm fun b => sel h.nd10 (.pop2 h.v b))
    | _ => unassigned
  | 0xC0 =>
    match h.digit with
    | 0 => .imm8 fun i => sel h.ndd1 (.rolRmI8 .o8 rm i h.ndd h.nf)
    | 1 => .imm8 fun i => sel h.ndd1 (.rorRmI8 .o8 rm i h.ndd h.nf)
    | 2 => .imm8 fun i => sel h.ndd0 (.rclRmI8 .o8 rm i h.ndd)
    | 3 => .imm8 fun i => sel h.ndd0 (.rcrRmI8 .o8 rm i h.ndd)
    | 4 => .imm8 fun i => sel h.ndd1 (.shlRmI8 false .o8 rm i h.ndd h.nf)
    | 5 => .imm8 fun i => sel h.ndd1 (.shrRmI8 .o8 rm i h.ndd h.nf)
    | 6 => .imm8 fun i => sel h.ndd1 (.shlRmI8 true .o8 rm i h.ndd h.nf)
    | _ => .imm8 fun i => sel h.ndd1 (.sarRmI8 .o8 rm i h.ndd h.nf)
  | 0xD0 =>
    match h.digit with
    | 0 => .imm0 (sel h.ndd1 (.rolRmOne .o8 rm h.ndd h.nf))
    | 1 => .imm0 (sel h.ndd1 (.rorRmOne .o8 rm h.ndd h.nf))
    | 2 => .imm0 (sel h.ndd0 (.rclRmOne .o8 rm h.ndd))
    | 3 => .imm0 (sel h.ndd0 (.rcrRmOne .o8 rm h.ndd))
    | 4 => .imm0 (sel h.ndd1 (.shlRmOne false .o8 rm h.ndd h.nf))
    | 5 => .imm0 (sel h.ndd1 (.shrRmOne .o8 rm h.ndd h.nf))
    | 6 => .imm0 (sel h.ndd1 (.shlRmOne true .o8 rm h.ndd h.nf))
    | _ => .imm0 (sel h.ndd1 (.sarRmOne .o8 rm h.ndd h.nf))
  | 0xD2 =>
    match h.digit with
    | 0 => .imm0 (sel h.ndd1 (.rolRmCl .o8 rm h.ndd h.nf))
    | 1 => .imm0 (sel h.ndd1 (.rorRmCl .o8 rm h.ndd h.nf))
    | 2 => .imm0 (sel h.ndd0 (.rclRmCl .o8 rm h.ndd))
    | 3 => .imm0 (sel h.ndd0 (.rcrRmCl .o8 rm h.ndd))
    | 4 => .imm0 (sel h.ndd1 (.shlRmCl false .o8 rm h.ndd h.nf))
    | 5 => .imm0 (sel h.ndd1 (.shrRmCl .o8 rm h.ndd h.nf))
    | 6 => .imm0 (sel h.ndd1 (.shlRmCl true .o8 rm h.ndd h.nf))
    | _ => .imm0 (sel h.ndd1 (.sarRmCl .o8 rm h.ndd h.nf))
  | 0xD4 => .imm8 fun i => onXrm rm fun x => sel (h.one0 && xmmOk h.r) (.sha1rnds4 (xmmId h.r) x i)
  | 0xD8 => .imm0 (onXrm rm fun x => sel (h.one0 && xmmOk h.r) (.sha1nexte (xmmId h.r) x))
  | 0xD9 => .imm0 (onXrm rm fun x => sel (h.one0 && xmmOk h.r) (.sha1msg1 (xmmId h.r) x))
  | 0xDA => .imm0 (onXrm rm fun x => sel (h.one0 && xmmOk h.r) (.sha1msg2 (xmmId h.r) x))
  | 0xDB => .imm0 (onXrm rm fun x => sel (h.one0 && xmmOk h.r) (.sha256rnds2 (xmmId h.r) x))
  | 0xDC => .imm0 (onXrm rm fun x => sel (h.one0 && xmmOk h.r) (.sha256msg1 (xmmId h.r) x))
  | 0xDD => .imm0 (onXrm rm fun x => sel (h.one0 && xmmOk h.r) (.sha256msg2 (xmmId h.r) x))
  | 0xF0 => .imm0 (sel h.one0 (.crc32Rm8 h.ysz h.r rm))
  | 0xF6 =>
    match h.digit with
    | 0 => .imm8 fun i => sel h.cc0 (.ctestRmImm h.scc h.dfv false rm (.i8 i))
    | 1 => .imm8 fun i => sel h.cc0 (.ctestRmImm h.scc h.dfv true rm (.i8 i))
    | 2 => .imm0 (sel h.ndd0 (.notRm .o8 rm h.ndd))
    | 3 => .imm0 (sel h.ndd1 (.negRm .o8 rm h.ndd h.nf))
    | 4 => .imm0 (sel h.one1 (.mulRm .o8 rm h.nf))
    | 5 => .imm0 (sel h.one1 (.imulRm .o8 rm h.nf))
    | 6 => .imm0 (sel h.one1 (.divRm .o8 rm h.nf))
    | _ => .imm0 (sel h.one1 (.idivRm .o8 rm h.nf))
  | 0xF9 => .imm0 (onMem rm fun m => sel h.one0 (.movdiri h.ysz m h.r))
  | 0xFE =>
    match h.digit with
    | 0 => .imm0 (sel h.ndd1 (.incRm .o8 rm h.ndd h.nf))
    | 1 => .imm0 (sel h.ndd1 (.decRm .o8 rm h.ndd h.nf))
    | _ => unassigned
  | _ => map4Scalable op h rm

/-- Map 4, pp = 66. -/
def map466 (op : Nat) (h : EvexHead) (rm : RM) : Row :=
  match op with
  | 0x65 => if h.w then .imm0 (onMem rm fun m => sel h.one0 (.wrussq m h.r)) else .imm0 (onMem rm fun m => sel h.one0 (.wrussd m h.r))
  | 0x66 => .imm0 (sel h.ndd0 (.adcx h.ysz h.r rm h.ndd))
  | 0xF8 => .imm0 (onMem rm fun m => sel h.one0 (.movdir64b h.r m))
  | _ => map4Scalable op h rm

/-- Map 4, pp = F3. -/
def map4F3 (op : Nat) (h : EvexHead) (rm : RM) : Row :=
  match op with
  | 0x66 => .imm0 (sel h.ndd0 (.adox h.ysz h.r rm h.ndd))
  | 0xD8 =>
    match h.digit with
    | 0 => .imm0 (onMem rm fun m => sel h.one0 (.aesencwide128kl m))
    | 1 => .imm0 (onMem rm fun m => sel h.one0 (.aesdecwide128kl m))
    | 2 => .imm0 (onMem rm fun m => sel h.one0 (.aesencwide256kl m))
    | 3 => .imm0 (onMem rm fun m => sel h.one0 (.aesdecwide256kl m))
    | _ => unassigned
  | 0xDA => .imm0 (onReg rm fun b => sel h.one0 (.encodekey128 h.r b))
  | 0xDB => .imm0 (onReg rm fun b => sel h.one0 (.encodekey256 h.r b))
  | 0xDC => .imm0 (onMem rm fun m => sel (h.one0 && xmmOk h.r) (.aesenc128kl (xmmId h.r) m))
  | 0xDD => .imm0 (onMem rm fun m => sel (h.one0 && xmmOk h.r) (.aesdec128kl (xmmId h.r) m))
  | 0xDE => .imm0 (onMem rm fun m => sel (h.one0 && xmmOk h.r) (.aesenc256kl (xmmId h.r) m))
  | 0xDF => .imm0 (onMem rm fun m => sel (h.one0 && xmmOk h.r) (.aesdec256kl (xmmId h.r) m))
  | 0xF0 => .imm0 (onMem rm fun m => sel h.one0 (.invept h.r m))
  | 0xF1 => .imm0 (onMem rm fun m => sel h.one0 (.invvpid h.r m))
  | 0xF2 => .imm0 (onMem rm fun m => sel h.one0 (.invpcid h.r m))
  | 0xF8 => .imm0 (onMem rm fun m => sel h.one0 (.enqcmds h.r m))
  | _ => unassigned

/-- Map 4, pp = F2. -/
def map4F2 (op : Nat) (h : EvexHead) (rm : RM) : Row :=
  match op with
  | 0xF8 => .imm0 (onMem rm fun m => sel h.one0 (.enqcmd h.r m))
  | _ => unassigned

/-- Map 4 (30_encoding.md R170). -/
def map4Row (op : Byte) (h : EvexHead) (rm : RM) : Row :=
  if op.extractLsb' 4 4 = 4 then
    match h.pp.toNat with
    | 0 => cmovRow (Cond.ofBits (op.setWidth 4)) h rm
    | 1 => cmovRow (Cond.ofBits (op.setWidth 4)) h rm
    | 2 => unassigned
    | _ => .imm0 (sel h.zu0 (.setcc (Cond.ofBits (op.setWidth 4)) rm h.nd))
  else
    match h.pp.toNat with
    | 0 => map4NP op.toNat h rm
    | 1 => map466 op.toNat h rm
    | 2 => map4F3 op.toNat h rm
    | _ => map4F2 op.toNat h rm

/-- Map 1, pp = NP (30_encoding.md R170). -/
def map1NP (op : Nat) (h : EvexHead) (rm : RM) : Row :=
  match op with
  | 0x90 => if h.w then .imm0 (sel h.one0 (.kmovqKKm (shortId h.r) (krm rm))) else .imm0 (sel h.one0 (.kmovwKKm (shortId h.r) (krm rm)))
  | 0x91 => if h.w then .imm0 (onMem rm fun m => sel h.one0 (.kmovqMK m (shortId h.r))) else .imm0 (onMem rm fun m => sel h.one0 (.kmovwMK m (shortId h.r)))
  | 0x92 => .imm0 (onReg rm fun b => if h.w then unlisted h.one0 else sel h.one0 (.kmovwKR (shortId h.r) b))
  | 0x93 => .imm0 (onReg rm fun b => if h.w then unlisted h.one0 else sel h.one0 (.kmovwRK h.r (shortId b)))
  | _ => unassigned

/-- Map 1, pp = 66 (30_encoding.md R170). -/
def map166 (op : Nat) (h : EvexHead) (rm : RM) : Row :=
  match op with
  | 0x90 => if h.w then .imm0 (sel h.one0 (.kmovdKKm (shortId h.r) (krm rm))) else .imm0 (sel h.one0 (.kmovbKKm (shortId h.r) (krm rm)))
  | 0x91 => if h.w then .imm0 (onMem rm fun m => sel h.one0 (.kmovdMK m (shortId h.r))) else .imm0 (onMem rm fun m => sel h.one0 (.kmovbMK m (shortId h.r)))
  | 0x92 => .imm0 (onReg rm fun b => if h.w then unlisted h.one0 else sel h.one0 (.kmovbKR (shortId h.r) b))
  | 0x93 => .imm0 (onReg rm fun b => if h.w then unlisted h.one0 else sel h.one0 (.kmovbRK h.r (shortId b)))
  | _ => unassigned

/-- Map 1, pp = F2 (30_encoding.md R170). -/
def map1F2 (op : Nat) (h : EvexHead) (rm : RM) : Row :=
  match op with
  | 0x92 => if h.w then .imm0 (onReg rm fun b => sel h.one0 (.kmovqKR (shortId h.r) b)) else .imm0 (onReg rm fun b => sel h.one0 (.kmovdKR (shortId h.r) b))
  | 0x93 => if h.w then .imm0 (onReg rm fun b => sel h.one0 (.kmovqRK h.r (shortId b))) else .imm0 (onReg rm fun b => sel h.one0 (.kmovdRK h.r (shortId b)))
  | _ => unassigned

/-- Map 2, pp = NP (30_encoding.md R170). -/
def map2NP (op : Nat) (h : EvexHead) (rm : RM) : Row :=
  match op with
  | 0x49 =>
    match h.digit with
    | 0 => .imm0 (onMem rm fun m => if h.w then unlisted h.one0 else sel h.one0 (.ldtilecfg m))
    | _ => .imm0 (unlisted h.vex1)
  | 0xF2 => .imm0 (sel h.vex1 (.andn h.ysz h.r h.v rm h.nf))
  | 0xF3 =>
    match h.digit with
    | 1 => .imm0 (sel h.vex1 (.blsr h.ysz h.v rm h.nf))
    | 2 => .imm0 (sel h.vex1 (.blsmsk h.ysz h.v rm h.nf))
    | 3 => .imm0 (sel h.vex1 (.blsi h.ysz h.v rm h.nf))
    | _ => .imm0 (unlisted h.vex1)
  | 0xF5 => .imm0 (sel h.vex1 (.bzhi h.ysz h.r rm h.v h.nf))
  | 0xF7 => .imm0 (sel h.vex1 (.bextr h.ysz h.r rm h.v h.nf))
  | _ => unassigned

/-- Map 2, pp = 66 (30_encoding.md R170). -/
def map266 (op : Nat) (h : EvexHead) (rm : RM) : Row :=
  match op with
  | 0x49 =>
    match h.digit with
    | 0 => .imm0 (onMem rm fun m => if h.w then unlisted h.one0 else sel h.one0 (.sttilecfg m))
    | _ => .imm0 (unlisted h.vex1)
  | 0x4B => .imm0 (onSib rm fun m => if h.w then unlisted h.one0 else sel h.one0 (.tileloaddt1 (shortId h.r) m))
  | 0xF7 => .imm0 (sel h.vex0 (.shlx h.ysz h.r rm h.v))
  | _ => unassigned

/-- Map 2, pp = F3 (30_encoding.md R170). -/
def map2F3 (op : Nat) (h : EvexHead) (rm : RM) : Row :=
  match op with
  | 0x4B => .imm0 (onSib rm fun m => if h.w then unlisted h.one0 else sel h.one0 (.tilestored m (shortId h.r)))
  | 0xF5 => .imm0 (sel h.vex0 (.pext h.ysz h.r h.v rm))
  | 0xF7 => .imm0 (sel h.vex0 (.sarx h.ysz h.r rm h.v))
  | _ => unassigned

/-- Map 2, pp = F2 (30_encoding.md R170). -/
def map2F2 (op : Nat) (h : EvexHead) (rm : RM) : Row :=
  match op with
  | 0x4B => .imm0 (onSib rm fun m => if h.w then unlisted h.one0 else sel h.one0 (.tileloadd (shortId h.r) m))
  | 0xF5 => .imm0 (sel h.vex0 (.pdep h.ysz h.r h.v rm))
  | 0xF6 => .imm0 (sel h.vex0 (.mulx h.ysz h.r h.v rm))
  | 0xF7 => .imm0 (sel h.vex0 (.shrx h.ysz h.r rm h.v))
  | _ => unassigned

/-- Map 3, pp = F2 (30_encoding.md R170). -/
def map3F2 (op : Nat) (h : EvexHead) (rm : RM) : Row :=
  match op with
  | 0xF0 => .imm8 fun i => sel h.one0 (.rorx h.ysz h.r rm i)
  | _ => unassigned

/-- Maps 1 to 3: the promoted VEX instructions (30_encoding.md R140). -/
def vexRow (map : BitVec 3) (op : Byte) (h : EvexHead) (rm : RM) : Row :=
  match map.toNat, h.pp.toNat with
  | 1, 0 => map1NP op.toNat h rm
  | 1, 1 => map166 op.toNat h rm
  | 1, 3 => map1F2 op.toNat h rm
  | 2, 0 => map2NP op.toNat h rm
  | 2, 1 =>
    if op.extractLsb' 4 4 = 14 then
      .imm0 (onMem rm fun m => sel h.vex0 (.cmpccxadd (Cond.ofBits (op.setWidth 4)) h.ysz m h.r h.v))
    else map266 op.toNat h rm
  | 2, 2 => map2F3 op.toNat h rm
  | 2, 3 => map2F2 op.toNat h rm
  | 3, 3 => map3F2 op.toNat h rm
  | _, _ => unassigned

/-- REX2, legacy map 0, the opcodes with a ModRM byte (45_jmpabs_rex2.md R375). -/
def rex2Map0 (op : Nat) (h : Rex2Head) (rm : RM) : Row :=
  match op with
  | 0x00 => .imm0 (sel true (.rex2AddRmR .o8 rm h.r))
  | 0x01 => .imm0 (sel true (.rex2AddRmR h.op rm h.r))
  | 0x02 => .imm0 (sel true (.rex2AddRRm .o8 h.r rm))
  | 0x03 => .imm0 (sel true (.rex2AddRRm h.op h.r rm))
  | 0x08 => .imm0 (sel true (.rex2OrRmR .o8 rm h.r))
  | 0x09 => .imm0 (sel true (.rex2OrRmR h.op rm h.r))
  | 0x0A => .imm0 (sel true (.rex2OrRRm .o8 h.r rm))
  | 0x0B => .imm0 (sel true (.rex2OrRRm h.op h.r rm))
  | 0x10 => .imm0 (sel true (.rex2AdcRmR .o8 rm h.r))
  | 0x11 => .imm0 (sel true (.rex2AdcRmR h.op rm h.r))
  | 0x12 => .imm0 (sel true (.rex2AdcRRm .o8 h.r rm))
  | 0x13 => .imm0 (sel true (.rex2AdcRRm h.op h.r rm))
  | 0x18 => .imm0 (sel true (.rex2SbbRmR .o8 rm h.r))
  | 0x19 => .imm0 (sel true (.rex2SbbRmR h.op rm h.r))
  | 0x1A => .imm0 (sel true (.rex2SbbRRm .o8 h.r rm))
  | 0x1B => .imm0 (sel true (.rex2SbbRRm h.op h.r rm))
  | 0x20 => .imm0 (sel true (.rex2AndRmR .o8 rm h.r))
  | 0x21 => .imm0 (sel true (.rex2AndRmR h.op rm h.r))
  | 0x22 => .imm0 (sel true (.rex2AndRRm .o8 h.r rm))
  | 0x23 => .imm0 (sel true (.rex2AndRRm h.op h.r rm))
  | 0x28 => .imm0 (sel true (.rex2SubRmR .o8 rm h.r))
  | 0x29 => .imm0 (sel true (.rex2SubRmR h.op rm h.r))
  | 0x2A => .imm0 (sel true (.rex2SubRRm .o8 h.r rm))
  | 0x2B => .imm0 (sel true (.rex2SubRRm h.op h.r rm))
  | 0x30 => .imm0 (sel true (.rex2XorRmR .o8 rm h.r))
  | 0x31 => .imm0 (sel true (.rex2XorRmR h.op rm h.r))
  | 0x32 => .imm0 (sel true (.rex2XorRRm .o8 h.r rm))
  | 0x33 => .imm0 (sel true (.rex2XorRRm h.op h.r rm))
  | 0x38 => .imm0 (sel true (.rex2CmpRmR .o8 rm h.r))
  | 0x39 => .imm0 (sel true (.rex2CmpRmR h.op rm h.r))
  | 0x3A => .imm0 (sel true (.rex2CmpRRm .o8 h.r rm))
  | 0x3B => .imm0 (sel true (.rex2CmpRRm h.op h.r rm))
  | 0x63 => .imm0 (no66 h (sel true (.rex2Movsxd h.ysz h.r rm)))
  | 0x69 => izRow h.sz fun i => sel true (.rex2ImulRRmIz h.r rm i)
  | 0x6B => .imm8 fun i => sel true (.rex2ImulRRmI8 h.sz h.r rm i)
  | 0x80 =>
    match h.digit with
    | 0 => .imm8 fun i => sel true (.rex2AddRmImm rm (.i8 i))
    | 1 => .imm8 fun i => sel true (.rex2OrRmImm rm (.i8 i))
    | 2 => .imm8 fun i => sel true (.rex2AdcRmImm rm (.i8 i))
    | 3 => .imm8 fun i => sel true (.rex2SbbRmImm rm (.i8 i))
    | 4 => .imm8 fun i => sel true (.rex2AndRmImm rm (.i8 i))
    | 5 => .imm8 fun i => sel true (.rex2SubRmImm rm (.i8 i))
    | 6 => .imm8 fun i => sel true (.rex2XorRmImm rm (.i8 i))
    | _ => .imm8 fun i => sel true (.rex2CmpRmImm rm (.i8 i))
  | 0x81 =>
    match h.digit with
    | 0 => izRow h.sz fun i => sel true (.rex2AddRmImm rm i.toImm)
    | 1 => izRow h.sz fun i => sel true (.rex2OrRmImm rm i.toImm)
    | 2 => izRow h.sz fun i => sel true (.rex2AdcRmImm rm i.toImm)
    | 3 => izRow h.sz fun i => sel true (.rex2SbbRmImm rm i.toImm)
    | 4 => izRow h.sz fun i => sel true (.rex2AndRmImm rm i.toImm)
    | 5 => izRow h.sz fun i => sel true (.rex2SubRmImm rm i.toImm)
    | 6 => izRow h.sz fun i => sel true (.rex2XorRmImm rm i.toImm)
    | _ => izRow h.sz fun i => sel true (.rex2CmpRmImm rm i.toImm)
  | 0x83 =>
    match h.digit with
    | 0 => .imm8 fun i => sel true (.rex2AddRmI8 h.sz rm i)
    | 1 => .imm8 fun i => sel true (.rex2OrRmI8 h.sz rm i)
    | 2 => .imm8 fun i => sel true (.rex2AdcRmI8 h.sz rm i)
    | 3 => .imm8 fun i => sel true (.rex2SbbRmI8 h.sz rm i)
    | 4 => .imm8 fun i => sel true (.rex2AndRmI8 h.sz rm i)
    | 5 => .imm8 fun i => sel true (.rex2SubRmI8 h.sz rm i)
    | 6 => .imm8 fun i => sel true (.rex2XorRmI8 h.sz rm i)
    | _ => .imm8 fun i => sel true (.rex2CmpRmI8 h.sz rm i)
  | 0x84 => .imm0 (sel true (.rex2TestRmR .o8 rm h.r))
  | 0x85 => .imm0 (sel true (.rex2TestRmR h.op rm h.r))
  | 0x88 => .imm0 (sel true (.rex2MovRmR .o8 rm h.r))
  | 0x89 => .imm0 (sel true (.rex2MovRmR h.op rm h.r))
  | 0x8A => .imm0 (sel true (.rex2MovRRm .o8 h.r rm))
  | 0x8B => .imm0 (sel true (.rex2MovRRm h.op h.r rm))
  | 0x8D => .imm0 (onMem rm fun m => sel true (.rex2Lea h.sz h.r m))
  | 0x8F =>
    match h.digit with
    | 0 => .imm0 (no66 h (sel true (.rex2PopRm rm)))
    | _ => alreadyUd
  | 0xC0 =>
    match h.digit with
    | 0 => .imm8 fun i => sel true (.rex2RolRmI8 .o8 rm i)
    | 1 => .imm8 fun i => sel true (.rex2RorRmI8 .o8 rm i)
    | 2 => .imm8 fun i => sel true (.rex2RclRmI8 .o8 rm i)
    | 3 => .imm8 fun i => sel true (.rex2RcrRmI8 .o8 rm i)
    | 4 => .imm8 fun i => sel true (.rex2ShlRmI8 false .o8 rm i)
    | 5 => .imm8 fun i => sel true (.rex2ShrRmI8 .o8 rm i)
    | 6 => .imm8 fun i => sel true (.rex2ShlRmI8 true .o8 rm i)
    | _ => .imm8 fun i => sel true (.rex2SarRmI8 .o8 rm i)
  | 0xC1 =>
    match h.digit with
    | 0 => .imm8 fun i => sel true (.rex2RolRmI8 h.op rm i)
    | 1 => .imm8 fun i => sel true (.rex2RorRmI8 h.op rm i)
    | 2 => .imm8 fun i => sel true (.rex2RclRmI8 h.op rm i)
    | 3 => .imm8 fun i => sel true (.rex2RcrRmI8 h.op rm i)
    | 4 => .imm8 fun i => sel true (.rex2ShlRmI8 false h.op rm i)
    | 5 => .imm8 fun i => sel true (.rex2ShrRmI8 h.op rm i)
    | 6 => .imm8 fun i => sel true (.rex2ShlRmI8 true h.op rm i)
    | _ => .imm8 fun i => sel true (.rex2SarRmI8 h.op rm i)
  | 0xC6 =>
    match h.digit with
    | 0 => .imm8 fun i => sel true (.rex2MovRmImm rm (.i8 i))
    | d => movGroupRest d rm
  | 0xC7 =>
    match h.digit with
    | 0 => izRow h.sz fun i => sel true (.rex2MovRmImm rm i.toImm)
    | d => movGroupRest d rm
  | 0xD0 =>
    match h.digit with
    | 0 => .imm0 (sel true (.rex2RolRmOne .o8 rm))
    | 1 => .imm0 (sel true (.rex2RorRmOne .o8 rm))
    | 2 => .imm0 (sel true (.rex2RclRmOne .o8 rm))
    | 3 => .imm0 (sel true (.rex2RcrRmOne .o8 rm))
    | 4 => .imm0 (sel true (.rex2ShlRmOne false .o8 rm))
    | 5 => .imm0 (sel true (.rex2ShrRmOne .o8 rm))
    | 6 => .imm0 (sel true (.rex2ShlRmOne true .o8 rm))
    | _ => .imm0 (sel true (.rex2SarRmOne .o8 rm))
  | 0xD1 =>
    match h.digit with
    | 0 => .imm0 (sel true (.rex2RolRmOne h.op rm))
    | 1 => .imm0 (sel true (.rex2RorRmOne h.op rm))
    | 2 => .imm0 (sel true (.rex2RclRmOne h.op rm))
    | 3 => .imm0 (sel true (.rex2RcrRmOne h.op rm))
    | 4 => .imm0 (sel true (.rex2ShlRmOne false h.op rm))
    | 5 => .imm0 (sel true (.rex2ShrRmOne h.op rm))
    | 6 => .imm0 (sel true (.rex2ShlRmOne true h.op rm))
    | _ => .imm0 (sel true (.rex2SarRmOne h.op rm))
  | 0xD2 =>
    match h.digit with
    | 0 => .imm0 (sel true (.rex2RolRmCl .o8 rm))
    | 1 => .imm0 (sel true (.rex2RorRmCl .o8 rm))
    | 2 => .imm0 (sel true (.rex2RclRmCl .o8 rm))
    | 3 => .imm0 (sel true (.rex2RcrRmCl .o8 rm))
    | 4 => .imm0 (sel true (.rex2ShlRmCl false .o8 rm))
    | 5 => .imm0 (sel true (.rex2ShrRmCl .o8 rm))
    | 6 => .imm0 (sel true (.rex2ShlRmCl true .o8 rm))
    | _ => .imm0 (sel true (.rex2SarRmCl .o8 rm))
  | 0xD3 =>
    match h.digit with
    | 0 => .imm0 (sel true (.rex2RolRmCl h.op rm))
    | 1 => .imm0 (sel true (.rex2RorRmCl h.op rm))
    | 2 => .imm0 (sel true (.rex2RclRmCl h.op rm))
    | 3 => .imm0 (sel true (.rex2RcrRmCl h.op rm))
    | 4 => .imm0 (sel true (.rex2ShlRmCl false h.op rm))
    | 5 => .imm0 (sel true (.rex2ShrRmCl h.op rm))
    | 6 => .imm0 (sel true (.rex2ShlRmCl true h.op rm))
    | _ => .imm0 (sel true (.rex2SarRmCl h.op rm))
  | 0xF6 =>
    match h.digit with
    | 0 => .imm8 fun i => sel true (.rex2TestRmImm false rm (.i8 i))
    | 1 => .imm8 fun i => sel true (.rex2TestRmImm true rm (.i8 i))
    | 2 => .imm0 (sel true (.rex2NotRm .o8 rm))
    | 3 => .imm0 (sel true (.rex2NegRm .o8 rm))
    | 4 => .imm0 (sel true (.rex2MulRm .o8 rm))
    | 5 => .imm0 (sel true (.rex2ImulRm .o8 rm))
    | 6 => .imm0 (sel true (.rex2DivRm .o8 rm))
    | _ => .imm0 (sel true (.rex2IdivRm .o8 rm))
  | 0xF7 =>
    match h.digit with
    | 0 => izRow h.sz fun i => sel true (.rex2TestRmImm false rm i.toImm)
    | 1 => izRow h.sz fun i => sel true (.rex2TestRmImm true rm i.toImm)
    | 2 => .imm0 (sel true (.rex2NotRm h.op rm))
    | 3 => .imm0 (sel true (.rex2NegRm h.op rm))
    | 4 => .imm0 (sel true (.rex2MulRm h.op rm))
    | 5 => .imm0 (sel true (.rex2ImulRm h.op rm))
    | 6 => .imm0 (sel true (.rex2DivRm h.op rm))
    | _ => .imm0 (sel true (.rex2IdivRm h.op rm))
  | 0xFE =>
    match h.digit with
    | 0 => .imm0 (sel true (.rex2IncRm .o8 rm))
    | 1 => .imm0 (sel true (.rex2DecRm .o8 rm))
    | _ => alreadyUd
  | 0xFF =>
    match h.digit with
    | 0 => .imm0 (sel true (.rex2IncRm h.op rm))
    | 1 => .imm0 (sel true (.rex2DecRm h.op rm))
    | 3 => farRow rm
    | 5 => farRow rm
    | 6 => .imm0 (no66 h (sel true (.rex2PushRm rm)))
    | 7 => alreadyUd
    | _ => outside
  | _ => outside

/-- REX2, legacy map 1 (45_jmpabs_rex2.md R375). -/
def rex2Map1 (op : Nat) (h : Rex2Head) (rm : RM) : Row :=
  match op with
  | 0xA4 => .imm8 fun i => sel true (.rex2ShldRmRI8 h.sz rm h.r i)
  | 0xA5 => .imm0 (sel true (.rex2ShldRmRCl h.sz rm h.r))
  | 0xAC => .imm8 fun i => sel true (.rex2ShrdRmRI8 h.sz rm h.r i)
  | 0xAD => .imm0 (sel true (.rex2ShrdRmRCl h.sz rm h.r))
  | 0xAF => .imm0 (sel true (.rex2ImulRRm h.sz h.r rm))
  | 0xB6 => .imm0 (sel true (.rex2Movzx h.sz .b8 h.r rm))
  | 0xB7 => .imm0 (sel true (.rex2Movzx h.sz .w16 h.r rm))
  | 0xBE => .imm0 (sel true (.rex2Movsx h.sz .b8 h.r rm))
  | 0xBF => .imm0 (sel true (.rex2Movsx h.sz .w16 h.r rm))
  | _ => outside

/-! ### ModRM, SIB and displacement -/

/-- The value of four little-endian bytes. -/
def word32 (a b c d : Byte) : BitVec 32 := BitVec.ofNat 32 (leValue [a, b, c, d])

/-- The displacement that `mod` calls for (30_encoding.md R153), and the bytes after it; none when bytes are missing. -/
def takeDisp (mod : BitVec 2) (bs : List Byte) : Option (Disp × List Byte) :=
  match mod.toNat with
  | 0 => some (.none, bs)
  | 1 =>
    match bs with
    | a :: bs => some (.d8 a, bs)
    | [] => none
  | _ =>
    match bs with
    | a :: b :: c :: d :: bs => some (.d32 (word32 a b c d), bs)
    | _ => none

/-- A 32-bit displacement, and the bytes after it. -/
def takeDisp32 (bs : List Byte) : Option (BitVec 32 × List Byte) :=
  match bs with
  | a :: b :: c :: d :: bs => some (word32 a b c d, bs)
  | _ => none

/-- The index of a SIB byte; X = 4 means none (30_encoding.md R154). -/
def sibIndex (x4 x3 : Bool) (sib : Byte) : Option Index :=
  let x := idOf x4 x3 (fieldHi sib)
  if x = 4 then none else some ⟨x, field2 sib⟩

/-- The memory form after ModRM (30_encoding.md R153, R154), and the bytes after it. -/
def takeForm (x4 x3 b4 b3 : Bool) (mod : BitVec 2) (rm : BitVec 3) (bs : List Byte) : Option (MemForm × List Byte) :=
  if rm = 4 then
    match bs with
    | [] => none
    | sib :: bs =>
      if fieldLo sib = 5 ∧ mod = 0 then
        (takeDisp32 bs).map fun (d, bs) => (.sibNoBase (sibIndex x4 x3 sib) d, bs)
      else (takeDisp mod bs).map fun (d, bs) => (.sib (idOf b4 b3 (fieldLo sib)) (sibIndex x4 x3 sib) d, bs)
  else if rm = 5 ∧ mod = 0 then (takeDisp32 bs).map fun (d, bs) => (.ripRel d, bs)
  else (takeDisp mod bs).map fun (d, bs) => (.base (idOf b4 b3 rm) d, bs)

/-- The r/m operand that ModRM and the following bytes name (30_encoding.md R152), and the bytes after it. -/
def takeRM (seg : Option Segment) (a32 x4 x3 b4 b3 : Bool) (modrm : Byte) (bs : List Byte) :
    Option (RM × List Byte) :=
  if field2 modrm = 3 then some (.reg (idOf b4 b3 (fieldLo modrm)), bs)
  else (takeForm x4 x3 b4 b3 (field2 modrm) (fieldLo modrm) bs).map fun (f, bs) => (.mem ⟨seg, a32, f⟩, bs)

/-! ### Legacy prefixes -/

/-- The legacy prefixes before REX2 or EVEX (30_encoding.md R108, R118). `f3` tells F3 from F2, the last of them counting
(PRESUMED, notes/assumptions/40.md). -/
structure Pre where
  seg  : Option Segment
  a32  : Bool
  o16  : Bool
  lock : Bool
  rep  : Bool
  rex  : Bool
  f3   : Bool
  deriving DecidableEq, Repr

/-- No prefix. -/
def Pre.empty : Pre := ⟨none, false, false, false, false, false, false⟩

/-- One prefix byte taken into account; none when the byte is no legacy prefix. The last segment override counts:
PRESUMED, unsafe, notes/assumptions/11.md. -/
def Pre.add (p : Pre) (b : Byte) : Option Pre :=
  match b.toNat with
  | 0x26 => some { p with seg := some .es }
  | 0x2E => some { p with seg := some .cs }
  | 0x36 => some { p with seg := some .ss }
  | 0x3E => some { p with seg := some .ds }
  | 0x64 => some { p with seg := some .fs }
  | 0x65 => some { p with seg := some .gs }
  | 0x66 => some { p with o16 := true }
  | 0x67 => some { p with a32 := true }
  | 0xF0 => some { p with lock := true }
  | 0xF2 => some { p with rep := true, f3 := false }
  | 0xF3 => some { p with rep := true, f3 := true }
  | _ => if b.extractLsb' 4 4 = 4 then some { p with rex := true } else none

/-- The prefixes at the head of the bytes, and the bytes from the first that is no prefix. -/
def takePre (p : Pre) : List Byte → Pre × List Byte
  | [] => (p, [])
  | b :: bs =>
    match p.add b with
    | some q => takePre q bs
    | none => (p, b :: bs)

/-- Only 0x67 and segment overrides may precede EVEX (30_encoding.md R118, 60_exceptions.md R438). -/
def Pre.evexOk (p : Pre) : Bool := !p.o16 && !p.lock && !p.rep && !p.rex

/-! ### Immediates -/

/-- The value of eight little-endian bytes. -/
def word64 (a b c d e f g h : Byte) : Word := BitVec.ofNat 64 (leValue [a, b, c, d, e, f, g, h])

/-- The instruction of a row with its immediate taken from the bytes (30_encoding.md R161), handed to `k` with the bytes
after it. -/
def Row.take (row : Row) (k : Sel → List Byte → Decoded) (bs : List Byte) : Decoded :=
  match row with
  | .imm0 r => k r bs
  | .imm8 f =>
    match bs with
    | a :: bs => k (f a) bs
    | [] => .truncated
  | .imm16 f =>
    match bs with
    | a :: b :: bs => k (f (BitVec.ofNat 16 (leValue [a, b]))) bs
    | _ => .truncated
  | .imm32 f =>
    match bs with
    | a :: b :: c :: d :: bs => k (f (word32 a b c d)) bs
    | _ => .truncated
  | .imm64 f =>
    match bs with
    | a :: b :: c :: d :: e :: f' :: g :: h :: bs => k (f (word64 a b c d e f' g h)) bs
    | _ => .truncated

/-- The outcome of a selected row. -/
def Sel.outcome (r : Sel) (bs : List Byte) : Decoded :=
  match r with
  | .ok i => .ok i bs
  | .error .ud => .ud
  | .error (.refused r) => .refused r

/-! ### EVEX -/

/-- The opcodes of maps 1 to 3 that use the VEX-promoted format (30_encoding.md R119, R140). -/
def promotedVex (map : BitVec 3) (op : Byte) : Bool :=
  match map.toNat with
  | 1 => op.extractLsb' 2 6 == 0x24
  | 2 => op == 0x49 || op == 0x4B || op.extractLsb' 4 4 == 14 || op == 0xF2 || op == 0xF3 || op == 0xF5 ||
      op == 0xF6 || op == 0xF7
  | 3 => op == 0xF0
  | _ => false

/-- The row fields of an EVEX instruction (30_encoding.md R116). -/
def evexHead (p0 p1 p2 modrm : Byte) : EvexHead where
  r := idOf (!p0.getLsbD 4) (!p0.getLsbD 7) (fieldHi modrm)
  v := BitVec.ofBool (!p2.getLsbD 3) ++ ~~~(p1.extractLsb' 3 4)
  w := p1.getLsbD 7
  pp := p1.extractLsb' 0 2
  nd := p2.getLsbD 4
  nf := p2.getLsbD 2
  hi := p2.extractLsb' 5 3
  lo := p2.extractLsb' 0 2

/-- The row of a promoted instruction (30_encoding.md R119). -/
def evexRow (map : BitVec 3) (op : Byte) (h : EvexHead) (rm : RM) : Row :=
  if map = 4 then map4Row op h rm else vexRow map op h rm

/-- The bytes after 0x62 (30_encoding.md R113). -/
def decodeEvex (p : Pre) (bs : List Byte) : Decoded :=
  match bs with
  | p0 :: p1 :: p2 :: op :: bs =>
    let map := p0.extractLsb' 0 3
    if (map == 4 || promotedVex map op) = false then
      if p.evexOk then .refused (.existingEvex (p0.getLsbD 3 || !p1.getLsbD 2)) else .ud
    else
      match bs with
      | [] => .truncated
      | modrm :: bs =>
        match takeRM p.seg p.a32 (!p1.getLsbD 2) (!p0.getLsbD 6) (p0.getLsbD 3) (!p0.getLsbD 5) modrm bs with
        | none => .truncated
        | some (rm, bs) =>
          (evexRow map op (evexHead p0 p1 p2 modrm) rm).take
            (fun r bs => if p.evexOk then Sel.outcome r bs else .ud) bs
  | _ => .truncated

/-! ### REX2 -/

/-- Map 0 rows reserved under REX2, the two-byte escape, and the prefix bytes of Table 3.1, EVEX, VEX and REX2 among them
(30_encoding.md R105, R106, R108, R109, 93_implementation_defined.md 1.1). -/
def rex2Reserved0 (op : Byte) : Bool :=
  let row := op.extractLsb' 4 4
  row == 4 || row == 7 || row == 0xA || row == 0xE || op == 0x0F || op == 0x26 || op == 0x2E || op == 0x36 ||
    op == 0x3E || op == 0x62 || op == 0x64 || op == 0x65 || op == 0x66 || op == 0x67 || op == 0xC4 || op == 0xC5 ||
    op == 0xD5 || op == 0xF0 || op == 0xF2 || op == 0xF3

/-- Map 1 rows reserved under REX2 (30_encoding.md R106). -/
def rex2Reserved1 (op : Byte) : Bool :=
  let row := op.extractLsb' 4 4
  row == 3 || row == 8

/-- Map 0 opcodes that already raise #UD in 64-bit mode without REX2 (30_encoding.md R107). The list is PRESUMED, unsafe,
notes/assumptions/40.md. -/
def alreadyUd0 (op : Byte) : Bool :=
  [0x06, 0x07, 0x0E, 0x16, 0x17, 0x1E, 0x1F, 0x27, 0x2F, 0x37, 0x3F, 0x60, 0x61, 0x82, 0x9A, 0xCE, 0xD4, 0xD6].contains
    op.toNat

/-- Map 1 opcodes that already raise #UD without REX2 whatever follows: the reserved ones, UD0, UD1 and UD2, B8, which
is POPCNT with F3 only, and 77 with 66, F2 or F3, since EMMS has no prefix (30_encoding.md R107). The list is PRESUMED,
unsafe, notes/assumptions/40.md. -/
def alreadyUd1 (p : Pre) (op : Byte) : Bool :=
  [0x04, 0x0A, 0x0B, 0x0C, 0x0E, 0x0F, 0x24, 0x25, 0x26, 0x27, 0x7A, 0x7B, 0xA6, 0xA7, 0xB9, 0xFF].contains op.toNat ||
    op == 0xB8 && !(p.rep && p.f3) || op == 0x77 && (p.o16 || p.rep)

/-- The forms an opcode has under one mandatory prefix: none, memory only, register only, both. -/
inductive Forms | none | mem | reg | both
  deriving DecidableEq, Repr

/-- Whether a form with a register operand (or with a memory operand) is among them. -/
def Forms.has : Forms → Bool → Bool
  | .none, _ => false
  | .mem, isReg => !isReg
  | .reg, isReg => isReg
  | .both, _ => true

/-- The forms of an opcode of map 1 without a mandatory prefix, and with 66, F3 and F2. -/
structure PrefixForms where
  np  : Forms
  p66 : Forms
  f3  : Forms
  f2  : Forms
  deriving DecidableEq, Repr

/-- The forms under the mandatory prefix that counts: F2 or F3 before 66. -/
def PrefixForms.under (t : PrefixForms) (p : Pre) : Forms :=
  if p.rep then (if p.f3 then t.f3 else t.f2) else if p.o16 then t.p66 else t.np

/-- The opcodes of map 1, out of those with no digit, that lack a form under some mandatory prefix. The family's opcode map,
PRESUMED, unsafe, notes/assumptions/40.md. -/
def prefixForms (op : Nat) : Option PrefixForms :=
  if [0x14, 0x15, 0x28, 0x29, 0x2E, 0x2F, 0x54, 0x55, 0x56, 0x57, 0x60, 0x61, 0x62, 0x63, 0x64, 0x65, 0x66, 0x67, 0x68,
      0x69, 0x6A, 0x6B, 0x6E, 0x74, 0x75, 0x76, 0xC4, 0xC6, 0xD1, 0xD2, 0xD3, 0xD4, 0xD5, 0xD8, 0xD9, 0xDA, 0xDB, 0xDC,
      0xDD, 0xDE, 0xDF, 0xE0, 0xE1, 0xE2, 0xE3, 0xE4, 0xE5, 0xE8, 0xE9, 0xEA, 0xEB, 0xEC, 0xED, 0xEE, 0xEF, 0xF1, 0xF2,
      0xF3, 0xF4, 0xF5, 0xF6, 0xF8, 0xF9, 0xFA, 0xFB, 0xFC, 0xFD, 0xFE].contains op then
    some ⟨.both, .both, .none, .none⟩
  else if [0x13, 0x17, 0x2B, 0xE7].contains op then some ⟨.mem, .mem, .none, .none⟩
  else if [0x50, 0xC5, 0xD7, 0xF7].contains op then some ⟨.reg, .reg, .none, .none⟩
  else if [0x52, 0x53].contains op then some ⟨.both, .none, .both, .none⟩
  else if [0x5B, 0x6F, 0x7E, 0x7F].contains op then some ⟨.both, .both, .both, .none⟩
  else if [0x6C, 0x6D].contains op then some ⟨.none, .both, .none, .none⟩
  else if [0x7C, 0x7D, 0xD0].contains op then some ⟨.none, .both, .none, .both⟩
  else if [0x78, 0x79].contains op then some ⟨.both, .none, .none, .none⟩
  else if [0xB2, 0xB4, 0xB5].contains op then some ⟨.mem, .mem, .mem, .mem⟩
  else match op with
    | 0x12 => some ⟨.both, .mem, .both, .both⟩
    | 0x16 => some ⟨.both, .mem, .both, .none⟩
    | 0xC3 => some ⟨.mem, .none, .none, .none⟩
    | 0xD6 => some ⟨.none, .both, .reg, .reg⟩
    | 0xE6 => some ⟨.none, .both, .both, .both⟩
    | 0xF0 => some ⟨.none, .none, .none, .mem⟩
    | _ => none

/-- Map 1 opcode 01, group 7, with a register operand, by its whole ModRM byte: under which mandatory prefixes it is an
instruction. The family's opcode map, PRESUMED, unsafe, notes/assumptions/40.md. -/
def group7Forms (modrm : Nat) : PrefixForms :=
  if [0xC0, 0xC5, 0xC7, 0xCB, 0xD0, 0xD1, 0xD4, 0xD5, 0xD6, 0xD7].contains modrm then ⟨.reg, .none, .none, .none⟩
  else if [0xC6, 0xCA, 0xE8].contains modrm then ⟨.reg, .none, .reg, .reg⟩
  else if [0xCC, 0xCD, 0xCE].contains modrm then ⟨.none, .reg, .none, .none⟩
  else if modrm = 0xCF then ⟨.reg, .reg, .none, .none⟩
  else if modrm = 0xE9 then ⟨.none, .none, .none, .reg⟩
  else if [0xEA, 0xEC, 0xED].contains modrm then ⟨.none, .none, .reg, .none⟩
  else if [0xEE, 0xEF].contains modrm then ⟨.reg, .none, .reg, .none⟩
  else if [0xD2, 0xD3, 0xEB].contains modrm || decide (0xD8 ≤ modrm ∧ modrm < 0xE0) || decide (0xFA ≤ modrm) then
    ⟨.none, .none, .none, .none⟩
  else ⟨.reg, .reg, .reg, .reg⟩

/-- Group 7 with a form that already raises #UD without REX2: a register form that is no instruction under its mandatory
prefix, or /5 with a memory operand and no F3 (30_encoding.md R107). PRESUMED, unsafe, notes/assumptions/40.md. -/
def alreadyUdGroup7 (p : Pre) (modrm : Byte) : Bool :=
  if field2 modrm = 3 then !((group7Forms modrm.toNat).under p).has true
  else decide ((fieldHi modrm).toNat = 5) && !(p.rep && p.f3)

/-- Map 1 opcode AE, group 15: the digits that a form has under its mandatory prefix (30_encoding.md R107). PRESUMED,
unsafe, notes/assumptions/40.md. -/
def group15Digits (p : Pre) (isReg : Bool) : List Nat :=
  match isReg, p.rep, p.f3, p.o16 with
  | false, false, _, false => [0, 1, 2, 3, 4, 5, 6, 7]
  | false, false, _, true => [6, 7]
  | false, true, true, _ => [4, 6]
  | false, true, false, _ => []
  | true, false, _, false => [5, 6, 7]
  | true, false, _, true => [6]
  | true, true, true, _ => [0, 1, 2, 3, 4, 5, 6]
  | true, true, false, _ => [6]

/-- Map 1 opcode C7, group 9: the digits that a form has under its mandatory prefix (30_encoding.md R107). PRESUMED, unsafe,
notes/assumptions/40.md. -/
def group9Digits (p : Pre) (isReg : Bool) : List Nat :=
  match isReg, p.rep, p.f3, p.o16 with
  | false, false, _, false => [1, 3, 4, 5, 6, 7]
  | false, false, _, true => [1, 6]
  | false, true, true, _ => [1, 6]
  | false, true, false, _ => [1]
  | true, true, false, _ => []
  | true, _, _, _ => [6, 7]

/-- Map 1 opcodes whose ModRM byte and mandatory prefix make them raise #UD without REX2 (30_encoding.md R107). PRESUMED,
unsafe, notes/assumptions/40.md. -/
def alreadyUdForm1 (p : Pre) (op modrm : Byte) : Bool :=
  let digit := (fieldHi modrm).toNat
  let isReg := decide (field2 modrm = 3)
  match op.toNat with
  | 0x00 => decide (digit = 7) || decide (digit = 6) && !(p.rep && !p.f3)
  | 0x01 => alreadyUdGroup7 p modrm
  | 0x71 => !(isReg && !p.rep && [2, 4, 6].contains digit)
  | 0x72 => !(isReg && !p.rep && [2, 4, 6].contains digit)
  | 0x73 => !(isReg && !p.rep && ([2, 6].contains digit || p.o16 && [3, 7].contains digit))
  | 0xAE => !(group15Digits p isReg).contains digit
  | 0xBA => decide (digit < 4)
  | 0xC7 => !(group9Digits p isReg).contains digit
  | n =>
    match prefixForms n with
    | some t => !(t.under p).has isReg
    | none => false

/-- Map 0 opcodes outside the subset whose ModRM byte makes them raise #UD without REX2: moves to and from segment registers
that do not exist or to CS, and the x87 opcodes that stand for no instruction (30_encoding.md R107). PRESUMED, unsafe,
notes/assumptions/40.md. -/
def alreadyUdForm0 (op modrm : Byte) : Bool :=
  let digit := (fieldHi modrm).toNat
  let low := (fieldLo modrm).toNat
  if field2 modrm = 3 then
    match op.toNat with
    | 0x8C => decide (6 ≤ digit)
    | 0x8E => [1, 6, 7].contains digit
    | 0xD9 => decide (digit = 2) && decide (low ≠ 0) || decide (digit = 4) && [2, 3, 6, 7].contains low ||
        decide (digit = 5) && decide (low = 7)
    | 0xDA => decide (4 ≤ digit) && !(decide (digit = 5) && decide (low = 1))
    | 0xDB => decide (digit = 4) && decide (5 ≤ low) || decide (digit = 7)
    | 0xDD => decide (6 ≤ digit)
    | 0xDE => decide (digit = 3) && decide (low ≠ 1)
    | 0xDF => decide (digit = 4) && decide (low ≠ 0) || decide (digit = 7)
    | _ => false
  else
    match op.toNat with
    | 0x8C => decide (6 ≤ digit)
    | 0x8E => [1, 6, 7].contains digit
    | 0xD9 => decide (digit = 1)
    | 0xDB => [4, 6].contains digit
    | 0xDD => decide (digit = 5)
    | _ => false

/-- XSAVE* and XRSTOR* in map 1: AE /4 to /6 and C7 /3 to /5 with a memory operand and no mandatory prefix
(30_encoding.md R107). The opcodes are PRESUMED, notes/assumptions/12.md. -/
def isXsave (p : Pre) (op modrm : Byte) : Bool :=
  !p.o16 && !p.rep && field2 modrm != 3 &&
    (op == 0xAE && (fieldHi modrm == 4 || fieldHi modrm == 5 || fieldHi modrm == 6) ||
      op == 0xC7 && (fieldHi modrm == 3 || fieldHi modrm == 4 || fieldHi modrm == 5))

/-- The map 0 opcodes of the subset that have a ModRM byte (45_jmpabs_rex2.md R375). -/
def rex2Modrm0 (op : Byte) : Bool :=
  decide (op.toNat < 0x40 ∧ op.toNat % 8 < 4) || op == 0x63 || op == 0x69 || op == 0x6B ||
    decide (0x80 ≤ op.toNat ∧ op.toNat ≤ 0x8D ∧ op.toNat ≠ 0x82 ∧ op.toNat ≠ 0x86 ∧ op.toNat ≠ 0x87 ∧ op.toNat ≠ 0x8C) ||
    op == 0x8F || op == 0xC0 || op == 0xC1 || op == 0xC6 || op == 0xC7 ||
    decide (0xD0 ≤ op.toNat ∧ op.toNat ≤ 0xD3) || op == 0xF6 || op == 0xF7 || op == 0xFE || op == 0xFF

/-- The map 1 opcodes of the subset, all with a ModRM byte (45_jmpabs_rex2.md R375). -/
def rex2Modrm1 (op : Byte) : Bool :=
  op.extractLsb' 4 4 == 4 || op.extractLsb' 4 4 == 9 || op == 0xA4 || op == 0xA5 || op == 0xAC || op == 0xAD ||
    op == 0xAF || op == 0xB6 || op == 0xB7 || op == 0xBE || op == 0xBF

/-- The opcodes outside the subset whose ModRM byte decides whether they raise #UD: XSAVE*, XRSTOR* and their groups, and
the opcodes of `alreadyUdForm0` and `alreadyUdForm1`. PRESUMED, notes/assumptions/12.md and 40.md. -/
def rex2Group (m0 : Bool) (op : Byte) : Bool :=
  if m0 then
    [0x00, 0x01, 0x71, 0x72, 0x73, 0xAE, 0xBA, 0xC7].contains op.toNat || (prefixForms op.toNat).isSome
  else [0x8C, 0x8E, 0xD9, 0xDA, 0xDB, 0xDD, 0xDE, 0xDF].contains op.toNat

/-- What such an opcode does: #UD (30_encoding.md R107), or outside the subset (45_jmpabs_rex2.md R389). -/
def rex2GroupOutcome (p : Pre) (m0 : Bool) (op modrm : Byte) : Decoded :=
  if (if m0 then isXsave p op modrm || alreadyUdForm1 p op modrm else alreadyUdForm0 op modrm) then .ud
  else .refused .rex2Outside

/-- Map 1 20 to 23, MOV to and from control and debug registers, whose R4 and R3 are not ignored (10_state.md R42). The
opcodes are PRESUMED, notes/assumptions/41.md. -/
def isMovSystemReg (op : Byte) : Bool := op.extractLsb' 2 6 == 8

/-- The row of a REX2 instruction with a ModRM byte. -/
def rex2Row (m0 : Bool) (op : Byte) (h : Rex2Head) (rm : RM) : Row :=
  if m0 then
    if op.extractLsb' 4 4 = 4 then .imm0 (sel true (.rex2Cmov (Cond.ofBits (op.setWidth 4)) h.sz h.r rm))
    else if op.extractLsb' 4 4 = 9 then .imm0 (no66 h (sel true (.rex2Setcc (Cond.ofBits (op.setWidth 4)) rm)))
    else rex2Map1 op.toNat h rm
  else rex2Map0 op.toNat h rm

/-- The map 0 opcodes that embed a register: PUSH, POP and MOV (45_jmpabs_rex2.md R372, R373, R380). -/
def rex2Direct (op : Byte) (h : Rex2Head) : Row :=
  match (op.extractLsb' 3 5).toNat with
  | 0x0A => .imm0 (no16 h (sel true (if h.w then .rex2Pushp h.b else .rex2PushR h.b)))
  | 0x0B => .imm0 (no16 h (sel true (if h.w then .rex2Popp h.b else .rex2PopR h.b)))
  | 0x16 => .imm8 fun i => sel true (.rex2MovRImm h.b (.b8 i))
  | 0x17 => movRow h.sz fun i => sel true (.rex2MovRImm h.b i)
  | _ => outside

/-- What LOCK does before a REX2 instruction of the subset (45_jmpabs_rex2.md R376): the memory-destination forms of R377
and R384 to R386 run unchanged, a register destination raises #UD, the rest is refused. -/
inductive LockUse | runs | ud | refused
  deriving DecidableEq, Repr

/-- LOCK on an opcode of map 0 or 1 with a ModRM byte (45_jmpabs_rex2.md R376; notes/assumptions/13.md). -/
def lockUse (m0 : Bool) (op : Byte) (digit : Nat) (rm : RM) : LockUse :=
  let n := op.toNat
  let mem : Bool := match rm with
    | .reg _ => false
    | .mem _ => true
  let runs : Bool :=
    if m0 then n == 0xA4 || n == 0xA5 || n == 0xAC || n == 0xAD
    else decide (n < 0x38 ∧ n % 8 < 2) || (n == 0x80 || n == 0x81 || n == 0x83) && digit != 7 ||
      n == 0xC0 || n == 0xC1 || decide (0xD0 ≤ n ∧ n ≤ 0xD3) ||
      (n == 0xF6 || n == 0xF7) && (digit == 2 || digit == 3) || (n == 0xFE || n == 0xFF) && decide (digit < 2)
  let noDest : Bool :=
    !m0 && (decide (0x38 ≤ n ∧ n ≤ 0x3B) || (n == 0x80 || n == 0x81 || n == 0x83) && digit == 7 ||
      n == 0x84 || n == 0x85 || (n == 0xF6 || n == 0xF7) && decide (digit < 2) || n == 0xFF && digit == 6)
  let memDest : Bool :=
    if m0 then op.extractLsb' 4 4 == 9 else n == 0x88 || n == 0x89 || n == 0xC6 || n == 0xC7 || n == 0x8F
  if runs then (if mem then .runs else .ud)
  else if noDest then .refused
  else if memDest && mem then .refused
  else .ud

/-- The outcome of a REX2 row under the LOCK, REP and REPNE prefixes (45_jmpabs_rex2.md R376). -/
def rex2Outcome (p : Pre) (use : LockUse) (r : Sel) (bs : List Byte) : Decoded :=
  match r with
  | .error .ud => .ud
  | .error (.refused d) => if p.lock && use = .ud && d = .operandSize16 then .ud else .refused d
  | .ok _ =>
    if p.lock && use = .ud then .ud
    else if p.rep then .refused .repBeforeRex2
    else if p.lock && use = .refused then .refused .lockBeforeRex2
    else Sel.outcome r bs

/-- JMPABS: W = 0, and no 0x66, 0x67, LOCK or REP before it (45_jmpabs_rex2.md R370, 60_exceptions.md R458). -/
def decodeJmpabs (p : Pre) (w : Bool) (bs : List Byte) : Decoded :=
  if w then .ud
  else
    Row.take (.imm64 fun i => sel true (.jmpabs i))
      (fun r bs => if p.o16 || p.a32 || p.lock || p.rep then .ud else Sel.outcome r bs) bs

/-- The bytes after 0xD5 where no REX prefix stands before it (30_encoding.md R103). Which opcodes already raise #UD without
REX2 (R107) the spec does not list: `alreadyUd0`, `alreadyUd1`, `alreadyUdForm0`, `alreadyUdForm1`, `alreadyUd`, `farRow` and
`movGroupRest` hold the model's list, PRESUMED, unsafe, notes/assumptions/40.md; every other opcode outside the subset is
refused (45_jmpabs_rex2.md R375, R389). -/
def decodeRex2Body (p : Pre) (bs : List Byte) : Decoded :=
  match bs with
  | pl :: op :: bs =>
    let m0 := pl.getLsbD 7
    let w := pl.getLsbD 3
    let b := idOf (pl.getLsbD 4) (pl.getLsbD 0) (op.extractLsb' 0 3)
    if m0 = false ∧ op = 0xA1 then decodeJmpabs p w bs
    else if (if m0 then rex2Reserved1 op || alreadyUd1 p op else rex2Reserved0 op || alreadyUd0 op) then .ud
    else if (if m0 then rex2Modrm1 op else rex2Modrm0 op) then
      match bs with
      | [] => .truncated
      | modrm :: bs =>
        match takeRM p.seg p.a32 (pl.getLsbD 5) (pl.getLsbD 1) (pl.getLsbD 4) (pl.getLsbD 0) modrm bs with
        | none => .truncated
        | some (rm, bs) =>
          let h : Rex2Head := ⟨idOf (pl.getLsbD 6) (pl.getLsbD 2) (fieldHi modrm), b, w, p.o16⟩
          (rex2Row m0 op h rm).take (rex2Outcome p (lockUse m0 op h.digit rm)) bs
    else if rex2Group m0 op then
      match bs with
      | [] => .truncated
      | modrm :: bs =>
        match takeRM p.seg p.a32 (pl.getLsbD 5) (pl.getLsbD 1) (pl.getLsbD 4) (pl.getLsbD 0) modrm bs with
        | none => .truncated
        | some _ => rex2GroupOutcome p m0 op modrm
    else if m0 then
      if isMovSystemReg op then
        match bs with
        | [] => .truncated
        | modrm :: _ =>
          .refused (.movSystemReg (op.getLsbD 0) (idOf (pl.getLsbD 6) (pl.getLsbD 2) (fieldHi modrm)))
      else .refused .rex2Outside
    else
      (rex2Direct op ⟨0, b, w, p.o16⟩).take
        (rex2Outcome p (if op.extractLsb' 3 5 = 0x0A then .refused else .ud)) bs
  | _ => .truncated

/-- #UD for an encoding whose bytes are all there: a byte that cannot be fetched counts first (60_exceptions.md R432). -/
def Decoded.orUd : Decoded → Decoded
  | .truncated => .truncated
  | .ok _ _ => .ud
  | .ud => .ud
  | .refused _ => .ud

/-- The bytes after 0xD5 (30_encoding.md R103). REX before REX2 raises #UD (R108) once the instruction's bytes are there
(60_exceptions.md R432). -/
def decodeRex2 (p : Pre) (bs : List Byte) : Decoded :=
  if p.rex then (decodeRex2Body { p with rex := false } bs).orUd else decodeRex2Body p bs

/-- What the bytes at the instruction pointer decode to (30_encoding.md R102, 70_reset_and_hazards.md R495). -/
def decode (bs : List Byte) : Decoded :=
  match takePre Pre.empty bs with
  | (_, []) => .truncated
  | (p, b :: bs) =>
    if b = 0x62 then decodeEvex p bs
    else if b = 0xD5 then decodeRex2 p bs
    else .refused .notApx

/-! ### The encoder -/

/-- What an r/m operand contributes to an encoding: legacy prefixes, mod, rm, the logical extension bits, and the bytes
after ModRM. -/
structure RmBits where
  pre  : List Byte
  mod  : BitVec 2
  rm   : BitVec 3
  x4   : Bool
  x3   : Bool
  b4   : Bool
  b3   : Bool
  tail : List Byte
  deriving DecidableEq, Repr

/-- The prefix byte of a segment override (30_encoding.md R108). -/
def Segment.byte : Segment → Byte
  | .es => 0x26
  | .cs => 0x2E
  | .ss => 0x36
  | .ds => 0x3E
  | .fs => 0x64
  | .gs => 0x65

/-- The segment and ASIZE overrides of a memory operand. -/
def Mem.pre (m : Mem) : List Byte :=
  (match m.seg with
    | none => []
    | some s => [s.byte]) ++ (if m.a32 then [0x67] else [])

/-- ModRM.mod of a displacement (30_encoding.md R153). -/
def Disp.mod : Disp → BitVec 2
  | .none => 0
  | .d8 _ => 1
  | .d32 _ => 2

/-- The bytes of a displacement. -/
def Disp.bytes : Disp → List Byte
  | .none => []
  | .d8 v => [v]
  | .d32 v => leBytes 4 v.toNat

/-- The index id a SIB byte holds: 4 for none (30_encoding.md R154). -/
def indexId : Option Index → RegId
  | none => 4
  | some i => i.id

/-- The scale a SIB byte holds. -/
def indexScale : Option Index → BitVec 2
  | none => 0
  | some i => i.scale

/-- The encoding of a memory operand (30_encoding.md R153, R154). -/
def memBits (m : Mem) : RmBits :=
  match m.form with
  | .base b d => ⟨m.pre, d.mod, low3 b, false, false, b.getLsbD 4, b.getLsbD 3, d.bytes⟩
  | .sib b i d =>
    ⟨m.pre, d.mod, 4, (indexId i).getLsbD 4, (indexId i).getLsbD 3, b.getLsbD 4, b.getLsbD 3,
      byte233 (indexScale i) (low3 (indexId i)) (low3 b) :: d.bytes⟩
  | .sibNoBase i d =>
    ⟨m.pre, 0, 4, (indexId i).getLsbD 4, (indexId i).getLsbD 3, false, false,
      byte233 (indexScale i) (low3 (indexId i)) 5 :: leBytes 4 d.toNat⟩
  | .ripRel d => ⟨m.pre, 0, 5, false, false, false, false, leBytes 4 d.toNat⟩

/-- The encoding of a register operand in r/m. -/
def regBits (i : RegId) : RmBits := ⟨[], 3, low3 i, false, false, i.getLsbD 4, i.getLsbD 3, []⟩

/-- The encoding of an r/m operand. -/
def rmBits : RM → RmBits
  | .reg i => regBits i
  | .mem m => memBits m

/-- The encoding of an xmm/m128 operand. -/
def xrmBits : XRM → RmBits
  | .xmm x => regBits (xmmReg x)
  | .mem m => memBits m

/-- The encoding of a mask/memory operand. -/
def krmBits : KRM → RmBits
  | .k k => regBits (shortReg k)
  | .mem m => memBits m

/-- P0 (30_encoding.md R113, R115): R3, X3, B3 and R4 are stored inverted. -/
def p0Byte (rm : RmBits) (map : BitVec 3) (reg : RegId) : Byte :=
  byteOf (!reg.getLsbD 3) (!rm.x3) (!rm.b3) (!reg.getLsbD 4) rm.b4 (map.getLsbD 2) (map.getLsbD 1) (map.getLsbD 0)

/-- An EVEX instruction in the legacy- or VEX-promoted format (30_encoding.md R120, R139): V and X4 are stored
inverted. -/
def evex (rm : RmBits) (map : BitVec 3) (w : Bool) (v : RegId) (pp : BitVec 2) (nd nf : Bool) (reg : RegId)
    (op : Byte) (imm : List Byte) : List Byte :=
  rm.pre ++
    [0x62, p0Byte rm map reg,
      byteOf w (!v.getLsbD 3) (!v.getLsbD 2) (!v.getLsbD 1) (!v.getLsbD 0) (!rm.x4) (pp.getLsbD 1) (pp.getLsbD 0),
      byteOf false false false nd (!v.getLsbD 4) nf false false,
      op, byte233 rm.mod (low3 reg) rm.rm] ++ rm.tail ++ imm

/-- An EVEX instruction in the CCMP/CTEST format (30_encoding.md R147): DFV and SCC are stored as they are. -/
def evexCc (rm : RmBits) (w : Bool) (dfv : Dfv) (pp : BitVec 2) (scc : Scc) (reg : RegId) (op : Byte)
    (imm : List Byte) : List Byte :=
  rm.pre ++
    [0x62, p0Byte rm 4 reg,
      byteOf w dfv.of dfv.sf dfv.zf dfv.cf (!rm.x4) (pp.getLsbD 1) (pp.getLsbD 0),
      byteOf false false false false (scc.bits.getLsbD 3) (scc.bits.getLsbD 2) (scc.bits.getLsbD 1)
        (scc.bits.getLsbD 0),
      op, byte233 rm.mod (low3 reg) rm.rm] ++ rm.tail ++ imm

/-- The OSIZE override, when an instruction needs it. -/
def pre66 (p66 : Bool) : List Byte := if p66 then [0x66] else []

/-- A REX2 instruction with a ModRM byte (30_encoding.md R103): no bit is stored inverted. -/
def rex2 (rm : RmBits) (p66 m0 w : Bool) (reg : RegId) (op : Byte) (imm : List Byte) : List Byte :=
  rm.pre ++ pre66 p66 ++
    [0xD5, byteOf m0 (reg.getLsbD 4) rm.x4 rm.b4 w (reg.getLsbD 3) rm.x3 rm.b3, op,
      byte233 rm.mod (low3 reg) rm.rm] ++ rm.tail ++ imm

/-- A REX2 instruction whose opcode embeds a register, and JMPABS (30_encoding.md R104, R112). -/
def rex2Op (p66 m0 w : Bool) (b : RegId) (op : Byte) (imm : List Byte) : List Byte :=
  pre66 p66 ++
    [0xD5, byteOf m0 false false (b.getLsbD 4) w false false (b.getLsbD 3), op ||| (low3 b).setWidth 8] ++ imm

/-- An opcode with a condition code in its low four bits (10_state.md R33). -/
def ccOp (base : Byte) (cc : Cond) : Byte := base ||| cc.bits.setWidth 8

/-- The V field of a form with an optional NDD register (30_encoding.md R128). -/
def nddV (ndd : Option RegId) : RegId := ndd.getD 0

/-- The bytes of a well-formed instruction, written from the encoding tables (30_encoding.md R113 to R161). Ignored bits
have their logical 0 (R110, R127). -/
def encode : Instr → List Byte
  | .adcRmR sz rm reg ndd => evex (rmBits rm) 4 sz.w (nddV ndd) sz.pp ndd.isSome false reg (sz.opcode 0x10) []
  | .adcRRm sz reg rm ndd => evex (rmBits rm) 4 sz.w (nddV ndd) sz.pp ndd.isSome false reg (sz.opcode 0x12) []
  | .adcRmImm rm imm ndd => evex (rmBits rm) 4 imm.size.w (nddV ndd) imm.size.pp ndd.isSome false 2 (imm.size.opcode 0x80) imm.bytes
  | .adcRmI8 sz rm imm ndd => evex (rmBits rm) 4 sz.w (nddV ndd) sz.pp ndd.isSome false 2 0x83 [imm]
  | .adcx sz reg rm ndd => evex (rmBits rm) 4 sz.w (nddV ndd) 1 ndd.isSome false reg 0x66 []
  | .addRmR sz rm reg ndd nf => evex (rmBits rm) 4 sz.w (nddV ndd) sz.pp ndd.isSome nf reg (sz.opcode 0x00) []
  | .addRRm sz reg rm ndd nf => evex (rmBits rm) 4 sz.w (nddV ndd) sz.pp ndd.isSome nf reg (sz.opcode 0x02) []
  | .addRmImm rm imm ndd nf => evex (rmBits rm) 4 imm.size.w (nddV ndd) imm.size.pp ndd.isSome nf 0 (imm.size.opcode 0x80) imm.bytes
  | .addRmI8 sz rm imm ndd nf => evex (rmBits rm) 4 sz.w (nddV ndd) sz.pp ndd.isSome nf 0 0x83 [imm]
  | .adox sz reg rm ndd => evex (rmBits rm) 4 sz.w (nddV ndd) 2 ndd.isSome false reg 0x66 []
  | .aesdec128kl x m => evex (memBits m) 4 false 0 2 false false (xmmReg x) 0xDD []
  | .aesdec256kl x m => evex (memBits m) 4 false 0 2 false false (xmmReg x) 0xDF []
  | .aesdecwide128kl m => evex (memBits m) 4 false 0 2 false false 1 0xD8 []
  | .aesdecwide256kl m => evex (memBits m) 4 false 0 2 false false 3 0xD8 []
  | .aesenc128kl x m => evex (memBits m) 4 false 0 2 false false (xmmReg x) 0xDC []
  | .aesenc256kl x m => evex (memBits m) 4 false 0 2 false false (xmmReg x) 0xDE []
  | .aesencwide128kl m => evex (memBits m) 4 false 0 2 false false 0 0xD8 []
  | .aesencwide256kl m => evex (memBits m) 4 false 0 2 false false 2 0xD8 []
  | .andRmR sz rm reg ndd nf => evex (rmBits rm) 4 sz.w (nddV ndd) sz.pp ndd.isSome nf reg (sz.opcode 0x20) []
  | .andRRm sz reg rm ndd nf => evex (rmBits rm) 4 sz.w (nddV ndd) sz.pp ndd.isSome nf reg (sz.opcode 0x22) []
  | .andRmImm rm imm ndd nf => evex (rmBits rm) 4 imm.size.w (nddV ndd) imm.size.pp ndd.isSome nf 4 (imm.size.opcode 0x80) imm.bytes
  | .andRmI8 sz rm imm ndd nf => evex (rmBits rm) 4 sz.w (nddV ndd) sz.pp ndd.isSome nf 4 0x83 [imm]
  | .andn sz reg v rm nf => evex (rmBits rm) 2 sz.w v 0 false nf reg 0xF2 []
  | .bextr sz reg rm v nf => evex (rmBits rm) 2 sz.w v 0 false nf reg 0xF7 []
  | .blsi sz v rm nf => evex (rmBits rm) 2 sz.w v 0 false nf 3 0xF3 []
  | .blsmsk sz v rm nf => evex (rmBits rm) 2 sz.w v 0 false nf 2 0xF3 []
  | .blsr sz v rm nf => evex (rmBits rm) 2 sz.w v 0 false nf 1 0xF3 []
  | .bzhi sz reg rm v nf => evex (rmBits rm) 2 sz.w v 0 false nf reg 0xF5 []
  | .cmov cc sz v reg rm => evex (rmBits rm) 4 sz.w v sz.pp true false reg (ccOp 0x40 cc) []
  | .cmpccxadd cc sz m reg v => evex (memBits m) 2 sz.w v 1 false false reg (ccOp 0xE0 cc) []
  | .crc32Rm8 sz reg rm => evex (rmBits rm) 4 sz.w 0 0 false false reg 0xF0 []
  | .crc32Rm sz reg rm => evex (rmBits rm) 4 sz.w 0 sz.pp false false reg 0xF1 []
  | .decRm sz rm ndd nf => evex (rmBits rm) 4 sz.w (nddV ndd) sz.pp ndd.isSome nf 1 (sz.opcode 0xFE) []
  | .divRm sz rm nf => evex (rmBits rm) 4 sz.w 0 sz.pp false nf 6 (sz.opcode 0xF6) []
  | .encodekey128 reg b => evex (regBits b) 4 false 0 2 false false reg 0xDA []
  | .encodekey256 reg b => evex (regBits b) 4 false 0 2 false false reg 0xDB []
  | .enqcmd reg m => evex (memBits m) 4 false 0 3 false false reg 0xF8 []
  | .enqcmds reg m => evex (memBits m) 4 false 0 2 false false reg 0xF8 []
  | .idivRm sz rm nf => evex (rmBits rm) 4 sz.w 0 sz.pp false nf 7 (sz.opcode 0xF6) []
  | .imulRRmIz reg rm imm zu nf => evex (rmBits rm) 4 imm.size.w 0 imm.size.pp zu nf reg 0x69 imm.bytes
  | .imulRRmI8 sz reg rm imm zu nf => evex (rmBits rm) 4 sz.w 0 sz.pp zu nf reg 0x6B [imm]
  | .imulRRm sz reg rm ndd nf => evex (rmBits rm) 4 sz.w (nddV ndd) sz.pp ndd.isSome nf reg 0xAF []
  | .imulRm sz rm nf => evex (rmBits rm) 4 sz.w 0 sz.pp false nf 5 (sz.opcode 0xF6) []
  | .incRm sz rm ndd nf => evex (rmBits rm) 4 sz.w (nddV ndd) sz.pp ndd.isSome nf 0 (sz.opcode 0xFE) []
  | .invept reg m => evex (memBits m) 4 false 0 2 false false reg 0xF0 []
  | .invpcid reg m => evex (memBits m) 4 false 0 2 false false reg 0xF2 []
  | .invvpid reg m => evex (memBits m) 4 false 0 2 false false reg 0xF1 []
  | .kmovbKKm k src => evex (krmBits src) 1 false 0 1 false false (shortReg k) 0x90 []
  | .kmovbKR k b => evex (regBits b) 1 false 0 1 false false (shortReg k) 0x92 []
  | .kmovbRK reg k => evex (regBits (shortReg k)) 1 false 0 1 false false reg 0x93 []
  | .kmovbMK m k => evex (memBits m) 1 false 0 1 false false (shortReg k) 0x91 []
  | .kmovdRK reg k => evex (regBits (shortReg k)) 1 false 0 3 false false reg 0x93 []
  | .kmovdKKm k src => evex (krmBits src) 1 true 0 1 false false (shortReg k) 0x90 []
  | .kmovdKR k b => evex (regBits b) 1 false 0 3 false false (shortReg k) 0x92 []
  | .kmovdMK m k => evex (memBits m) 1 true 0 1 false false (shortReg k) 0x91 []
  | .kmovqKKm k src => evex (krmBits src) 1 true 0 0 false false (shortReg k) 0x90 []
  | .kmovqKR k b => evex (regBits b) 1 true 0 3 false false (shortReg k) 0x92 []
  | .kmovqRK reg k => evex (regBits (shortReg k)) 1 true 0 3 false false reg 0x93 []
  | .kmovqMK m k => evex (memBits m) 1 true 0 0 false false (shortReg k) 0x91 []
  | .kmovwKKm k src => evex (krmBits src) 1 false 0 0 false false (shortReg k) 0x90 []
  | .kmovwKR k b => evex (regBits b) 1 false 0 0 false false (shortReg k) 0x92 []
  | .kmovwRK reg k => evex (regBits (shortReg k)) 1 false 0 0 false false reg 0x93 []
  | .kmovwMK m k => evex (memBits m) 1 false 0 0 false false (shortReg k) 0x91 []
  | .ldtilecfg m => evex (memBits m) 2 false 0 0 false false 0 0x49 []
  | .lzcnt sz reg rm nf => evex (rmBits rm) 4 sz.w 0 sz.pp false nf reg 0xF5 []
  | .movbeRRm sz reg rm => evex (rmBits rm) 4 sz.w 0 sz.pp false false reg 0x60 []
  | .movbeRmR sz rm reg => evex (rmBits rm) 4 sz.w 0 sz.pp false false reg 0x61 []
  | .movdir64b reg m => evex (memBits m) 4 false 0 1 false false reg 0xF8 []
  | .movdiri sz m reg => evex (memBits m) 4 sz.w 0 0 false false reg 0xF9 []
  | .mulRm sz rm nf => evex (rmBits rm) 4 sz.w 0 sz.pp false nf 4 (sz.opcode 0xF6) []
  | .mulx sz reg v rm => evex (rmBits rm) 2 sz.w v 3 false false reg 0xF6 []
  | .negRm sz rm ndd nf => evex (rmBits rm) 4 sz.w (nddV ndd) sz.pp ndd.isSome nf 3 (sz.opcode 0xF6) []
  | .notRm sz rm ndd => evex (rmBits rm) 4 sz.w (nddV ndd) sz.pp ndd.isSome false 2 (sz.opcode 0xF6) []
  | .orRRm sz reg rm ndd nf => evex (rmBits rm) 4 sz.w (nddV ndd) sz.pp ndd.isSome nf reg (sz.opcode 0x0A) []
  | .orRmR sz rm reg ndd nf => evex (rmBits rm) 4 sz.w (nddV ndd) sz.pp ndd.isSome nf reg (sz.opcode 0x08) []
  | .orRmImm rm imm ndd nf => evex (rmBits rm) 4 imm.size.w (nddV ndd) imm.size.pp ndd.isSome nf 1 (imm.size.opcode 0x80) imm.bytes
  | .orRmI8 sz rm imm ndd nf => evex (rmBits rm) 4 sz.w (nddV ndd) sz.pp ndd.isSome nf 1 0x83 [imm]
  | .pdep sz reg v rm => evex (rmBits rm) 2 sz.w v 3 false false reg 0xF5 []
  | .pext sz reg v rm => evex (rmBits rm) 2 sz.w v 2 false false reg 0xF5 []
  | .popcnt sz reg rm nf => evex (rmBits rm) 4 sz.w 0 sz.pp false nf reg 0x88 []
  | .rclRmI8 sz rm imm ndd => evex (rmBits rm) 4 sz.w (nddV ndd) sz.pp ndd.isSome false 2 (sz.opcode 0xC0) [imm]
  | .rclRmOne sz rm ndd => evex (rmBits rm) 4 sz.w (nddV ndd) sz.pp ndd.isSome false 2 (sz.opcode 0xD0) []
  | .rclRmCl sz rm ndd => evex (rmBits rm) 4 sz.w (nddV ndd) sz.pp ndd.isSome false 2 (sz.opcode 0xD2) []
  | .rcrRmI8 sz rm imm ndd => evex (rmBits rm) 4 sz.w (nddV ndd) sz.pp ndd.isSome false 3 (sz.opcode 0xC0) [imm]
  | .rcrRmOne sz rm ndd => evex (rmBits rm) 4 sz.w (nddV ndd) sz.pp ndd.isSome false 3 (sz.opcode 0xD0) []
  | .rcrRmCl sz rm ndd => evex (rmBits rm) 4 sz.w (nddV ndd) sz.pp ndd.isSome false 3 (sz.opcode 0xD2) []
  | .rolRmI8 sz rm imm ndd nf => evex (rmBits rm) 4 sz.w (nddV ndd) sz.pp ndd.isSome nf 0 (sz.opcode 0xC0) [imm]
  | .rolRmOne sz rm ndd nf => evex (rmBits rm) 4 sz.w (nddV ndd) sz.pp ndd.isSome nf 0 (sz.opcode 0xD0) []
  | .rolRmCl sz rm ndd nf => evex (rmBits rm) 4 sz.w (nddV ndd) sz.pp ndd.isSome nf 0 (sz.opcode 0xD2) []
  | .rorRmI8 sz rm imm ndd nf => evex (rmBits rm) 4 sz.w (nddV ndd) sz.pp ndd.isSome nf 1 (sz.opcode 0xC0) [imm]
  | .rorRmOne sz rm ndd nf => evex (rmBits rm) 4 sz.w (nddV ndd) sz.pp ndd.isSome nf 1 (sz.opcode 0xD0) []
  | .rorRmCl sz rm ndd nf => evex (rmBits rm) 4 sz.w (nddV ndd) sz.pp ndd.isSome nf 1 (sz.opcode 0xD2) []
  | .rorx sz reg rm imm => evex (rmBits rm) 3 sz.w 0 3 false false reg 0xF0 [imm]
  | .sarRmI8 sz rm imm ndd nf => evex (rmBits rm) 4 sz.w (nddV ndd) sz.pp ndd.isSome nf 7 (sz.opcode 0xC0) [imm]
  | .sarRmOne sz rm ndd nf => evex (rmBits rm) 4 sz.w (nddV ndd) sz.pp ndd.isSome nf 7 (sz.opcode 0xD0) []
  | .sarRmCl sz rm ndd nf => evex (rmBits rm) 4 sz.w (nddV ndd) sz.pp ndd.isSome nf 7 (sz.opcode 0xD2) []
  | .sarx sz reg rm v => evex (rmBits rm) 2 sz.w v 2 false false reg 0xF7 []
  | .sbbRmR sz rm reg ndd => evex (rmBits rm) 4 sz.w (nddV ndd) sz.pp ndd.isSome false reg (sz.opcode 0x18) []
  | .sbbRRm sz reg rm ndd => evex (rmBits rm) 4 sz.w (nddV ndd) sz.pp ndd.isSome false reg (sz.opcode 0x1A) []
  | .sbbRmImm rm imm ndd => evex (rmBits rm) 4 imm.size.w (nddV ndd) imm.size.pp ndd.isSome false 3 (imm.size.opcode 0x80) imm.bytes
  | .sbbRmI8 sz rm imm ndd => evex (rmBits rm) 4 sz.w (nddV ndd) sz.pp ndd.isSome false 3 0x83 [imm]
  | .sha1msg1 x src => evex (xrmBits src) 4 false 0 0 false false (xmmReg x) 0xD9 []
  | .sha1msg2 x src => evex (xrmBits src) 4 false 0 0 false false (xmmReg x) 0xDA []
  | .sha1nexte x src => evex (xrmBits src) 4 false 0 0 false false (xmmReg x) 0xD8 []
  | .sha1rnds4 x src imm => evex (xrmBits src) 4 false 0 0 false false (xmmReg x) 0xD4 [imm]
  | .sha256msg1 x src => evex (xrmBits src) 4 false 0 0 false false (xmmReg x) 0xDC []
  | .sha256msg2 x src => evex (xrmBits src) 4 false 0 0 false false (xmmReg x) 0xDD []
  | .sha256rnds2 x src => evex (xrmBits src) 4 false 0 0 false false (xmmReg x) 0xDB []
  | .shlRmI8 alt sz rm imm ndd nf => evex (rmBits rm) 4 sz.w (nddV ndd) sz.pp ndd.isSome nf (shlDigit alt) (sz.opcode 0xC0) [imm]
  | .shlRmOne alt sz rm ndd nf => evex (rmBits rm) 4 sz.w (nddV ndd) sz.pp ndd.isSome nf (shlDigit alt) (sz.opcode 0xD0) []
  | .shlRmCl alt sz rm ndd nf => evex (rmBits rm) 4 sz.w (nddV ndd) sz.pp ndd.isSome nf (shlDigit alt) (sz.opcode 0xD2) []
  | .shldRmRI8 sz rm reg imm ndd nf => evex (rmBits rm) 4 sz.w (nddV ndd) sz.pp ndd.isSome nf reg 0x24 [imm]
  | .shldRmRCl sz rm reg ndd nf => evex (rmBits rm) 4 sz.w (nddV ndd) sz.pp ndd.isSome nf reg 0xA5 []
  | .shlx sz reg rm v => evex (rmBits rm) 2 sz.w v 1 false false reg 0xF7 []
  | .shrRmI8 sz rm imm ndd nf => evex (rmBits rm) 4 sz.w (nddV ndd) sz.pp ndd.isSome nf 5 (sz.opcode 0xC0) [imm]
  | .shrRmOne sz rm ndd nf => evex (rmBits rm) 4 sz.w (nddV ndd) sz.pp ndd.isSome nf 5 (sz.opcode 0xD0) []
  | .shrRmCl sz rm ndd nf => evex (rmBits rm) 4 sz.w (nddV ndd) sz.pp ndd.isSome nf 5 (sz.opcode 0xD2) []
  | .shrdRmRI8 sz rm reg imm ndd nf => evex (rmBits rm) 4 sz.w (nddV ndd) sz.pp ndd.isSome nf reg 0x2C [imm]
  | .shrdRmRCl sz rm reg ndd nf => evex (rmBits rm) 4 sz.w (nddV ndd) sz.pp ndd.isSome nf reg 0xAD []
  | .shrx sz reg rm v => evex (rmBits rm) 2 sz.w v 3 false false reg 0xF7 []
  | .sttilecfg m => evex (memBits m) 2 false 0 1 false false 0 0x49 []
  | .subRmR sz rm reg ndd nf => evex (rmBits rm) 4 sz.w (nddV ndd) sz.pp ndd.isSome nf reg (sz.opcode 0x28) []
  | .subRRm sz reg rm ndd nf => evex (rmBits rm) 4 sz.w (nddV ndd) sz.pp ndd.isSome nf reg (sz.opcode 0x2A) []
  | .subRmImm rm imm ndd nf => evex (rmBits rm) 4 imm.size.w (nddV ndd) imm.size.pp ndd.isSome nf 5 (imm.size.opcode 0x80) imm.bytes
  | .subRmI8 sz rm imm ndd nf => evex (rmBits rm) 4 sz.w (nddV ndd) sz.pp ndd.isSome nf 5 0x83 [imm]
  | .tileloadd t m => evex (memBits m) 2 false 0 3 false false (shortReg t) 0x4B []
  | .tileloaddt1 t m => evex (memBits m) 2 false 0 1 false false (shortReg t) 0x4B []
  | .tilestored m t => evex (memBits m) 2 false 0 2 false false (shortReg t) 0x4B []
  | .tzcnt sz reg rm nf => evex (rmBits rm) 4 sz.w 0 sz.pp false nf reg 0xF4 []
  | .wrssd m reg => evex (memBits m) 4 false 0 0 false false reg 0x66 []
  | .wrssq m reg => evex (memBits m) 4 true 0 0 false false reg 0x66 []
  | .wrussd m reg => evex (memBits m) 4 false 0 1 false false reg 0x65 []
  | .wrussq m reg => evex (memBits m) 4 true 0 1 false false reg 0x65 []
  | .xorRmR sz rm reg ndd nf => evex (rmBits rm) 4 sz.w (nddV ndd) sz.pp ndd.isSome nf reg (sz.opcode 0x30) []
  | .xorRRm sz reg rm ndd nf => evex (rmBits rm) 4 sz.w (nddV ndd) sz.pp ndd.isSome nf reg (sz.opcode 0x32) []
  | .xorRmImm rm imm ndd nf => evex (rmBits rm) 4 imm.size.w (nddV ndd) imm.size.pp ndd.isSome nf 6 (imm.size.opcode 0x80) imm.bytes
  | .xorRmI8 sz rm imm ndd nf => evex (rmBits rm) 4 sz.w (nddV ndd) sz.pp ndd.isSome nf 6 0x83 [imm]
  | .ccmpRmR scc dfv sz rm reg => evexCc (rmBits rm) sz.w dfv sz.pp scc reg (sz.opcode 0x38) []
  | .ccmpRRm scc dfv sz reg rm => evexCc (rmBits rm) sz.w dfv sz.pp scc reg (sz.opcode 0x3A) []
  | .ccmpRmImm scc dfv rm imm => evexCc (rmBits rm) imm.size.w dfv imm.size.pp scc 7 (imm.size.opcode 0x80) imm.bytes
  | .ccmpRmI8 scc dfv sz rm imm => evexCc (rmBits rm) sz.w dfv sz.pp scc 7 0x83 [imm]
  | .cfcmovLoad cc sz reg rm => evex (rmBits rm) 4 sz.w 0 sz.pp false false reg (ccOp 0x40 cc) []
  | .cfcmovReg cc sz b reg => evex (regBits b) 4 sz.w 0 sz.pp false true reg (ccOp 0x40 cc) []
  | .cfcmovStore cc sz m reg => evex (memBits m) 4 sz.w 0 sz.pp false true reg (ccOp 0x40 cc) []
  | .cfcmovNdd cc sz v reg rm => evex (rmBits rm) 4 sz.w v sz.pp true true reg (ccOp 0x40 cc) []
  | .ctestRmR scc dfv sz rm reg => evexCc (rmBits rm) sz.w dfv sz.pp scc reg (sz.opcode 0x84) []
  | .ctestRmImm scc dfv alt rm imm => evexCc (rmBits rm) imm.size.w dfv imm.size.pp scc (testDigit alt) (imm.size.opcode 0xF6) imm.bytes
  | .setcc cc rm zu => evex (rmBits rm) 4 false 0 3 zu false 0 (ccOp 0x40 cc) []
  | .pop2 v b => evex (regBits b) 4 false v 0 true false 0 0x8F []
  | .pop2p v b => evex (regBits b) 4 true v 0 true false 0 0x8F []
  | .push2 v b => evex (regBits b) 4 false v 0 true false 6 0xFF []
  | .push2p v b => evex (regBits b) 4 true v 0 true false 6 0xFF []
  | .rex2AddRmR sz rm reg => rex2 (rmBits rm) sz.p66 false sz.w reg (sz.opcode 0x00) []
  | .rex2AddRRm sz reg rm => rex2 (rmBits rm) sz.p66 false sz.w reg (sz.opcode 0x02) []
  | .rex2AddRmImm rm imm => rex2 (rmBits rm) imm.size.p66 false imm.size.w 0 (imm.size.opcode 0x80) imm.bytes
  | .rex2AddRmI8 sz rm imm => rex2 (rmBits rm) sz.p66 false sz.w 0 0x83 [imm]
  | .rex2OrRmR sz rm reg => rex2 (rmBits rm) sz.p66 false sz.w reg (sz.opcode 0x08) []
  | .rex2OrRRm sz reg rm => rex2 (rmBits rm) sz.p66 false sz.w reg (sz.opcode 0x0A) []
  | .rex2OrRmImm rm imm => rex2 (rmBits rm) imm.size.p66 false imm.size.w 1 (imm.size.opcode 0x80) imm.bytes
  | .rex2OrRmI8 sz rm imm => rex2 (rmBits rm) sz.p66 false sz.w 1 0x83 [imm]
  | .rex2AdcRmR sz rm reg => rex2 (rmBits rm) sz.p66 false sz.w reg (sz.opcode 0x10) []
  | .rex2AdcRRm sz reg rm => rex2 (rmBits rm) sz.p66 false sz.w reg (sz.opcode 0x12) []
  | .rex2AdcRmImm rm imm => rex2 (rmBits rm) imm.size.p66 false imm.size.w 2 (imm.size.opcode 0x80) imm.bytes
  | .rex2AdcRmI8 sz rm imm => rex2 (rmBits rm) sz.p66 false sz.w 2 0x83 [imm]
  | .rex2SbbRmR sz rm reg => rex2 (rmBits rm) sz.p66 false sz.w reg (sz.opcode 0x18) []
  | .rex2SbbRRm sz reg rm => rex2 (rmBits rm) sz.p66 false sz.w reg (sz.opcode 0x1A) []
  | .rex2SbbRmImm rm imm => rex2 (rmBits rm) imm.size.p66 false imm.size.w 3 (imm.size.opcode 0x80) imm.bytes
  | .rex2SbbRmI8 sz rm imm => rex2 (rmBits rm) sz.p66 false sz.w 3 0x83 [imm]
  | .rex2AndRmR sz rm reg => rex2 (rmBits rm) sz.p66 false sz.w reg (sz.opcode 0x20) []
  | .rex2AndRRm sz reg rm => rex2 (rmBits rm) sz.p66 false sz.w reg (sz.opcode 0x22) []
  | .rex2AndRmImm rm imm => rex2 (rmBits rm) imm.size.p66 false imm.size.w 4 (imm.size.opcode 0x80) imm.bytes
  | .rex2AndRmI8 sz rm imm => rex2 (rmBits rm) sz.p66 false sz.w 4 0x83 [imm]
  | .rex2SubRmR sz rm reg => rex2 (rmBits rm) sz.p66 false sz.w reg (sz.opcode 0x28) []
  | .rex2SubRRm sz reg rm => rex2 (rmBits rm) sz.p66 false sz.w reg (sz.opcode 0x2A) []
  | .rex2SubRmImm rm imm => rex2 (rmBits rm) imm.size.p66 false imm.size.w 5 (imm.size.opcode 0x80) imm.bytes
  | .rex2SubRmI8 sz rm imm => rex2 (rmBits rm) sz.p66 false sz.w 5 0x83 [imm]
  | .rex2XorRmR sz rm reg => rex2 (rmBits rm) sz.p66 false sz.w reg (sz.opcode 0x30) []
  | .rex2XorRRm sz reg rm => rex2 (rmBits rm) sz.p66 false sz.w reg (sz.opcode 0x32) []
  | .rex2XorRmImm rm imm => rex2 (rmBits rm) imm.size.p66 false imm.size.w 6 (imm.size.opcode 0x80) imm.bytes
  | .rex2XorRmI8 sz rm imm => rex2 (rmBits rm) sz.p66 false sz.w 6 0x83 [imm]
  | .rex2CmpRmR sz rm reg => rex2 (rmBits rm) sz.p66 false sz.w reg (sz.opcode 0x38) []
  | .rex2CmpRRm sz reg rm => rex2 (rmBits rm) sz.p66 false sz.w reg (sz.opcode 0x3A) []
  | .rex2CmpRmImm rm imm => rex2 (rmBits rm) imm.size.p66 false imm.size.w 7 (imm.size.opcode 0x80) imm.bytes
  | .rex2CmpRmI8 sz rm imm => rex2 (rmBits rm) sz.p66 false sz.w 7 0x83 [imm]
  | .rex2TestRmR sz rm reg => rex2 (rmBits rm) sz.p66 false sz.w reg (sz.opcode 0x84) []
  | .rex2TestRmImm alt rm imm => rex2 (rmBits rm) imm.size.p66 false imm.size.w (testDigit alt) (imm.size.opcode 0xF6) imm.bytes
  | .rex2MovRmR sz rm reg => rex2 (rmBits rm) sz.p66 false sz.w reg (sz.opcode 0x88) []
  | .rex2MovRRm sz reg rm => rex2 (rmBits rm) sz.p66 false sz.w reg (sz.opcode 0x8A) []
  | .rex2MovRmImm rm imm => rex2 (rmBits rm) imm.size.p66 false imm.size.w 0 (imm.size.opcode 0xC6) imm.bytes
  | .rex2MovRImm b imm => rex2Op imm.p66 false imm.w b imm.opcode imm.bytes
  | .rex2Lea sz reg m => rex2 (memBits m) sz.p66 false sz.w reg 0x8D []
  | .rex2Movsxd sz reg rm => rex2 (rmBits rm) false false sz.w reg 0x63 []
  | .rex2Movzx sz src reg rm => rex2 (rmBits rm) sz.p66 true sz.w reg (src.opcode 0xB6) []
  | .rex2Movsx sz src reg rm => rex2 (rmBits rm) sz.p66 true sz.w reg (src.opcode 0xBE) []
  | .rex2ImulRRmIz reg rm imm => rex2 (rmBits rm) imm.size.p66 false imm.size.w reg 0x69 imm.bytes
  | .rex2ImulRRmI8 sz reg rm imm => rex2 (rmBits rm) sz.p66 false sz.w reg 0x6B [imm]
  | .rex2ImulRRm sz reg rm => rex2 (rmBits rm) sz.p66 true sz.w reg 0xAF []
  | .rex2RolRmI8 sz rm imm => rex2 (rmBits rm) sz.p66 false sz.w 0 (sz.opcode 0xC0) [imm]
  | .rex2RorRmI8 sz rm imm => rex2 (rmBits rm) sz.p66 false sz.w 1 (sz.opcode 0xC0) [imm]
  | .rex2RclRmI8 sz rm imm => rex2 (rmBits rm) sz.p66 false sz.w 2 (sz.opcode 0xC0) [imm]
  | .rex2RcrRmI8 sz rm imm => rex2 (rmBits rm) sz.p66 false sz.w 3 (sz.opcode 0xC0) [imm]
  | .rex2ShlRmI8 alt sz rm imm => rex2 (rmBits rm) sz.p66 false sz.w (shlDigit alt) (sz.opcode 0xC0) [imm]
  | .rex2ShrRmI8 sz rm imm => rex2 (rmBits rm) sz.p66 false sz.w 5 (sz.opcode 0xC0) [imm]
  | .rex2SarRmI8 sz rm imm => rex2 (rmBits rm) sz.p66 false sz.w 7 (sz.opcode 0xC0) [imm]
  | .rex2RolRmOne sz rm => rex2 (rmBits rm) sz.p66 false sz.w 0 (sz.opcode 0xD0) []
  | .rex2RorRmOne sz rm => rex2 (rmBits rm) sz.p66 false sz.w 1 (sz.opcode 0xD0) []
  | .rex2RclRmOne sz rm => rex2 (rmBits rm) sz.p66 false sz.w 2 (sz.opcode 0xD0) []
  | .rex2RcrRmOne sz rm => rex2 (rmBits rm) sz.p66 false sz.w 3 (sz.opcode 0xD0) []
  | .rex2ShlRmOne alt sz rm => rex2 (rmBits rm) sz.p66 false sz.w (shlDigit alt) (sz.opcode 0xD0) []
  | .rex2ShrRmOne sz rm => rex2 (rmBits rm) sz.p66 false sz.w 5 (sz.opcode 0xD0) []
  | .rex2SarRmOne sz rm => rex2 (rmBits rm) sz.p66 false sz.w 7 (sz.opcode 0xD0) []
  | .rex2RolRmCl sz rm => rex2 (rmBits rm) sz.p66 false sz.w 0 (sz.opcode 0xD2) []
  | .rex2RorRmCl sz rm => rex2 (rmBits rm) sz.p66 false sz.w 1 (sz.opcode 0xD2) []
  | .rex2RclRmCl sz rm => rex2 (rmBits rm) sz.p66 false sz.w 2 (sz.opcode 0xD2) []
  | .rex2RcrRmCl sz rm => rex2 (rmBits rm) sz.p66 false sz.w 3 (sz.opcode 0xD2) []
  | .rex2ShlRmCl alt sz rm => rex2 (rmBits rm) sz.p66 false sz.w (shlDigit alt) (sz.opcode 0xD2) []
  | .rex2ShrRmCl sz rm => rex2 (rmBits rm) sz.p66 false sz.w 5 (sz.opcode 0xD2) []
  | .rex2SarRmCl sz rm => rex2 (rmBits rm) sz.p66 false sz.w 7 (sz.opcode 0xD2) []
  | .rex2ShldRmRI8 sz rm reg imm => rex2 (rmBits rm) sz.p66 true sz.w reg 0xA4 [imm]
  | .rex2ShldRmRCl sz rm reg => rex2 (rmBits rm) sz.p66 true sz.w reg 0xA5 []
  | .rex2ShrdRmRI8 sz rm reg imm => rex2 (rmBits rm) sz.p66 true sz.w reg 0xAC [imm]
  | .rex2ShrdRmRCl sz rm reg => rex2 (rmBits rm) sz.p66 true sz.w reg 0xAD []
  | .rex2NotRm sz rm => rex2 (rmBits rm) sz.p66 false sz.w 2 (sz.opcode 0xF6) []
  | .rex2NegRm sz rm => rex2 (rmBits rm) sz.p66 false sz.w 3 (sz.opcode 0xF6) []
  | .rex2MulRm sz rm => rex2 (rmBits rm) sz.p66 false sz.w 4 (sz.opcode 0xF6) []
  | .rex2ImulRm sz rm => rex2 (rmBits rm) sz.p66 false sz.w 5 (sz.opcode 0xF6) []
  | .rex2DivRm sz rm => rex2 (rmBits rm) sz.p66 false sz.w 6 (sz.opcode 0xF6) []
  | .rex2IdivRm sz rm => rex2 (rmBits rm) sz.p66 false sz.w 7 (sz.opcode 0xF6) []
  | .rex2IncRm sz rm => rex2 (rmBits rm) sz.p66 false sz.w 0 (sz.opcode 0xFE) []
  | .rex2DecRm sz rm => rex2 (rmBits rm) sz.p66 false sz.w 1 (sz.opcode 0xFE) []
  | .rex2Cmov cc sz reg rm => rex2 (rmBits rm) sz.p66 true sz.w reg (ccOp 0x40 cc) []
  | .rex2Setcc cc rm => rex2 (rmBits rm) false true false 0 (ccOp 0x90 cc) []
  | .rex2PushRm rm => rex2 (rmBits rm) false false false 6 0xFF []
  | .rex2PopRm rm => rex2 (rmBits rm) false false false 0 0x8F []
  | .rex2PushR b => rex2Op false false false b 0x50 []
  | .rex2Pushp b => rex2Op false false true b 0x50 []
  | .rex2PopR b => rex2Op false false false b 0x58 []
  | .rex2Popp b => rex2Op false false true b 0x58 []
  | .jmpabs target => rex2Op false false false 0 0xA1 (leBytes 8 target.toNat)

/-! ### The opcode table's words -/

/-- The first n bytes of a word whose first byte is its most significant one, the way `spec/opcode_table.json` numbers
the bits of a row. -/
def bytesHighFirst : Nat → Nat → List Byte
  | 0, _ => []
  | n + 1, w => BitVec.ofNat 8 (w / 256 ^ n) :: bytesHighFirst n w

/-- The instruction bytes a table word stands for, padded with zeros to 15 bytes. The table writes a row with 0x62 or
0xD5 in its highest byte; a word whose lowest byte is the first one is read too (notes/assumptions/14.md). -/
def tableBytes (nbits w : Nat) : List Byte :=
  let n := nbits / 8
  let hi := bytesHighFirst n w
  let first := hi.headD 0
  (if first == 0x62 || first == 0xD5 then hi else leBytes n w) ++ List.replicate (15 - n) 0

/-- The instruction the decoder reads from a word of the opcode table. -/
def decodeTableWord (nbits w : Nat) : Option Instr :=
  match decode (tableBytes nbits w) with
  | .ok i _ => some i
  | .ud => none
  | .truncated => none
  | .refused _ => none

end Sys2Proof
end

