-- ==== Sys2Proof/Machine/Flags.lean ====
section
/-! DEFINITION. Every flag computation and every condition of the spec (10_state.md R33, 40_alu.md R181,
46_conditional.md R391, R392). -/
namespace Sys2Proof.Machine

/-- 1 if the low byte has an even number of 1 bits (40_alu.md R181). -/
def parity {N : Nat} (r : BitVec N) : Bool :=
  !(r.getLsbD 0 ^^ r.getLsbD 1 ^^ r.getLsbD 2 ^^ r.getLsbD 3 ^^ r.getLsbD 4 ^^ r.getLsbD 5 ^^ r.getLsbD 6 ^^
    r.getLsbD 7)

/-- `SetSZP` (40_alu.md R181). -/
def Flags.setSZP {N : Nat} (f : Flags) (r : BitVec N) : Flags :=
  { f with sf := r.msb, zf := r == 0, pf := parity r }

/-- The truncated sum with carry in. -/
def addWith {N : Nat} (a b : BitVec N) (c : Bool) : BitVec N := a + b + (BitVec.ofBool c).setWidth N

/-- The truncated difference with borrow in. -/
def subWith {N : Nat} (a b : BitVec N) (c : Bool) : BitVec N := a - b - (BitVec.ofBool c).setWidth N

/-- `SetFlagsAdd` (40_alu.md R181). -/
def addFlags {N : Nat} (a b : BitVec N) (c : Bool) : Flags :=
  let r := addWith a b c
  { cf := decide (2 ^ N ≤ a.toNat + b.toNat + c.toNat)
    pf := parity r
    af := decide (16 ≤ a.toNat % 16 + b.toNat % 16 + c.toNat)
    zf := r == 0
    sf := r.msb
    of := a.msb == b.msb && r.msb != a.msb }

/-- `SetFlagsSub` (40_alu.md R181). -/
def subFlags {N : Nat} (a b : BitVec N) (c : Bool) : Flags :=
  let r := subWith a b c
  { cf := decide (a.toNat < b.toNat + c.toNat)
    pf := parity r
    af := decide (a.toNat % 16 < b.toNat % 16 + c.toNat)
    zf := r == 0
    sf := r.msb
    of := a.msb != b.msb && r.msb != a.msb }

/-- `SetFlagsLogic` (40_alu.md R181), with the undefined AF given. -/
def logicFlags {N : Nat} (af : Bool) (r : BitVec N) : Flags :=
  { cf := false
    pf := parity r
    af := af
    zf := r == 0
    sf := r.msb
    of := false }

/-- `cond(cc)` (10_state.md R33). -/
def Flags.cond (f : Flags) : Cond → Bool
  | .o => f.of
  | .no => !f.of
  | .b => f.cf
  | .nb => !f.cf
  | .z => f.zf
  | .nz => !f.zf
  | .be => f.cf || f.zf
  | .nbe => !f.cf && !f.zf
  | .s => f.sf
  | .ns => !f.sf
  | .p => f.pf
  | .np => !f.pf
  | .l => f.sf != f.of
  | .nl => f.sf == f.of
  | .le => f.zf || f.sf != f.of
  | .nle => !f.zf && f.sf == f.of

/-- `scc_true(SCC)` (46_conditional.md R391): T is always true, F always false, the rest are `cond`. -/
def Flags.scc (f : Flags) : Scc → Bool
  | .o => f.cond .o
  | .no => f.cond .no
  | .b => f.cond .b
  | .nb => f.cond .nb
  | .z => f.cond .z
  | .nz => f.cond .nz
  | .be => f.cond .be
  | .nbe => f.cond .nbe
  | .s => f.cond .s
  | .ns => f.cond .ns
  | .t => true
  | .f => false
  | .l => f.cond .l
  | .nl => f.cond .nl
  | .le => f.cond .le
  | .nle => f.cond .nle

/-- The status flags a false SCC sets: PF is EVEX.CF and AF is 0 (46_conditional.md R392). -/
def dfvFlags (d : Dfv) : Flags :=
  { cf := d.cf, pf := d.cf, af := false, zf := d.zf, sf := d.sf, of := d.of }

end Sys2Proof.Machine
end

