-- ==== Sys2Proof/Machine/Operands.lean ====
section
/-! DEFINITION. Operand forms: sizes, effective and linear addresses, reading a source and writing a destination. -/
namespace Sys2Proof

/-- OSIZE in bits. -/
def OSize.bits : OSize → Nat
  | .o16 => 16
  | .o32 => 32
  | .o64 => 64

/-- OSIZE in bits of a form that has a byte opcode too. -/
def OpSize.bits : OpSize → Nat
  | .o8 => 8
  | .o16 => 16
  | .o32 => 32
  | .o64 => 64

/-- The source size of MOVZX and MOVSX in bits. -/
def SrcSize.bits : SrcSize → Nat
  | .b8 => 8
  | .w16 => 16

/-- 32 or 64. -/
def YSize.bits : YSize → Nat
  | .y32 => 32
  | .y64 => 64

/-- OSIZE of an `iz` form. -/
def ImmZ.bits : ImmZ → Nat
  | .i16 _ => 16
  | .i32 _ => 32
  | .i64 _ => 64

/-- The immediate sign-extended to 64 bits (30_encoding.md R160). -/
def ImmZ.value : ImmZ → Word
  | .i16 v => v.signExtend 64
  | .i32 v => v.signExtend 64
  | .i64 v => v.signExtend 64

/-- OSIZE of an immediate form that has a byte opcode too. -/
def Imm.bits : Imm → Nat
  | .i8 _ => 8
  | .i16 _ => 16
  | .i32 _ => 32
  | .i64 _ => 64

/-- The immediate sign-extended to 64 bits (30_encoding.md R160). -/
def Imm.value : Imm → Word
  | .i8 v => v.signExtend 64
  | .i16 v => v.signExtend 64
  | .i32 v => v.signExtend 64
  | .i64 v => v.signExtend 64

/-- OSIZE of REX2 MOV B0+rb and B8+rd. -/
def MovImm.bits : MovImm → Nat
  | .b8 _ => 8
  | .w16 _ => 16
  | .d32 _ => 32
  | .q64 _ => 64

/-- The immediate of REX2 MOV B0+rb and B8+rd as 64 bits; only its low OSIZE bits are used. -/
def MovImm.value : MovImm → Word
  | .b8 v => v.setWidth 64
  | .w16 v => v.setWidth 64
  | .d32 v => v.setWidth 64
  | .q64 v => v

/-- The displacement sign-extended to 64 bits, 0 where there is none (30_encoding.md R153; disp8 is not scaled,
20_memory.md R63). -/
def Disp.value : Disp → Word
  | .none => 0
  | .d8 v => v.signExtend 64
  | .d32 v => v.signExtend 64

end Sys2Proof

namespace Sys2Proof.Machine

/-- `gpr[index] * 2^scale`, 0 where there is no index (30_encoding.md R154). -/
def indexValue (s : State) : Option Index → Word
  | none => 0
  | some i => s.getGpr i.id <<< i.scale.toNat

/-- Base, index and displacement of a memory form added up, before the address size is applied (30_encoding.md R153,
R154). During an instruction `rip` already addresses the next one, which is the RIP-relative base (R161). -/
def formSum (s : State) : MemForm → Word
  | .base b d => s.getGpr b + d.value
  | .sib b i d => s.getGpr b + indexValue s i + d.value
  | .sibNoBase i d => indexValue s i + d.signExtend 64
  | .ripRel d => s.rip + d.signExtend 64

/-- Truncation to ASIZE (30_encoding.md R155, 20_memory.md R67). -/
def truncAsize (a32 : Bool) (a : Word) : Word :=
  if a32 then (a.setWidth 32).setWidth 64 else a

/-- The effective address of a memory operand (30_encoding.md R155). -/
def effAddr (s : State) (m : Mem) : Word := truncAsize m.a32 (formSum s m.form)

/-- The base of the segment a memory operand names: FS and GS have one, the others are 0 (20_memory.md R66). -/
def segBase (s : State) : Option Segment → Word
  | some .fs => s.params.fsBase
  | some .gs => s.params.gsBase
  | some .es => 0
  | some .cs => 0
  | some .ss => 0
  | some .ds => 0
  | none => 0

/-- `EA_linear` (30_encoding.md R156). -/
def linAddr (s : State) (m : Mem) : Word := effAddr s m + segBase s m.seg

/-- The base register of a memory form, if it has one. -/
def MemForm.baseId : MemForm → Option RegId
  | .base b _ => some b
  | .sib b _ _ => some b
  | .sibNoBase _ _ => none
  | .ripRel _ => none

/-- Whether a memory operand references the SS segment: an SS override, or no override and base RSP or RBP
(20_memory.md R66). -/
def refsSS (m : Mem) : Bool :=
  match m.seg with
  | some .ss => true
  | some _ => false
  | none => MemForm.baseId m.form == some 4 || MemForm.baseId m.form == some 5

/-- The access of n bytes at a memory operand, for a class that lists #SS. -/
def memAccess (s : State) (m : Mem) (n : Nat) (kind : AccessKind) (ac : Bool) (align : Nat) : Access where
  addr := linAddr s m
  bytes := n
  kind := kind
  ss := refsSS m
  ac := ac
  align := align

/-- Where a source value comes from. -/
inductive Src
  | rm (x : RM)
  | reg (i : RegId)
  | imm (v : Word)
  deriving DecidableEq, Repr

/-- Where a result goes: a GPR with or without zeroing of its upper bits, or memory. -/
inductive Dst
  | reg (i : RegId) (zu : Bool)
  | mem (m : Mem)
  deriving DecidableEq, Repr

/-- The destination of a form whose destination is r/m when ND = 0, and the V register when ND = 1
(30_encoding.md R130). -/
def dstRM (rm : RM) (ndd : Option RegId) : Dst :=
  match ndd with
  | some v => .reg v true
  | none =>
    match rm with
    | .reg i => .reg i false
    | .mem m => .mem m

/-- The destination of a form whose destination is reg when ND = 0, and the V register when ND = 1. -/
def dstReg (reg : RegId) (ndd : Option RegId) : Dst :=
  match ndd with
  | some v => .reg v true
  | none => .reg reg false

/-- `ReadOp(o, N)` for a memory operand of a class that lists #AC. -/
def readMem (s : State) (N : Nat) (m : Mem) : Except Exc (BitVec N) :=
  s.load N (memAccess s m (N / 8) .read true 1)

/-- `ReadOp(o, N)` (30_encoding.md R150), or an immediate cut to N bits. -/
def readSrc (s : State) (N : Nat) : Src → Except Exc (BitVec N)
  | .rm (.reg i) => pure (s.readGpr N i)
  | .rm (.mem m) => readMem s N m
  | .reg i => pure (s.readGpr N i)
  | .imm v => pure (v.setWidth N)

/-- `WriteOp(o, N, v)`, and `WriteGpr(V, N, v, true)` for an NDD (30_encoding.md R151). -/
def writeDst (s : State) (N : Nat) (d : Dst) (v : BitVec N) : Except Exc State :=
  match d with
  | .reg i zu => pure (s.writeGpr N i v zu)
  | .mem m => s.store N (memAccess s m (N / 8) .write true 1) v

/-- The address held in a register operand `ra`: 64 bits, or 32 bits zero-extended under a 0x67 prefix
(20_memory.md R67). -/
def addrReg (s : State) (a32 : Bool) (i : RegId) : Word := truncAsize a32 (s.getGpr i)

end Sys2Proof.Machine
end

