-- ==== Sys2Proof/Machine/Arith.lean ====
section
/-! DEFINITION. Integer arithmetic and logic: ADD, OR, ADC, SBB, AND, SUB, XOR, INC, DEC, NEG, NOT, ADCX, ADOX and the
REX2 CMP and TEST (40_alu.md, 45_jmpabs_rex2.md R377 to R379, R385, R386). -/
namespace Sys2Proof.Machine

/-- The two-operand operations of 40_alu.md R180. -/
inductive AluOp | add | or | adc | sbb | and | sub | xor
  deriving DecidableEq, Repr

/-- The result function of each operation, with the carry flag before it (40_alu.md R183 to R195). -/
def AluOp.result {N : Nat} (op : AluOp) (cf : Bool) (a b : BitVec N) : BitVec N :=
  match op with
  | .add => addWith a b false
  | .or => a ||| b
  | .adc => addWith a b cf
  | .sbb => subWith a b cf
  | .and => a &&& b
  | .sub => subWith a b false
  | .xor => a ^^^ b

/-- The flags each operation writes, with the carry flag before it and the undefined AF of the logical ones
(40_alu.md R181). -/
def AluOp.flags {N : Nat} (op : AluOp) (cf af : Bool) (a b : BitVec N) : Flags :=
  match op with
  | .add => addFlags a b false
  | .or => logicFlags af (a ||| b)
  | .adc => addFlags a b cf
  | .sbb => subFlags a b cf
  | .and => logicFlags af (a &&& b)
  | .sub => subFlags a b false
  | .xor => logicFlags af (a ^^^ b)

/-- The execution template of 40_alu.md R182 for two sources: read, compute, write the destination, then the flags. -/
def binary (N : Nat) (op : AluOp) (dst : Dst) (src1 src2 : Src) (nf : Bool) (s : State) : Except Exc State := do
  gate s true
  let a ← readSrc s N src1
  let b ← readSrc s N src2
  let t ← writeDst s N dst (op.result s.flags.cf a b)
  pure (t.setFlagsUnless nf (op.flags s.flags.cf (s.anyFlag 0) a b))

/-- The one-operand operations. -/
inductive UnOp | inc | dec | neg | not
  deriving DecidableEq, Repr

/-- The result of a one-operand operation (40_alu.md R188 to R191). -/
def UnOp.result {N : Nat} (op : UnOp) (a : BitVec N) : BitVec N :=
  match op with
  | .inc => addWith a (BitVec.ofNat N 1) false
  | .dec => subWith a (BitVec.ofNat N 1) false
  | .neg => subWith (BitVec.ofNat N 0) a false
  | .not => ~~~a

/-- The flags of a one-operand operation: INC and DEC keep CF, NOT writes none (40_alu.md R188 to R191). -/
def UnOp.flags {N : Nat} (op : UnOp) (old : Flags) (a : BitVec N) : Flags :=
  match op with
  | .inc => { addFlags a (BitVec.ofNat N 1) false with cf := old.cf }
  | .dec => { subFlags a (BitVec.ofNat N 1) false with cf := old.cf }
  | .neg => subFlags (BitVec.ofNat N 0) a false
  | .not => old

/-- The execution template of 40_alu.md R182 for one source. -/
def unary (N : Nat) (op : UnOp) (dst : Dst) (src : Src) (nf : Bool) (s : State) : Except Exc State := do
  gate s true
  let a ← readSrc s N src
  let t ← writeDst s N dst (op.result a)
  pure (t.setFlagsUnless nf (op.flags s.flags a))

/-- The carry out of an N-bit sum with carry in. -/
def carryOut {N : Nat} (a b : BitVec N) (c : Bool) : Bool := decide (2 ^ N ≤ a.toNat + b.toNat + c.toNat)

/-- ADCX: the carry flag is carry in and carry out, the other flags stay (40_alu.md R184). -/
def addCarry (N : Nat) (dst : Dst) (src1 src2 : Src) (s : State) : Except Exc State := do
  gate s s.params.features.adx
  let a ← readSrc s N src1
  let b ← readSrc s N src2
  let t ← writeDst s N dst (addWith a b s.flags.cf)
  pure (t.setFlags { s.flags with cf := carryOut a b s.flags.cf })

/-- ADOX: the overflow flag is carry in and carry out, the other flags stay (40_alu.md R186). -/
def addOverflow (N : Nat) (dst : Dst) (src1 src2 : Src) (s : State) : Except Exc State := do
  gate s s.params.features.adx
  let a ← readSrc s N src1
  let b ← readSrc s N src2
  let t ← writeDst s N dst (addWith a b s.flags.of)
  pure (t.setFlags { s.flags with of := carryOut a b s.flags.of })

/-- CMP: the flags of the subtraction, nothing else (45_jmpabs_rex2.md R378). -/
def compare (N : Nat) (src1 src2 : Src) (s : State) : Except Exc State := do
  gate s true
  let a ← readSrc s N src1
  let b ← readSrc s N src2
  pure (s.setFlags (subFlags a b false))

/-- TEST: the flags of the conjunction, nothing else (45_jmpabs_rex2.md R379). -/
def testBits (N : Nat) (src1 src2 : Src) (s : State) : Except Exc State := do
  gate s true
  let a ← readSrc s N src1
  let b ← readSrc s N src2
  pure (s.setFlags (logicFlags (s.anyFlag 0) (a &&& b)))

/-! ### The meanings, one per row of the opcode table -/

/-- ADC `r8/m8, r8 ; ND=1: r8, r8/m8, r8`, `rv/mv, rv ; ND=1: rv, rv/mv, rv` (40_alu.md R183). -/
def execAdcRmR (sz : OpSize) (rm : RM) (reg : RegId) (ndd : Option RegId) (s : State) : Result :=
  finish (binary sz.bits .adc (dstRM rm ndd) (.rm rm) (.reg reg) false s)

/-- ADC `r8, r8/m8 ; ND=1: r8, r8, r8/m8`, `rv, rv/mv ; ND=1: rv, rv, rv/mv` (40_alu.md R183). -/
def execAdcRRm (sz : OpSize) (reg : RegId) (rm : RM) (ndd : Option RegId) (s : State) : Result :=
  finish (binary sz.bits .adc (dstReg reg ndd) (.reg reg) (.rm rm) false s)

/-- ADC `r8/m8, imm8 ; ND=1: r8, r8/m8, imm8`, `rv/mv, imm16/imm32 ; ND=1: rv, rv/mv, imm16/imm32` (40_alu.md R183). -/
def execAdcRmImm (rm : RM) (imm : Imm) (ndd : Option RegId) (s : State) : Result :=
  finish (binary imm.bits .adc (dstRM rm ndd) (.rm rm) (.imm imm.value) false s)

/-- ADC `rv/mv, imm8 ; ND=1: rv, rv/mv, imm8` (40_alu.md R183). -/
def execAdcRmI8 (sz : OSize) (rm : RM) (imm : BitVec 8) (ndd : Option RegId) (s : State) : Result :=
  finish (binary sz.bits .adc (dstRM rm ndd) (.rm rm) (.imm (imm.signExtend 64)) false s)

/-- ADCX `ry, ry/my ; ND=1: ry, ry, ry/my` (40_alu.md R184). -/
def execAdcx (sz : YSize) (reg : RegId) (rm : RM) (ndd : Option RegId) (s : State) : Result :=
  finish (addCarry sz.bits (dstReg reg ndd) (.reg reg) (.rm rm) s)

/-- ADD `r8/m8, r8 ; ND=1: r8, r8/m8, r8`, `rv/mv, rv ; ND=1: rv, rv/mv, rv` (40_alu.md R185). -/
def execAddRmR (sz : OpSize) (rm : RM) (reg : RegId) (ndd : Option RegId) (nf : Bool) (s : State) : Result :=
  finish (binary sz.bits .add (dstRM rm ndd) (.rm rm) (.reg reg) nf s)

/-- ADD `r8, r8/m8 ; ND=1: r8, r8, r8/m8`, `rv, rv/mv ; ND=1: rv, rv, rv/mv` (40_alu.md R185). -/
def execAddRRm (sz : OpSize) (reg : RegId) (rm : RM) (ndd : Option RegId) (nf : Bool) (s : State) : Result :=
  finish (binary sz.bits .add (dstReg reg ndd) (.reg reg) (.rm rm) nf s)

/-- ADD `r8/m8, imm8 ; ND=1: r8, r8/m8, imm8`, `rv/mv, imm16/imm32 ; ND=1: rv, rv/mv, imm16/imm32` (40_alu.md R185). -/
def execAddRmImm (rm : RM) (imm : Imm) (ndd : Option RegId) (nf : Bool) (s : State) : Result :=
  finish (binary imm.bits .add (dstRM rm ndd) (.rm rm) (.imm imm.value) nf s)

/-- ADD `rv/mv, imm8 ; ND=1: rv, rv/mv, imm8` (40_alu.md R185). -/
def execAddRmI8 (sz : OSize) (rm : RM) (imm : BitVec 8) (ndd : Option RegId) (nf : Bool) (s : State) : Result :=
  finish (binary sz.bits .add (dstRM rm ndd) (.rm rm) (.imm (imm.signExtend 64)) nf s)

/-- ADOX `ry, ry/my ; ND=1: ry, ry, ry/my` (40_alu.md R186). -/
def execAdox (sz : YSize) (reg : RegId) (rm : RM) (ndd : Option RegId) (s : State) : Result :=
  finish (addOverflow sz.bits (dstReg reg ndd) (.reg reg) (.rm rm) s)

/-- AND `r8/m8, r8 ; ND=1: r8, r8/m8, r8`, `rv/mv, rv ; ND=1: rv, rv/mv, rv` (40_alu.md R187). -/
def execAndRmR (sz : OpSize) (rm : RM) (reg : RegId) (ndd : Option RegId) (nf : Bool) (s : State) : Result :=
  finish (binary sz.bits .and (dstRM rm ndd) (.rm rm) (.reg reg) nf s)

/-- AND `r8, r8/m8 ; ND=1: r8, r8, r8/m8`, `rv, rv/mv ; ND=1: rv, rv, rv/mv` (40_alu.md R187). -/
def execAndRRm (sz : OpSize) (reg : RegId) (rm : RM) (ndd : Option RegId) (nf : Bool) (s : State) : Result :=
  finish (binary sz.bits .and (dstReg reg ndd) (.reg reg) (.rm rm) nf s)

/-- AND `r8/m8, imm8 ; ND=1: r8, r8/m8, imm8`, `rv/mv, imm16/imm32 ; ND=1: rv, rv/mv, imm16/imm32` (40_alu.md R187). -/
def execAndRmImm (rm : RM) (imm : Imm) (ndd : Option RegId) (nf : Bool) (s : State) : Result :=
  finish (binary imm.bits .and (dstRM rm ndd) (.rm rm) (.imm imm.value) nf s)

/-- AND `rv/mv, imm8 ; ND=1: rv, rv/mv, imm8` (40_alu.md R187). -/
def execAndRmI8 (sz : OSize) (rm : RM) (imm : BitVec 8) (ndd : Option RegId) (nf : Bool) (s : State) : Result :=
  finish (binary sz.bits .and (dstRM rm ndd) (.rm rm) (.imm (imm.signExtend 64)) nf s)

/-- DEC `r8/m8 ; ND=1: r8, r8/m8`, `rv/mv ; ND=1: rv, rv/mv` (40_alu.md R188). -/
def execDecRm (sz : OpSize) (rm : RM) (ndd : Option RegId) (nf : Bool) (s : State) : Result :=
  finish (unary sz.bits .dec (dstRM rm ndd) (.rm rm) nf s)

/-- INC `r8/m8 ; ND=1: r8, r8/m8`, `rv/mv ; ND=1: rv, rv/mv` (40_alu.md R189). -/
def execIncRm (sz : OpSize) (rm : RM) (ndd : Option RegId) (nf : Bool) (s : State) : Result :=
  finish (unary sz.bits .inc (dstRM rm ndd) (.rm rm) nf s)

/-- NEG `r8/m8 ; ND=1: r8, r8/m8`, `rv/mv ; ND=1: rv, rv/mv` (40_alu.md R190). -/
def execNegRm (sz : OpSize) (rm : RM) (ndd : Option RegId) (nf : Bool) (s : State) : Result :=
  finish (unary sz.bits .neg (dstRM rm ndd) (.rm rm) nf s)

/-- NOT `r8/m8 ; ND=1: r8, r8/m8`, `rv/mv ; ND=1: rv, rv/mv` (40_alu.md R191). -/
def execNotRm (sz : OpSize) (rm : RM) (ndd : Option RegId) (s : State) : Result :=
  finish (unary sz.bits .not (dstRM rm ndd) (.rm rm) false s)

/-- OR `r8, r8/m8 ; ND=1: r8, r8, r8/m8`, `rv, rv/mv ; ND=1: rv, rv, rv/mv` (40_alu.md R192). -/
def execOrRRm (sz : OpSize) (reg : RegId) (rm : RM) (ndd : Option RegId) (nf : Bool) (s : State) : Result :=
  finish (binary sz.bits .or (dstReg reg ndd) (.reg reg) (.rm rm) nf s)

/-- OR `r8/m8, r8 ; ND=1: r8, r8/m8, r8`, `rv/mv, rv ; ND=1: rv, rv/mv, rv` (40_alu.md R192). -/
def execOrRmR (sz : OpSize) (rm : RM) (reg : RegId) (ndd : Option RegId) (nf : Bool) (s : State) : Result :=
  finish (binary sz.bits .or (dstRM rm ndd) (.rm rm) (.reg reg) nf s)

/-- OR `r8/m8, imm8 ; ND=1: r8, r8/m8, imm8`, `rv/mv, imm16/imm32 ; ND=1: rv, rv/mv, imm16/imm32` (40_alu.md R192). -/
def execOrRmImm (rm : RM) (imm : Imm) (ndd : Option RegId) (nf : Bool) (s : State) : Result :=
  finish (binary imm.bits .or (dstRM rm ndd) (.rm rm) (.imm imm.value) nf s)

/-- OR `rv/mv, imm8 ; ND=1: rv, rv/mv, imm8` (40_alu.md R192). -/
def execOrRmI8 (sz : OSize) (rm : RM) (imm : BitVec 8) (ndd : Option RegId) (nf : Bool) (s : State) : Result :=
  finish (binary sz.bits .or (dstRM rm ndd) (.rm rm) (.imm (imm.signExtend 64)) nf s)

/-- SBB `r8/m8, r8 ; ND=1: r8, r8/m8, r8`, `rv/mv, rv ; ND=1: rv, rv/mv, rv` (40_alu.md R193). -/
def execSbbRmR (sz : OpSize) (rm : RM) (reg : RegId) (ndd : Option RegId) (s : State) : Result :=
  finish (binary sz.bits .sbb (dstRM rm ndd) (.rm rm) (.reg reg) false s)

/-- SBB `r8, r8/m8 ; ND=1: r8, r8, r8/m8`, `rv, rv/mv ; ND=1: rv, rv, rv/mv` (40_alu.md R193). -/
def execSbbRRm (sz : OpSize) (reg : RegId) (rm : RM) (ndd : Option RegId) (s : State) : Result :=
  finish (binary sz.bits .sbb (dstReg reg ndd) (.reg reg) (.rm rm) false s)

/-- SBB `r8/m8, imm8 ; ND=1: r8, r8/m8, imm8`, `rv/mv, imm16/imm32 ; ND=1: rv, rv/mv, imm16/imm32` (40_alu.md R193). -/
def execSbbRmImm (rm : RM) (imm : Imm) (ndd : Option RegId) (s : State) : Result :=
  finish (binary imm.bits .sbb (dstRM rm ndd) (.rm rm) (.imm imm.value) false s)

/-- SBB `rv/mv, imm8 ; ND=1: rv, rv/mv, imm8` (40_alu.md R193). -/
def execSbbRmI8 (sz : OSize) (rm : RM) (imm : BitVec 8) (ndd : Option RegId) (s : State) : Result :=
  finish (binary sz.bits .sbb (dstRM rm ndd) (.rm rm) (.imm (imm.signExtend 64)) false s)

/-- SUB `r8/m8, r8 ; ND=1: r8, r8/m8, r8`, `rv/mv, rv ; ND=1: rv, rv/mv, rv` (40_alu.md R194). -/
def execSubRmR (sz : OpSize) (rm : RM) (reg : RegId) (ndd : Option RegId) (nf : Bool) (s : State) : Result :=
  finish (binary sz.bits .sub (dstRM rm ndd) (.rm rm) (.reg reg) nf s)

/-- SUB `r8, r8/m8 ; ND=1: r8, r8, r8/m8`, `rv, rv/mv ; ND=1: rv, rv, rv/mv` (40_alu.md R194). -/
def execSubRRm (sz : OpSize) (reg : RegId) (rm : RM) (ndd : Option RegId) (nf : Bool) (s : State) : Result :=
  finish (binary sz.bits .sub (dstReg reg ndd) (.reg reg) (.rm rm) nf s)

/-- SUB `r8/m8, imm8 ; ND=1: r8, r8/m8, imm8`, `rv/mv, imm16/imm32 ; ND=1: rv, rv/mv, imm16/imm32` (40_alu.md R194). -/
def execSubRmImm (rm : RM) (imm : Imm) (ndd : Option RegId) (nf : Bool) (s : State) : Result :=
  finish (binary imm.bits .sub (dstRM rm ndd) (.rm rm) (.imm imm.value) nf s)

/-- SUB `rv/mv, imm8 ; ND=1: rv, rv/mv, imm8` (40_alu.md R194). -/
def execSubRmI8 (sz : OSize) (rm : RM) (imm : BitVec 8) (ndd : Option RegId) (nf : Bool) (s : State) : Result :=
  finish (binary sz.bits .sub (dstRM rm ndd) (.rm rm) (.imm (imm.signExtend 64)) nf s)

/-- XOR `r8/m8, r8 ; ND=1: r8, r8/m8, r8`, `rv/mv, rv ; ND=1: rv, rv/mv, rv` (40_alu.md R195). -/
def execXorRmR (sz : OpSize) (rm : RM) (reg : RegId) (ndd : Option RegId) (nf : Bool) (s : State) : Result :=
  finish (binary sz.bits .xor (dstRM rm ndd) (.rm rm) (.reg reg) nf s)

/-- XOR `r8, r8/m8 ; ND=1: r8, r8, r8/m8`, `rv, rv/mv ; ND=1: rv, rv, rv/mv` (40_alu.md R195). -/
def execXorRRm (sz : OpSize) (reg : RegId) (rm : RM) (ndd : Option RegId) (nf : Bool) (s : State) : Result :=
  finish (binary sz.bits .xor (dstReg reg ndd) (.reg reg) (.rm rm) nf s)

/-- XOR `r8/m8, imm8 ; ND=1: r8, r8/m8, imm8`, `rv/mv, imm16/imm32 ; ND=1: rv, rv/mv, imm16/imm32` (40_alu.md R195). -/
def execXorRmImm (rm : RM) (imm : Imm) (ndd : Option RegId) (nf : Bool) (s : State) : Result :=
  finish (binary imm.bits .xor (dstRM rm ndd) (.rm rm) (.imm imm.value) nf s)

/-- XOR `rv/mv, imm8 ; ND=1: rv, rv/mv, imm8` (40_alu.md R195). -/
def execXorRmI8 (sz : OSize) (rm : RM) (imm : BitVec 8) (ndd : Option RegId) (nf : Bool) (s : State) : Result :=
  finish (binary sz.bits .xor (dstRM rm ndd) (.rm rm) (.imm (imm.signExtend 64)) nf s)

/-- REX2 ADD `r/m8, r8`, `r/m, r` (45_jmpabs_rex2.md R377). -/
def execRex2AddRmR (sz : OpSize) (rm : RM) (reg : RegId) (s : State) : Result :=
  finish (binary sz.bits .add (dstRM rm none) (.rm rm) (.reg reg) false s)

/-- REX2 ADD `r8, r/m8`, `r, r/m` (45_jmpabs_rex2.md R377). -/
def execRex2AddRRm (sz : OpSize) (reg : RegId) (rm : RM) (s : State) : Result :=
  finish (binary sz.bits .add (dstReg reg none) (.reg reg) (.rm rm) false s)

/-- REX2 ADD `r/m8, imm8`, `r/m, imm16/imm32` (45_jmpabs_rex2.md R377). -/
def execRex2AddRmImm (rm : RM) (imm : Imm) (s : State) : Result :=
  finish (binary imm.bits .add (dstRM rm none) (.rm rm) (.imm imm.value) false s)

/-- REX2 ADD `r/m, imm8` (45_jmpabs_rex2.md R377). -/
def execRex2AddRmI8 (sz : OSize) (rm : RM) (imm : BitVec 8) (s : State) : Result :=
  finish (binary sz.bits .add (dstRM rm none) (.rm rm) (.imm (imm.signExtend 64)) false s)

/-- REX2 OR `r/m8, r8`, `r/m, r` (45_jmpabs_rex2.md R377). -/
def execRex2OrRmR (sz : OpSize) (rm : RM) (reg : RegId) (s : State) : Result :=
  finish (binary sz.bits .or (dstRM rm none) (.rm rm) (.reg reg) false s)

/-- REX2 OR `r8, r/m8`, `r, r/m` (45_jmpabs_rex2.md R377). -/
def execRex2OrRRm (sz : OpSize) (reg : RegId) (rm : RM) (s : State) : Result :=
  finish (binary sz.bits .or (dstReg reg none) (.reg reg) (.rm rm) false s)

/-- REX2 OR `r/m8, imm8`, `r/m, imm16/imm32` (45_jmpabs_rex2.md R377). -/
def execRex2OrRmImm (rm : RM) (imm : Imm) (s : State) : Result :=
  finish (binary imm.bits .or (dstRM rm none) (.rm rm) (.imm imm.value) false s)

/-- REX2 OR `r/m, imm8` (45_jmpabs_rex2.md R377). -/
def execRex2OrRmI8 (sz : OSize) (rm : RM) (imm : BitVec 8) (s : State) : Result :=
  finish (binary sz.bits .or (dstRM rm none) (.rm rm) (.imm (imm.signExtend 64)) false s)

/-- REX2 ADC `r/m8, r8`, `r/m, r` (45_jmpabs_rex2.md R377). -/
def execRex2AdcRmR (sz : OpSize) (rm : RM) (reg : RegId) (s : State) : Result :=
  finish (binary sz.bits .adc (dstRM rm none) (.rm rm) (.reg reg) false s)

/-- REX2 ADC `r8, r/m8`, `r, r/m` (45_jmpabs_rex2.md R377). -/
def execRex2AdcRRm (sz : OpSize) (reg : RegId) (rm : RM) (s : State) : Result :=
  finish (binary sz.bits .adc (dstReg reg none) (.reg reg) (.rm rm) false s)

/-- REX2 ADC `r/m8, imm8`, `r/m, imm16/imm32` (45_jmpabs_rex2.md R377). -/
def execRex2AdcRmImm (rm : RM) (imm : Imm) (s : State) : Result :=
  finish (binary imm.bits .adc (dstRM rm none) (.rm rm) (.imm imm.value) false s)

/-- REX2 ADC `r/m, imm8` (45_jmpabs_rex2.md R377). -/
def execRex2AdcRmI8 (sz : OSize) (rm : RM) (imm : BitVec 8) (s : State) : Result :=
  finish (binary sz.bits .adc (dstRM rm none) (.rm rm) (.imm (imm.signExtend 64)) false s)

/-- REX2 SBB `r/m8, r8`, `r/m, r` (45_jmpabs_rex2.md R377). -/
def execRex2SbbRmR (sz : OpSize) (rm : RM) (reg : RegId) (s : State) : Result :=
  finish (binary sz.bits .sbb (dstRM rm none) (.rm rm) (.reg reg) false s)

/-- REX2 SBB `r8, r/m8`, `r, r/m` (45_jmpabs_rex2.md R377). -/
def execRex2SbbRRm (sz : OpSize) (reg : RegId) (rm : RM) (s : State) : Result :=
  finish (binary sz.bits .sbb (dstReg reg none) (.reg reg) (.rm rm) false s)

/-- REX2 SBB `r/m8, imm8`, `r/m, imm16/imm32` (45_jmpabs_rex2.md R377). -/
def execRex2SbbRmImm (rm : RM) (imm : Imm) (s : State) : Result :=
  finish (binary imm.bits .sbb (dstRM rm none) (.rm rm) (.imm imm.value) false s)

/-- REX2 SBB `r/m, imm8` (45_jmpabs_rex2.md R377). -/
def execRex2SbbRmI8 (sz : OSize) (rm : RM) (imm : BitVec 8) (s : State) : Result :=
  finish (binary sz.bits .sbb (dstRM rm none) (.rm rm) (.imm (imm.signExtend 64)) false s)

/-- REX2 AND `r/m8, r8`, `r/m, r` (45_jmpabs_rex2.md R377). -/
def execRex2AndRmR (sz : OpSize) (rm : RM) (reg : RegId) (s : State) : Result :=
  finish (binary sz.bits .and (dstRM rm none) (.rm rm) (.reg reg) false s)

/-- REX2 AND `r8, r/m8`, `r, r/m` (45_jmpabs_rex2.md R377). -/
def execRex2AndRRm (sz : OpSize) (reg : RegId) (rm : RM) (s : State) : Result :=
  finish (binary sz.bits .and (dstReg reg none) (.reg reg) (.rm rm) false s)

/-- REX2 AND `r/m8, imm8`, `r/m, imm16/imm32` (45_jmpabs_rex2.md R377). -/
def execRex2AndRmImm (rm : RM) (imm : Imm) (s : State) : Result :=
  finish (binary imm.bits .and (dstRM rm none) (.rm rm) (.imm imm.value) false s)

/-- REX2 AND `r/m, imm8` (45_jmpabs_rex2.md R377). -/
def execRex2AndRmI8 (sz : OSize) (rm : RM) (imm : BitVec 8) (s : State) : Result :=
  finish (binary sz.bits .and (dstRM rm none) (.rm rm) (.imm (imm.signExtend 64)) false s)

/-- REX2 SUB `r/m8, r8`, `r/m, r` (45_jmpabs_rex2.md R377). -/
def execRex2SubRmR (sz : OpSize) (rm : RM) (reg : RegId) (s : State) : Result :=
  finish (binary sz.bits .sub (dstRM rm none) (.rm rm) (.reg reg) false s)

/-- REX2 SUB `r8, r/m8`, `r, r/m` (45_jmpabs_rex2.md R377). -/
def execRex2SubRRm (sz : OpSize) (reg : RegId) (rm : RM) (s : State) : Result :=
  finish (binary sz.bits .sub (dstReg reg none) (.reg reg) (.rm rm) false s)

/-- REX2 SUB `r/m8, imm8`, `r/m, imm16/imm32` (45_jmpabs_rex2.md R377). -/
def execRex2SubRmImm (rm : RM) (imm : Imm) (s : State) : Result :=
  finish (binary imm.bits .sub (dstRM rm none) (.rm rm) (.imm imm.value) false s)

/-- REX2 SUB `r/m, imm8` (45_jmpabs_rex2.md R377). -/
def execRex2SubRmI8 (sz : OSize) (rm : RM) (imm : BitVec 8) (s : State) : Result :=
  finish (binary sz.bits .sub (dstRM rm none) (.rm rm) (.imm (imm.signExtend 64)) false s)

/-- REX2 XOR `r/m8, r8`, `r/m, r` (45_jmpabs_rex2.md R377). -/
def execRex2XorRmR (sz : OpSize) (rm : RM) (reg : RegId) (s : State) : Result :=
  finish (binary sz.bits .xor (dstRM rm none) (.rm rm) (.reg reg) false s)

/-- REX2 XOR `r8, r/m8`, `r, r/m` (45_jmpabs_rex2.md R377). -/
def execRex2XorRRm (sz : OpSize) (reg : RegId) (rm : RM) (s : State) : Result :=
  finish (binary sz.bits .xor (dstReg reg none) (.reg reg) (.rm rm) false s)

/-- REX2 XOR `r/m8, imm8`, `r/m, imm16/imm32` (45_jmpabs_rex2.md R377). -/
def execRex2XorRmImm (rm : RM) (imm : Imm) (s : State) : Result :=
  finish (binary imm.bits .xor (dstRM rm none) (.rm rm) (.imm imm.value) false s)

/-- REX2 XOR `r/m, imm8` (45_jmpabs_rex2.md R377). -/
def execRex2XorRmI8 (sz : OSize) (rm : RM) (imm : BitVec 8) (s : State) : Result :=
  finish (binary sz.bits .xor (dstRM rm none) (.rm rm) (.imm (imm.signExtend 64)) false s)

/-- REX2 CMP `r/m8, r8`, `r/m, r` (45_jmpabs_rex2.md R378). -/
def execRex2CmpRmR (sz : OpSize) (rm : RM) (reg : RegId) (s : State) : Result :=
  finish (compare sz.bits (.rm rm) (.reg reg) s)

/-- REX2 CMP `r8, r/m8`, `r, r/m` (45_jmpabs_rex2.md R378). -/
def execRex2CmpRRm (sz : OpSize) (reg : RegId) (rm : RM) (s : State) : Result :=
  finish (compare sz.bits (.reg reg) (.rm rm) s)

/-- REX2 CMP `r/m8, imm8`, `r/m, imm16/imm32` (45_jmpabs_rex2.md R378). -/
def execRex2CmpRmImm (rm : RM) (imm : Imm) (s : State) : Result :=
  finish (compare imm.bits (.rm rm) (.imm imm.value) s)

/-- REX2 CMP `r/m, imm8` (45_jmpabs_rex2.md R378). -/
def execRex2CmpRmI8 (sz : OSize) (rm : RM) (imm : BitVec 8) (s : State) : Result :=
  finish (compare sz.bits (.rm rm) (.imm (imm.signExtend 64)) s)

/-- REX2 TEST `r/m8, r8`, `r/m, r` (45_jmpabs_rex2.md R379). -/
def execRex2TestRmR (sz : OpSize) (rm : RM) (reg : RegId) (s : State) : Result :=
  finish (testBits sz.bits (.rm rm) (.reg reg) s)

/-- REX2 TEST `r/m8, imm8`, `r/m, imm16/imm32` (45_jmpabs_rex2.md R379). -/
def execRex2TestRmImm (_alt : Bool) (rm : RM) (imm : Imm) (s : State) : Result :=
  finish (testBits imm.bits (.rm rm) (.imm imm.value) s)

/-- REX2 NOT `r/m8`, `r/m` (45_jmpabs_rex2.md R385). -/
def execRex2NotRm (sz : OpSize) (rm : RM) (s : State) : Result :=
  finish (unary sz.bits .not (dstRM rm none) (.rm rm) false s)

/-- REX2 NEG `r/m8`, `r/m` (45_jmpabs_rex2.md R385). -/
def execRex2NegRm (sz : OpSize) (rm : RM) (s : State) : Result :=
  finish (unary sz.bits .neg (dstRM rm none) (.rm rm) false s)

/-- REX2 INC `r/m8`, `r/m` (45_jmpabs_rex2.md R386). -/
def execRex2IncRm (sz : OpSize) (rm : RM) (s : State) : Result :=
  finish (unary sz.bits .inc (dstRM rm none) (.rm rm) false s)

/-- REX2 DEC `r/m8`, `r/m` (45_jmpabs_rex2.md R386). -/
def execRex2DecRm (sz : OpSize) (rm : RM) (s : State) : Result :=
  finish (unary sz.bits .dec (dstRM rm none) (.rm rm) false s)

end Sys2Proof.Machine
end

