-- ==== Sys2Proof/Machine/Bits.lean ====
section
/-! DEFINITION. Bit counts, byte order and bit manipulation: LZCNT, TZCNT, POPCNT, CRC32, MOVBE and the BMI group
(42_muldiv_misc.md R252, R256, R257, R261, R262; 43_promoted_vex.md R291 to R309). -/
namespace Sys2Proof.Machine

/-- The number of consecutive 0 bits from bit `i - 1` downward. -/
def leadingZeros {N : Nat} (a : BitVec N) : Nat → Nat
  | 0 => 0
  | i + 1 => if a.getLsbD i then 0 else leadingZeros a i + 1

/-- The number of consecutive 0 bits from bit `i` upward, in `n` bits. -/
def trailingZeros {N : Nat} (a : BitVec N) (i : Nat) : Nat → Nat
  | 0 => 0
  | n + 1 => if a.getLsbD i then 0 else trailingZeros a (i + 1) n + 1

/-- The number of 1 bits below bit `i`. -/
def onesBelow {N : Nat} (a : BitVec N) : Nat → Nat
  | 0 => 0
  | i + 1 => onesBelow a i + (a.getLsbD i).toNat

/-- The bit-counting instructions. -/
inductive CountOp | lzcnt | tzcnt | popcnt
  deriving DecidableEq, Repr

/-- The count (42_muldiv_misc.md R256, R261, R262). -/
def CountOp.count {N : Nat} (op : CountOp) (a : BitVec N) : Nat :=
  match op with
  | .lzcnt => leadingZeros a N
  | .tzcnt => trailingZeros a 0 N
  | .popcnt => onesBelow a N

/-- The flags: LZCNT and TZCNT leave OF, SF, PF and AF undefined, POPCNT clears all but ZF. -/
def CountOp.flags {N : Nat} (op : CountOp) (any : Nat → Bool) (a : BitVec N) : Flags :=
  match op with
  | .lzcnt => { cf := a == 0, pf := any 0, af := any 1, zf := op.count a == 0, sf := any 2, of := any 3 }
  | .tzcnt => { cf := a == 0, pf := any 0, af := any 1, zf := op.count a == 0, sf := any 2, of := any 3 }
  | .popcnt => { Flags.clear with zf := a == 0 }

/-- LZCNT, TZCNT and POPCNT, with the feature that gates the instruction. -/
def countBits (N : Nat) (op : CountOp) (ok : Features → Bool) (reg : RegId) (src : Src) (nf : Bool) (s : State) :
    Except Exc State := do
  gate s (ok s.params.features)
  let a ← readSrc s N src
  pure ((s.writeGpr N reg (BitVec.ofNat N (op.count a)) false).setFlagsUnless nf (op.flags s.anyFlag a))

/-- `n` steps of the bit-reflected CRC-32C division (42_muldiv_misc.md R252). -/
def crcSteps (crc : BitVec 32) : Nat → BitVec 32
  | 0 => crc
  | n + 1 => crcSteps (if crc.getLsbD 0 then (crc >>> 1) ^^^ 0x82F63B78#32 else crc >>> 1) n

/-- CRC-32C over bytes, least significant first. -/
def crcBytes (crc : BitVec 32) : List Byte → BitVec 32
  | [] => crc
  | b :: bs => crcBytes (crcSteps (crc ^^^ b.setWidth 32) 8) bs

/-- CRC32 with a source of N bits: the destination is the zero-extended 32-bit result (42_muldiv_misc.md R252). -/
def crc32 (N : Nat) (reg : RegId) (src : Src) (s : State) : Except Exc State := do
  gate s true
  let a ← readSrc s N src
  pure (s.writeGpr 32 reg (crcBytes (s.readGpr 32 reg) (leBytes (N / 8) a.toNat)) false)

/-- The bytes of a value in reverse order (42_muldiv_misc.md R257). -/
def byteReverse {N : Nat} (a : BitVec N) : BitVec N := BitVec.ofNat N (leValue (leBytes (N / 8) a.toNat).reverse)

/-- MOVBE in either direction (42_muldiv_misc.md R257). -/
def movbe (N : Nat) (dst : Dst) (src : Src) (s : State) : Except Exc State := do
  gate s s.params.features.movbe
  let a ← readSrc s N src
  writeDst s N dst (byteReverse a)

/-- ANDN (43_promoted_vex.md R291). -/
def andn (N : Nat) (reg v : RegId) (src : Src) (nf : Bool) (s : State) : Except Exc State := do
  gate s s.params.features.bmi1
  let b ← readSrc s N src
  let r := ~~~(s.readGpr N v) &&& b
  pure ((s.writeGpr N reg r false).setFlagsUnless nf
    { cf := false, pf := s.anyFlag 0, af := s.anyFlag 1, zf := r == 0, sf := r.msb, of := false })

/-- `src` shifted right by `start` and cut to `len` bits (43_promoted_vex.md R292). -/
def bitField {N : Nat} (src : BitVec N) (start len : Nat) : BitVec N :=
  let r := if start < N then src >>> start else 0
  if len < N then r &&& BitVec.ofNat N (2 ^ len - 1) else r

/-- BEXTR (43_promoted_vex.md R292). -/
def bextr (N : Nat) (reg : RegId) (src : Src) (v : RegId) (nf : Bool) (s : State) : Except Exc State := do
  gate s s.params.features.bmi1
  let a ← readSrc s N src
  let ctl := s.getGpr v
  let r := bitField a (ctl.setWidth 8).toNat ((ctl >>> 8).setWidth 8).toNat
  pure ((s.writeGpr N reg r false).setFlagsUnless nf
    { cf := false, pf := s.anyFlag 0, af := s.anyFlag 1, zf := r == 0, sf := s.anyFlag 2, of := false })

/-- BLSI (43_promoted_vex.md R293). -/
def blsi (N : Nat) (v : RegId) (src : Src) (nf : Bool) (s : State) : Except Exc State := do
  gate s s.params.features.bmi1
  let a ← readSrc s N src
  let r := (0 - a) &&& a
  pure ((s.writeGpr N v r false).setFlagsUnless nf
    { cf := a != 0, pf := s.anyFlag 0, af := s.anyFlag 1, zf := r == 0, sf := r.msb, of := false })

/-- BLSMSK (43_promoted_vex.md R294). -/
def blsmsk (N : Nat) (v : RegId) (src : Src) (nf : Bool) (s : State) : Except Exc State := do
  gate s s.params.features.bmi1
  let a ← readSrc s N src
  let r := (a - BitVec.ofNat N 1) ^^^ a
  pure ((s.writeGpr N v r false).setFlagsUnless nf
    { cf := a == 0, pf := s.anyFlag 0, af := s.anyFlag 1, zf := false, sf := r.msb, of := false })

/-- BLSR (43_promoted_vex.md R295). -/
def blsr (N : Nat) (v : RegId) (src : Src) (nf : Bool) (s : State) : Except Exc State := do
  gate s s.params.features.bmi1
  let a ← readSrc s N src
  let r := (a - BitVec.ofNat N 1) &&& a
  pure ((s.writeGpr N v r false).setFlagsUnless nf
    { cf := a == 0, pf := s.anyFlag 0, af := s.anyFlag 1, zf := r == 0, sf := r.msb, of := false })

/-- BZHI (43_promoted_vex.md R296). -/
def bzhi (N : Nat) (reg : RegId) (src : Src) (v : RegId) (nf : Bool) (s : State) : Except Exc State := do
  gate s s.params.features.bmi2
  let a ← readSrc s N src
  let n := (s.readGpr 8 v).toNat
  let r := if n < N then a &&& BitVec.ofNat N (2 ^ n - 1) else a
  pure ((s.writeGpr N reg r false).setFlagsUnless nf
    { cf := decide (N - 1 < n), pf := s.anyFlag 0, af := s.anyFlag 1, zf := r == 0, sf := r.msb, of := false })

/-- The bits of `src` from bit `k` on, deposited at the 1 bits of `mask` from bit `i` on, in `n` bits
(43_promoted_vex.md R304). -/
def depositBits {N : Nat} (src mask : BitVec N) (i k : Nat) : Nat → Nat
  | 0 => 0
  | n + 1 =>
    if mask.getLsbD i then (src.getLsbD k).toNat + 2 * depositBits src mask (i + 1) (k + 1) n
    else 2 * depositBits src mask (i + 1) k n

/-- The bits of `src` at the 1 bits of `mask` from bit `i` on, packed, in `n` bits (43_promoted_vex.md R305). -/
def extractBits {N : Nat} (src mask : BitVec N) (i : Nat) : Nat → Nat
  | 0 => 0
  | n + 1 =>
    if mask.getLsbD i then (src.getLsbD i).toNat + 2 * extractBits src mask (i + 1) n
    else extractBits src mask (i + 1) n

/-- The BMI2 instructions that write no flag: the second operand is a mask or a count. -/
inductive Bmi2Op | pdep | pext | rorx | sarx | shlx | shrx
  deriving DecidableEq, Repr

/-- Their results (43_promoted_vex.md R304 to R309); counts are taken modulo N. -/
def Bmi2Op.result {N : Nat} (op : Bmi2Op) (a b : BitVec N) : BitVec N :=
  match op with
  | .pdep => BitVec.ofNat N (depositBits a b 0 0 N)
  | .pext => BitVec.ofNat N (extractBits a b 0 N)
  | .rorx => a.rotateRight (b.toNat % N)
  | .sarx => a.sshiftRight (b.toNat % N)
  | .shlx => a <<< (b.toNat % N)
  | .shrx => a >>> (b.toNat % N)

/-- A BMI2 instruction that writes no flag. -/
def bmi2 (N : Nat) (op : Bmi2Op) (reg : RegId) (src1 src2 : Src) (s : State) : Except Exc State := do
  gate s s.params.features.bmi2
  let a ← readSrc s N src1
  let b ← readSrc s N src2
  pure (s.writeGpr N reg (op.result a b) false)

/-! ### The meanings, one per row of the opcode table -/

/-- ANDN `ry, ry, my/ry` (43_promoted_vex.md R291). -/
def execAndn (sz : YSize) (reg : RegId) (v : RegId) (rm : RM) (nf : Bool) (s : State) : Result :=
  finish (andn sz.bits reg v (.rm rm) nf s)

/-- BEXTR `ry, my/ry, ry` (43_promoted_vex.md R292). -/
def execBextr (sz : YSize) (reg : RegId) (rm : RM) (v : RegId) (nf : Bool) (s : State) : Result :=
  finish (bextr sz.bits reg (.rm rm) v nf s)

/-- BLSI `ry, my/ry` (43_promoted_vex.md R293). -/
def execBlsi (sz : YSize) (v : RegId) (rm : RM) (nf : Bool) (s : State) : Result :=
  finish (blsi sz.bits v (.rm rm) nf s)

/-- BLSMSK `ry, my/ry` (43_promoted_vex.md R294). -/
def execBlsmsk (sz : YSize) (v : RegId) (rm : RM) (nf : Bool) (s : State) : Result :=
  finish (blsmsk sz.bits v (.rm rm) nf s)

/-- BLSR `ry, my/ry` (43_promoted_vex.md R295). -/
def execBlsr (sz : YSize) (v : RegId) (rm : RM) (nf : Bool) (s : State) : Result :=
  finish (blsr sz.bits v (.rm rm) nf s)

/-- BZHI `ry, my/ry, ry` (43_promoted_vex.md R296). -/
def execBzhi (sz : YSize) (reg : RegId) (rm : RM) (v : RegId) (nf : Bool) (s : State) : Result :=
  finish (bzhi sz.bits reg (.rm rm) v nf s)

/-- CRC32 `ry, r8/m8` (42_muldiv_misc.md R252). -/
def execCrc32Rm8 (_sz : YSize) (reg : RegId) (rm : RM) (s : State) : Result :=
  finish (crc32 8 reg (.rm rm) s)

/-- CRC32 `ry, rv/mv` (42_muldiv_misc.md R252). -/
def execCrc32Rm (sz : OSize) (reg : RegId) (rm : RM) (s : State) : Result :=
  finish (crc32 sz.bits reg (.rm rm) s)

/-- LZCNT `rv, rv/mv` (42_muldiv_misc.md R256). -/
def execLzcnt (sz : OSize) (reg : RegId) (rm : RM) (nf : Bool) (s : State) : Result :=
  finish (countBits sz.bits .lzcnt Features.lzcnt reg (.rm rm) nf s)

/-- MOVBE `rv, rv/mv` (42_muldiv_misc.md R257). -/
def execMovbeRRm (sz : OSize) (reg : RegId) (rm : RM) (s : State) : Result :=
  finish (movbe sz.bits (dstReg reg none) (.rm rm) s)

/-- MOVBE `rv/mv, rv` (42_muldiv_misc.md R257). -/
def execMovbeRmR (sz : OSize) (rm : RM) (reg : RegId) (s : State) : Result :=
  finish (movbe sz.bits (dstRM rm none) (.reg reg) s)

/-- PDEP `ry, ry, my/ry` (43_promoted_vex.md R304). -/
def execPdep (sz : YSize) (reg : RegId) (v : RegId) (rm : RM) (s : State) : Result :=
  finish (bmi2 sz.bits .pdep reg (.reg v) (.rm rm) s)

/-- PEXT `ry, ry, my/ry` (43_promoted_vex.md R305). -/
def execPext (sz : YSize) (reg : RegId) (v : RegId) (rm : RM) (s : State) : Result :=
  finish (bmi2 sz.bits .pext reg (.reg v) (.rm rm) s)

/-- POPCNT `rv, rv/mv` (42_muldiv_misc.md R261). -/
def execPopcnt (sz : OSize) (reg : RegId) (rm : RM) (nf : Bool) (s : State) : Result :=
  finish (countBits sz.bits .popcnt (fun _ => true) reg (.rm rm) nf s)

/-- RORX `ry, my/ry, imm8` (43_promoted_vex.md R306). -/
def execRorx (sz : YSize) (reg : RegId) (rm : RM) (imm : BitVec 8) (s : State) : Result :=
  finish (bmi2 sz.bits .rorx reg (.rm rm) (.imm (imm.setWidth 64)) s)

/-- SARX `ry, my/ry, ry` (43_promoted_vex.md R307). -/
def execSarx (sz : YSize) (reg : RegId) (rm : RM) (v : RegId) (s : State) : Result :=
  finish (bmi2 sz.bits .sarx reg (.rm rm) (.reg v) s)

/-- SHLX `ry, my/ry, ry` (43_promoted_vex.md R308). -/
def execShlx (sz : YSize) (reg : RegId) (rm : RM) (v : RegId) (s : State) : Result :=
  finish (bmi2 sz.bits .shlx reg (.rm rm) (.reg v) s)

/-- SHRX `ry, my/ry, ry` (43_promoted_vex.md R309). -/
def execShrx (sz : YSize) (reg : RegId) (rm : RM) (v : RegId) (s : State) : Result :=
  finish (bmi2 sz.bits .shrx reg (.rm rm) (.reg v) s)

/-- TZCNT `rv, rv/mv` (42_muldiv_misc.md R262). -/
def execTzcnt (sz : OSize) (reg : RegId) (rm : RM) (nf : Bool) (s : State) : Result :=
  finish (countBits sz.bits .tzcnt Features.bmi1 reg (.rm rm) nf s)

end Sys2Proof.Machine
end

