-- ==== Sys2Proof/Machine/Conditional.lean ====
section
/-! DEFINITION. The conditional instructions: CMOVcc, CFCMOVcc, SETcc, CCMPscc, CTESTscc and CMPccXADD
(42_muldiv_misc.md R251, 43_promoted_vex.md R297, 45_jmpabs_rex2.md R374, R387, 46_conditional.md). -/
namespace Sys2Proof.Machine

/-- The EVEX CMOVcc: the r/m operand is read in both cases, and V is always written with zero-upper
(42_muldiv_misc.md R251). -/
def cmovNdd (cc : Cond) (N : Nat) (v reg : RegId) (rm : RM) (s : State) : Except Exc State := do
  gate s true
  let t ← readSrc s N (.rm rm)
  pure (s.writeGpr N v (if s.flags.cond cc then t else s.readGpr N reg) true)

/-- The REX2 CMOVcc: the r/m operand is read in both cases; a false condition only clears the upper half of a 32-bit
destination (45_jmpabs_rex2.md R374). -/
def cmovLegacy (cc : Cond) (N : Nat) (reg : RegId) (rm : RM) (s : State) : Except Exc State := do
  gate s true
  let t ← readSrc s N (.rm rm)
  if s.flags.cond cc then pure (s.writeGpr N reg t false)
  else if N = 32 then pure (s.writeGpr 32 reg (s.readGpr 32 reg) false)
  else pure s

/-- CFCMOVcc reg, r/m: a false condition accesses no memory and writes 0 to the whole register
(46_conditional.md R396). -/
def cfcmovLoad (cc : Cond) (N : Nat) (reg : RegId) (rm : RM) (s : State) : Except Exc State := do
  gate s true
  if s.flags.cond cc then
    let t ← readSrc s N (.rm rm)
    pure (s.writeGpr N reg t true)
  else pure (s.writeGpr N reg 0 true)

/-- CFCMOVcc reg1, reg: a false condition writes 0 to the whole destination (46_conditional.md R397). -/
def cfcmovReg (cc : Cond) (N : Nat) (dst reg : RegId) (s : State) : Except Exc State := do
  gate s true
  pure (s.writeGpr N dst (if s.flags.cond cc then s.readGpr N reg else 0) true)

/-- CFCMOVcc mem, reg: a false condition accesses no memory (46_conditional.md R397). -/
def cfcmovStore (cc : Cond) (N : Nat) (m : Mem) (reg : RegId) (s : State) : Except Exc State := do
  gate s true
  if s.flags.cond cc then writeDst s N (.mem m) (s.readGpr N reg) else pure s

/-- CFCMOVcc ndd, reg, r/m: a false condition accesses no memory and moves reg (46_conditional.md R398). -/
def cfcmovNdd (cc : Cond) (N : Nat) (v reg : RegId) (rm : RM) (s : State) : Except Exc State := do
  gate s true
  if s.flags.cond cc then
    let t ← readSrc s N (.rm rm)
    pure (s.writeGpr N v t true)
  else pure (s.writeGpr N v (s.readGpr N reg) true)

/-- SETcc: one byte of 0 or 1, with zero-upper on a register where the form asks for it (46_conditional.md R400,
45_jmpabs_rex2.md R387). -/
def setByte (cc : Cond) (rm : RM) (zu : Bool) (s : State) : Except Exc State := do
  gate s true
  let v : BitVec 8 := (BitVec.ofBool (s.flags.cond cc)).setWidth 8
  match rm with
  | .reg i => pure (s.writeGpr 8 i v zu)
  | .mem m => writeDst s 8 (.mem m) v

/-- CCMPscc: the operands are read in both cases; the flags are those of the comparison or the default flags value
(46_conditional.md R393). -/
def condCompare (scc : Scc) (dfv : Dfv) (N : Nat) (src1 src2 : Src) (s : State) : Except Exc State := do
  gate s true
  let a ← readSrc s N src1
  let b ← readSrc s N src2
  pure (s.setFlags (if s.flags.scc scc then subFlags a b false else dfvFlags dfv))

/-- CTESTscc (46_conditional.md R394). -/
def condTest (scc : Scc) (dfv : Dfv) (N : Nat) (src1 src2 : Src) (s : State) : Except Exc State := do
  gate s true
  let a ← readSrc s N src1
  let b ← readSrc s N src2
  pure (s.setFlags (if s.flags.scc scc then logicFlags (s.anyFlag 0) (a &&& b) else dfvFlags dfv))

/-- The access of CMPccXADD: naturally aligned, no #AC (60_exceptions.md R448). -/
def cmpxaddAccess (s : State) (N : Nat) (m : Mem) (kind : AccessKind) : Access :=
  memAccess s m (N / 8) kind false (N / 8)

/-- CMPccXADD: the flags are those of the comparison with the old memory value, the memory is written only when the
condition holds on them, and reg always receives the old value (43_promoted_vex.md R297). -/
def cmpxadd (cc : Cond) (N : Nat) (m : Mem) (reg v : RegId) (s : State) : Except Exc State := do
  gate s s.params.features.cmpccxadd
  let t ← s.load N (cmpxaddAccess s N m .read)
  let f := subFlags t (s.readGpr N reg) false
  let s1 ← if f.cond cc then s.store N (cmpxaddAccess s N m .write) (t + s.readGpr N v) else pure s
  pure ((s1.writeGpr N reg t false).setFlags f)

/-! ### The meanings, one per row of the opcode table -/

/-- CMOVcc `rv, rv, rv/mv` (42_muldiv_misc.md R251). -/
def execCmov (cc : Cond) (sz : OSize) (v : RegId) (reg : RegId) (rm : RM) (s : State) : Result :=
  finish (cmovNdd cc sz.bits v reg rm s)

/-- CMPccXADD `my, ry, ry` (43_promoted_vex.md R297). -/
def execCmpccxadd (cc : Cond) (sz : YSize) (m : Mem) (reg : RegId) (v : RegId) (s : State) : Result :=
  finish (cmpxadd cc sz.bits m reg v s)

/-- CCMPscc `r8/m8, r8, dfv`, `rv/mv, rv, dfv` (46_conditional.md R393). -/
def execCcmpRmR (scc : Scc) (dfv : Dfv) (sz : OpSize) (rm : RM) (reg : RegId) (s : State) : Result :=
  finish (condCompare scc dfv sz.bits (.rm rm) (.reg reg) s)

/-- CCMPscc `r8, r8/m8, dfv`, `rv, rv/mv, dfv` (46_conditional.md R393). -/
def execCcmpRRm (scc : Scc) (dfv : Dfv) (sz : OpSize) (reg : RegId) (rm : RM) (s : State) : Result :=
  finish (condCompare scc dfv sz.bits (.reg reg) (.rm rm) s)

/-- CCMPscc `r8/m8, imm8, dfv`, `rv/mv, imm16/imm32, dfv` (46_conditional.md R393). -/
def execCcmpRmImm (scc : Scc) (dfv : Dfv) (rm : RM) (imm : Imm) (s : State) : Result :=
  finish (condCompare scc dfv imm.bits (.rm rm) (.imm imm.value) s)

/-- CCMPscc `rv/mv, imm8, dfv` (46_conditional.md R393). -/
def execCcmpRmI8 (scc : Scc) (dfv : Dfv) (sz : OSize) (rm : RM) (imm : BitVec 8) (s : State) : Result :=
  finish (condCompare scc dfv sz.bits (.rm rm) (.imm (imm.signExtend 64)) s)

/-- CFCMOVcc `rv, rv/mv` (46_conditional.md R396). -/
def execCfcmovLoad (cc : Cond) (sz : OSize) (reg : RegId) (rm : RM) (s : State) : Result :=
  finish (cfcmovLoad cc sz.bits reg rm s)

/-- CFCMOVcc `rv, rv` (46_conditional.md R397). -/
def execCfcmovReg (cc : Cond) (sz : OSize) (b : RegId) (reg : RegId) (s : State) : Result :=
  finish (cfcmovReg cc sz.bits b reg s)

/-- CFCMOVcc `mv, rv` (46_conditional.md R397). -/
def execCfcmovStore (cc : Cond) (sz : OSize) (m : Mem) (reg : RegId) (s : State) : Result :=
  finish (cfcmovStore cc sz.bits m reg s)

/-- CFCMOVcc `rv, rv, rv/mv` (46_conditional.md R398). -/
def execCfcmovNdd (cc : Cond) (sz : OSize) (v : RegId) (reg : RegId) (rm : RM) (s : State) : Result :=
  finish (cfcmovNdd cc sz.bits v reg rm s)

/-- CTESTscc `r8/m8, r8, dfv`, `rv/mv, rv, dfv` (46_conditional.md R394). -/
def execCtestRmR (scc : Scc) (dfv : Dfv) (sz : OpSize) (rm : RM) (reg : RegId) (s : State) : Result :=
  finish (condTest scc dfv sz.bits (.rm rm) (.reg reg) s)

/-- CTESTscc `r8/m8, imm8, dfv`, `rv/mv, imm16/imm32, dfv` (46_conditional.md R394). -/
def execCtestRmImm (scc : Scc) (dfv : Dfv) (_alt : Bool) (rm : RM) (imm : Imm) (s : State) : Result :=
  finish (condTest scc dfv imm.bits (.rm rm) (.imm imm.value) s)

/-- SETcc `r8/m8` (46_conditional.md R400). -/
def execSetcc (cc : Cond) (rm : RM) (zu : Bool) (s : State) : Result :=
  finish (setByte cc rm zu s)

/-- REX2 CMOVcc `r, r/m` (45_jmpabs_rex2.md R374). -/
def execRex2Cmov (cc : Cond) (sz : OSize) (reg : RegId) (rm : RM) (s : State) : Result :=
  finish (cmovLegacy cc sz.bits reg rm s)

/-- REX2 SETcc `r/m8` (45_jmpabs_rex2.md R387). -/
def execRex2Setcc (cc : Cond) (rm : RM) (s : State) : Result :=
  finish (setByte cc rm false s)

end Sys2Proof.Machine
end

