-- ==== Sys2Proof/Machine/Crypto.lean ====
section
/-! DEFINITION. Key Locker and SHA over the opaque functions of `Config` (44_promoted_system_crypto.md R330 to R349;
60_exceptions.md R454, R457). -/
namespace Sys2Proof.Machine

/-- The SSE dependency of the Key Locker and SHA classes: CR0.EM = 0 and CR4.OSFXSR = 1 (60_exceptions.md R454, R457). -/
def sseUsable (s : State) : Bool := !s.ctrl.cr0Em && s.ctrl.cr4Osfxsr

/-- The checks of class APX-EVEX-KEYLOCKER: #UD, then #NM (60_exceptions.md R454). -/
def klGate (s : State) (feature : Bool) : Except Exc Unit := do
  gate s (feature && sseUsable s && s.ctrl.cr4Kl)
  require (!s.ctrl.cr0Ts) .nm

/-- The flags of a Key Locker AES instruction: ZF is handle failure, the others 0 (44_promoted_system_crypto.md R331). -/
def klFlags (ok : Bool) : Flags := { Flags.clear with zf := !ok }

/-- A Key Locker AES instruction on one block with a handle of H bits (44_promoted_system_crypto.md R331, R332, R335,
R336). -/
def klBlock (H : Nat) (f : BitVec H → Xmm → Nat → Bool × Xmm) (x : BitVec 4) (m : Mem) (s : State) :
    Except Exc State := do
  klGate s s.params.features.keylocker
  let h ← s.load H (memAccess s m (H / 8) .read false 1)
  let out := f h (s.getXmm x) s.iwkey
  pure ({ s with xmm := if out.1 then s.xmm.set x.toNat out.2 else s.xmm }.setFlags (klFlags out.1))

/-- xmm0..xmm7. -/
def State.lowXmm (s : State) : Vector Xmm 8 := Vector.ofFn fun i => s.xmm[i.val]

/-- xmm0..xmm7 replaced, xmm8..xmm15 kept. -/
def setLowXmm (xs : Vector Xmm 16) (ys : Vector Xmm 8) : Vector Xmm 16 :=
  Vector.ofFn fun i => if h : i.val < 8 then ys[i.val] else xs[i.val]

/-- A Key Locker WIDE instruction on xmm0..xmm7 (44_promoted_system_crypto.md R333, R334, R337, R338). -/
def klWide (H : Nat) (f : BitVec H → Vector Xmm 8 → Nat → Bool × Vector Xmm 8) (m : Mem) (s : State) :
    Except Exc State := do
  klGate s s.params.features.keylockerWide
  let h ← s.load H (memAccess s m (H / 8) .read false 1)
  let out := f h s.lowXmm s.iwkey
  pure ({ s with xmm := if out.1 then setLowXmm s.xmm out.2 else s.xmm }.setFlags (klFlags out.1))

/-- Bits 127:0, 255:128, ... of a value: the i-th XMM-sized part. -/
def xmmPart {W : Nat} (v : BitVec W) (i : Nat) : Xmm := (v >>> (128 * i)).setWidth 128

/-- xmm4, xmm5 and xmm6 after ENCODEKEY: `any` (44_promoted_system_crypto.md R339). -/
def State.clobberXmm456 (s : State) : State :=
  ((s.setXmm 4 (Config.freeXmm s.free 4)).setXmm 5 (Config.freeXmm s.free 5)).setXmm 6 (Config.freeXmm s.free 6)

/-- ENCODEKEY128 (44_promoted_system_crypto.md R339). -/
def encodeKey128 (dst src : RegId) (s : State) : Except Exc State := do
  klGate s s.params.features.keylocker
  let out := Config.klEncodeKey128 (s.readGpr 32 src) (s.getXmm 0) s.iwkey
  let t := ((s.setXmm 0 (xmmPart out.1 0)).setXmm 1 (xmmPart out.1 1)).setXmm 2 (xmmPart out.1 2)
  pure ((t.clobberXmm456.writeGpr 32 dst out.2 false).setFlags Flags.clear)

/-- ENCODEKEY256 (44_promoted_system_crypto.md R340). -/
def encodeKey256 (dst src : RegId) (s : State) : Except Exc State := do
  klGate s s.params.features.keylocker
  let out := Config.klEncodeKey256 (s.readGpr 32 src) (s.getXmm 1 ++ s.getXmm 0) s.iwkey
  let t := ((s.setXmm 0 (xmmPart out.1 0)).setXmm 1 (xmmPart out.1 1)).setXmm 2 (xmmPart out.1 2)
  pure (((t.setXmm 3 (xmmPart out.1 3)).clobberXmm456.writeGpr 32 dst out.2 false).setFlags Flags.clear)

/-- The checks of class APX-EVEX-SHA: #UD, then #NM (60_exceptions.md R457). -/
def shaGate (s : State) : Except Exc Unit := do
  gate s (s.params.features.sha && sseUsable s)
  require (!s.ctrl.cr0Ts) .nm

/-- The xmm2/m128 operand; memory must be 16-byte aligned (44_promoted_system_crypto.md R341). -/
def readXmmRM (s : State) : XRM → Except Exc Xmm
  | .xmm i => pure (s.getXmm i)
  | .mem m => s.load 128 (memAccess s m 16 .read false 16)

/-- A SHA instruction: the destination from its old value and the source (44_promoted_system_crypto.md R341 to R347). -/
def sha (f : Xmm → Xmm → Xmm) (dst : BitVec 4) (src : XRM) (s : State) : Except Exc State := do
  shaGate s
  let b ← readXmmRM s src
  pure (s.setXmm dst (f (s.getXmm dst) b))

/-! ### The meanings, one per row of the opcode table -/

/-- AESDEC128KL `xmm1, m384` (44_promoted_system_crypto.md R331). -/
def execAesdec128kl (x : BitVec 4) (m : Mem) (s : State) : Result :=
  finish (klBlock 384 Config.klAesDec128 x m s)

/-- AESDEC256KL `xmm1, m512` (44_promoted_system_crypto.md R332). -/
def execAesdec256kl (x : BitVec 4) (m : Mem) (s : State) : Result :=
  finish (klBlock 512 Config.klAesDec256 x m s)

/-- AESDECWIDE128KL `m384` (44_promoted_system_crypto.md R333). -/
def execAesdecwide128kl (m : Mem) (s : State) : Result :=
  finish (klWide 384 Config.klAesDecWide128 m s)

/-- AESDECWIDE256KL `m512` (44_promoted_system_crypto.md R334). -/
def execAesdecwide256kl (m : Mem) (s : State) : Result :=
  finish (klWide 512 Config.klAesDecWide256 m s)

/-- AESENC128KL `xmm1, m384` (44_promoted_system_crypto.md R335). -/
def execAesenc128kl (x : BitVec 4) (m : Mem) (s : State) : Result :=
  finish (klBlock 384 Config.klAesEnc128 x m s)

/-- AESENC256KL `xmm1, m512` (44_promoted_system_crypto.md R336). -/
def execAesenc256kl (x : BitVec 4) (m : Mem) (s : State) : Result :=
  finish (klBlock 512 Config.klAesEnc256 x m s)

/-- AESENCWIDE128KL `m384` (44_promoted_system_crypto.md R337). -/
def execAesencwide128kl (m : Mem) (s : State) : Result :=
  finish (klWide 384 Config.klAesEncWide128 m s)

/-- AESENCWIDE256KL `m512` (44_promoted_system_crypto.md R338). -/
def execAesencwide256kl (m : Mem) (s : State) : Result :=
  finish (klWide 512 Config.klAesEncWide256 m s)

/-- ENCODEKEY128 `r32, r32` (44_promoted_system_crypto.md R339). -/
def execEncodekey128 (reg : RegId) (b : RegId) (s : State) : Result :=
  finish (encodeKey128 reg b s)

/-- ENCODEKEY256 `r32, r32` (44_promoted_system_crypto.md R340). -/
def execEncodekey256 (reg : RegId) (b : RegId) (s : State) : Result :=
  finish (encodeKey256 reg b s)

/-- SHA1MSG1 `xmm1, xmm2/m128` (44_promoted_system_crypto.md R341). -/
def execSha1msg1 (x : BitVec 4) (src : XRM) (s : State) : Result :=
  finish (sha Config.sha1Msg1 x src s)

/-- SHA1MSG2 `xmm1, xmm2/m128` (44_promoted_system_crypto.md R342). -/
def execSha1msg2 (x : BitVec 4) (src : XRM) (s : State) : Result :=
  finish (sha Config.sha1Msg2 x src s)

/-- SHA1NEXTE `xmm1, xmm2/m128` (44_promoted_system_crypto.md R343). -/
def execSha1nexte (x : BitVec 4) (src : XRM) (s : State) : Result :=
  finish (sha Config.sha1NextE x src s)

/-- SHA1RNDS4 `xmm1, xmm2/m128, imm8` (44_promoted_system_crypto.md R344). -/
def execSha1rnds4 (x : BitVec 4) (src : XRM) (imm : BitVec 8) (s : State) : Result :=
  finish (sha (fun a c => Config.sha1Rnds4 a c imm) x src s)

/-- SHA256MSG1 `xmm1, xmm2/m128` (44_promoted_system_crypto.md R345). -/
def execSha256msg1 (x : BitVec 4) (src : XRM) (s : State) : Result :=
  finish (sha Config.sha256Msg1 x src s)

/-- SHA256MSG2 `xmm1, xmm2/m128` (44_promoted_system_crypto.md R346). -/
def execSha256msg2 (x : BitVec 4) (src : XRM) (s : State) : Result :=
  finish (sha Config.sha256Msg2 x src s)

/-- SHA256RNDS2 `xmm1, xmm2/m128` (44_promoted_system_crypto.md R347). -/
def execSha256rnds2 (x : BitVec 4) (src : XRM) (s : State) : Result :=
  finish (sha (fun a c => Config.sha256Rnds2 a c (s.getXmm 0)) x src s)

end Sys2Proof.Machine
end

