-- ==== Sys2Proof/Machine/Mask.lean ====
section
/-! DEFINITION. Opmask moves KMOVB, KMOVW, KMOVD, KMOVQ (43_promoted_vex.md R298 to R301, R314). -/
namespace Sys2Proof.Machine

/-- The CPUID gate of KMOVB (43_promoted_vex.md R298). -/
def kmovbOk (f : Features) : Bool := f.avx512dq || f.avx10_1

/-- The CPUID gate of KMOVW (43_promoted_vex.md R301). -/
def kmovwOk (f : Features) : Bool := f.avx512f || f.avx10_1

/-- The CPUID gate of KMOVD and KMOVQ (43_promoted_vex.md R299, R300). -/
def kmovdqOk (f : Features) : Bool := f.avx512bw || f.avx10_1

/-- Whether a three-bit register id is accepted: its fourth bit is ignored or raises #UD as MASK_ID_HIGH_BIT_UD says
(43_promoted_vex.md R298). -/
def shortIdOk (p : Params) (i : ShortId) : Bool := !(p.maskIdHighBitUd && i.hi)

/-- The checks of class APX-EVEX-KMOV: #UD, then #NM when CR0.TS = 1 (60_exceptions.md R455). -/
def kmovGate (s : State) (ok : Features → Bool) (idsOk : Bool) : Except Exc Unit := do
  gate s (ok s.params.features && idsOk)
  require (!s.ctrl.cr0Ts) .nm

/-- KMOV k1, k2/mem with N bits, zero-extended to the 64-bit mask (43_promoted_vex.md R298). -/
def kmovLoad (N : Nat) (ok : Features → Bool) (dst : ShortId) (src : KRM) (s : State) : Except Exc State :=
  match src with
  | .k i => do
    kmovGate s ok (shortIdOk s.params dst && shortIdOk s.params i)
    pure (s.setK dst.id (((s.getK i.id).setWidth N).setWidth 64))
  | .mem m => do
    kmovGate s ok (shortIdOk s.params dst)
    let v ← readMem s N m
    pure (s.setK dst.id (v.setWidth 64))

/-- KMOV mem, k1 with N bits. -/
def kmovStore (N : Nat) (ok : Features → Bool) (m : Mem) (src : ShortId) (s : State) : Except Exc State := do
  kmovGate s ok (shortIdOk s.params src)
  writeDst s N (.mem m) ((s.getK src.id).setWidth N)

/-- KMOV k1, r with N bits of the GPR. -/
def kmovFromGpr (N : Nat) (ok : Features → Bool) (dst : ShortId) (src : RegId) (s : State) : Except Exc State := do
  kmovGate s ok (shortIdOk s.params dst)
  pure (s.setK dst.id ((s.readGpr N src).setWidth 64))

/-- KMOV r, k1: N bits of the mask, zero-extended to the whole GPR. -/
def kmovToGpr (N : Nat) (ok : Features → Bool) (dst : RegId) (src : ShortId) (s : State) : Except Exc State := do
  kmovGate s ok (shortIdOk s.params src)
  pure (s.writeGpr 64 dst (((s.getK src.id).setWidth N).setWidth 64) false)

/-! ### The meanings, one per row of the opcode table -/

/-- KMOVB `k1, k2/m8` (43_promoted_vex.md R298). -/
def execKmovbKKm (k : ShortId) (src : KRM) (s : State) : Result :=
  finish (kmovLoad 8 kmovbOk k src s)

/-- KMOVB `k1, r32` (43_promoted_vex.md R298). -/
def execKmovbKR (k : ShortId) (b : RegId) (s : State) : Result :=
  finish (kmovFromGpr 8 kmovbOk k b s)

/-- KMOVB `r32, k1` (43_promoted_vex.md R298). -/
def execKmovbRK (reg : RegId) (k : ShortId) (s : State) : Result :=
  finish (kmovToGpr 8 kmovbOk reg k s)

/-- KMOVB `m8, k1` (43_promoted_vex.md R298). -/
def execKmovbMK (m : Mem) (k : ShortId) (s : State) : Result :=
  finish (kmovStore 8 kmovbOk m k s)

/-- KMOVD `r32, k1` (43_promoted_vex.md R299). -/
def execKmovdRK (reg : RegId) (k : ShortId) (s : State) : Result :=
  finish (kmovToGpr 32 kmovdqOk reg k s)

/-- KMOVD `k1, k2/m32` (43_promoted_vex.md R299). -/
def execKmovdKKm (k : ShortId) (src : KRM) (s : State) : Result :=
  finish (kmovLoad 32 kmovdqOk k src s)

/-- KMOVD `k1, r32` (43_promoted_vex.md R299). -/
def execKmovdKR (k : ShortId) (b : RegId) (s : State) : Result :=
  finish (kmovFromGpr 32 kmovdqOk k b s)

/-- KMOVD `m32, k1` (43_promoted_vex.md R299). -/
def execKmovdMK (m : Mem) (k : ShortId) (s : State) : Result :=
  finish (kmovStore 32 kmovdqOk m k s)

/-- KMOVQ `k1, k2/m64` (43_promoted_vex.md R300). -/
def execKmovqKKm (k : ShortId) (src : KRM) (s : State) : Result :=
  finish (kmovLoad 64 kmovdqOk k src s)

/-- KMOVQ `k1, r64` (43_promoted_vex.md R300). -/
def execKmovqKR (k : ShortId) (b : RegId) (s : State) : Result :=
  finish (kmovFromGpr 64 kmovdqOk k b s)

/-- KMOVQ `r64, k1` (43_promoted_vex.md R300). -/
def execKmovqRK (reg : RegId) (k : ShortId) (s : State) : Result :=
  finish (kmovToGpr 64 kmovdqOk reg k s)

/-- KMOVQ `m64, k1` (43_promoted_vex.md R300). -/
def execKmovqMK (m : Mem) (k : ShortId) (s : State) : Result :=
  finish (kmovStore 64 kmovdqOk m k s)

/-- KMOVW `k1, k2/m16` (43_promoted_vex.md R301). -/
def execKmovwKKm (k : ShortId) (src : KRM) (s : State) : Result :=
  finish (kmovLoad 16 kmovwOk k src s)

/-- KMOVW `k1, r32` (43_promoted_vex.md R301). -/
def execKmovwKR (k : ShortId) (b : RegId) (s : State) : Result :=
  finish (kmovFromGpr 16 kmovwOk k b s)

/-- KMOVW `r32, k1` (43_promoted_vex.md R301). -/
def execKmovwRK (reg : RegId) (k : ShortId) (s : State) : Result :=
  finish (kmovToGpr 16 kmovwOk reg k s)

/-- KMOVW `m16, k1` (43_promoted_vex.md R301). -/
def execKmovwMK (m : Mem) (k : ShortId) (s : State) : Result :=
  finish (kmovStore 16 kmovwOk m k s)

end Sys2Proof.Machine
end

