-- ==== Sys2Proof/Machine/Move.lean ====
section
/-! DEFINITION. Data movement and control of the REX2 subset, and PUSH2/POP2: MOV, LEA, MOVSXD, MOVZX, MOVSX, PUSH,
POP, PUSH2, POP2, JMPABS (45_jmpabs_rex2.md, 47_push2_pop2.md). -/
namespace Sys2Proof.Machine

/-- MOV (45_jmpabs_rex2.md R380). -/
def move (N : Nat) (dst : Dst) (src : Src) (s : State) : Except Exc State := do
  gate s true
  let a ← readSrc s N src
  writeDst s N dst a

/-- LEA: the effective address before any segment base (45_jmpabs_rex2.md R381). -/
def lea (N : Nat) (reg : RegId) (m : Mem) (s : State) : Except Exc State := do
  gate s true
  pure (s.writeGpr N reg ((effAddr s m).setWidth N) false)

/-- MOVSXD, MOVZX and MOVSX: an M-bit source extended to N bits (45_jmpabs_rex2.md R382). -/
def moveExtend (N M : Nat) (signed : Bool) (reg : RegId) (src : Src) (s : State) : Except Exc State := do
  gate s true
  let a ← readSrc s M src
  pure (s.writeGpr N reg (if signed then a.signExtend N else a.setWidth N) false)

/-- An access to the stack; it references the SS segment (20_memory.md R66). -/
def stackAccess (addr : Word) (n : Nat) (kind : AccessKind) (ac : Bool) : Access where
  addr := addr
  bytes := n
  kind := kind
  ss := true
  ac := ac
  align := 1

/-- RSP. -/
def State.rsp (s : State) : Word := s.getGpr 4

/-- PUSH of a 64-bit source: RSP as a source is its value before the decrement (45_jmpabs_rex2.md R372, R388). -/
def push (src : Src) (s : State) : Except Exc State := do
  gate s true
  let v ← readSrc s 64 src
  let t ← s.store 64 (stackAccess (s.rsp - 8) 8 .write true) v
  pure (t.setGpr 4 (s.rsp - 8))

/-- POP to a 64-bit destination: RSP is incremented before a memory destination is addressed and before a register
destination is written (45_jmpabs_rex2.md R373, R388). -/
def pop (dst : Dst) (s : State) : Except Exc State := do
  gate s true
  let v ← s.load 64 (stackAccess s.rsp 8 .read true)
  writeDst (s.setGpr 4 (s.rsp + 8)) 64 dst v

/-- PUSH2 and PUSH2P: both values or neither (47_push2_pop2.md R421, R422). -/
def push2 (v b : RegId) (s : State) : Except Exc State := do
  gate s (v != 4 && b != 4)
  require (s.rsp.toNat % 16 == 0) .gp
  checkAccess s (stackAccess (s.rsp - 16) 16 .write false)
  let t := s.poke (s.rsp - 8) 8 (s.getGpr v).toNat
  let u := t.poke (s.rsp - 16) 8 (s.getGpr b).toNat
  pure (u.setGpr 4 (s.rsp - 16))

/-- POP2 and POP2P: V receives the value at the lower address (47_push2_pop2.md R423, R424). -/
def pop2 (v b : RegId) (s : State) : Except Exc State := do
  gate s (v != 4 && b != 4 && v != b)
  require (s.rsp.toNat % 16 == 0) .gp
  checkAccess s (stackAccess s.rsp 16 .read false)
  let x := BitVec.ofNat 64 (leValue (readBytes s.mem s.rsp 8))
  let y := BitVec.ofNat 64 (leValue (readBytes s.mem (s.rsp + 8) 8))
  pure (((s.setGpr v x).setGpr b y).setGpr 4 (s.rsp + 16))

/-- JMPABS: #GP(0) unless the target is canonical, then RIP is the target (45_jmpabs_rex2.md R370). -/
def jumpAbs (target : Word) (s : State) : Except Exc State := do
  gate s true
  require (canonical s.params.laWidth target) .gp
  pure { s with rip := target, ripWrapped := false }

/-! ### The meanings, one per row of the opcode table -/

/-- POP2 `r64, r64` (47_push2_pop2.md R423). -/
def execPop2 (v : RegId) (b : RegId) (s : State) : Result :=
  finish (pop2 v b s)

/-- POP2P `r64, r64` (47_push2_pop2.md R424). -/
def execPop2p (v : RegId) (b : RegId) (s : State) : Result :=
  finish (pop2 v b s)

/-- PUSH2 `r64, r64` (47_push2_pop2.md R421). -/
def execPush2 (v : RegId) (b : RegId) (s : State) : Result :=
  finish (push2 v b s)

/-- PUSH2P `r64, r64` (47_push2_pop2.md R422). -/
def execPush2p (v : RegId) (b : RegId) (s : State) : Result :=
  finish (push2 v b s)

/-- REX2 MOV `r/m8, r8`, `r/m, r` (45_jmpabs_rex2.md R380). -/
def execRex2MovRmR (sz : OpSize) (rm : RM) (reg : RegId) (s : State) : Result :=
  finish (move sz.bits (dstRM rm none) (.reg reg) s)

/-- REX2 MOV `r8, r/m8`, `r, r/m` (45_jmpabs_rex2.md R380). -/
def execRex2MovRRm (sz : OpSize) (reg : RegId) (rm : RM) (s : State) : Result :=
  finish (move sz.bits (dstReg reg none) (.rm rm) s)

/-- REX2 MOV `r/m8, imm8`, `r/m, imm16/imm32` (45_jmpabs_rex2.md R380). -/
def execRex2MovRmImm (rm : RM) (imm : Imm) (s : State) : Result :=
  finish (move imm.bits (dstRM rm none) (.imm imm.value) s)

/-- REX2 MOV `r8, imm8`, `r, imm16/imm32/imm64` (45_jmpabs_rex2.md R380). -/
def execRex2MovRImm (b : RegId) (imm : MovImm) (s : State) : Result :=
  finish (move imm.bits (.reg b false) (.imm imm.value) s)

/-- REX2 LEA `r, m` (45_jmpabs_rex2.md R381). -/
def execRex2Lea (sz : OSize) (reg : RegId) (m : Mem) (s : State) : Result :=
  finish (lea sz.bits reg m s)

/-- REX2 MOVSXD `r64, r/m32 (W=1) ; r32, r/m32 (W=0)` (45_jmpabs_rex2.md R382). -/
def execRex2Movsxd (sz : YSize) (reg : RegId) (rm : RM) (s : State) : Result :=
  finish (moveExtend sz.bits 32 true reg (.rm rm) s)

/-- REX2 MOVZX `r, r/m8`, `r, r/m16` (45_jmpabs_rex2.md R382). -/
def execRex2Movzx (sz : OSize) (src : SrcSize) (reg : RegId) (rm : RM) (s : State) : Result :=
  finish (moveExtend sz.bits src.bits false reg (.rm rm) s)

/-- REX2 MOVSX `r, r/m8`, `r, r/m16` (45_jmpabs_rex2.md R382). -/
def execRex2Movsx (sz : OSize) (src : SrcSize) (reg : RegId) (rm : RM) (s : State) : Result :=
  finish (moveExtend sz.bits src.bits true reg (.rm rm) s)

/-- REX2 PUSH `r/m64` (45_jmpabs_rex2.md R388). -/
def execRex2PushRm (rm : RM) (s : State) : Result :=
  finish (push (.rm rm) s)

/-- REX2 POP `r/m64` (45_jmpabs_rex2.md R388). -/
def execRex2PopRm (rm : RM) (s : State) : Result :=
  finish (pop (dstRM rm none) s)

/-- REX2 PUSH `r64` (45_jmpabs_rex2.md R372). -/
def execRex2PushR (b : RegId) (s : State) : Result :=
  finish (push (.reg b) s)

/-- REX2 PUSHP `r64` (45_jmpabs_rex2.md R372). -/
def execRex2Pushp (b : RegId) (s : State) : Result :=
  finish (push (.reg b) s)

/-- REX2 POP `r64` (45_jmpabs_rex2.md R373). -/
def execRex2PopR (b : RegId) (s : State) : Result :=
  finish (pop (.reg b false) s)

/-- REX2 POPP `r64` (45_jmpabs_rex2.md R373). -/
def execRex2Popp (b : RegId) (s : State) : Result :=
  finish (pop (.reg b false) s)

/-- REX2 JMPABS `target64` (45_jmpabs_rex2.md R370). -/
def execJmpabs (target : Word) (s : State) : Result :=
  finish (jumpAbs target s)

end Sys2Proof.Machine
end

