-- ==== Sys2Proof/Machine/MulDiv.lean ====
section
/-! DEFINITION. Multiply and divide: MUL, IMUL, MULX, DIV, IDIV (42_muldiv_misc.md, 43_promoted_vex.md R303,
45_jmpabs_rex2.md R383, R385). -/
namespace Sys2Proof.Machine

/-- The exact product of two N-bit values, unsigned or signed. -/
def product {N : Nat} (signed : Bool) (a b : BitVec N) : Int :=
  if signed then a.toInt * b.toInt else (a.toNat * b.toNat : Nat)

/-- Whether the truncated signed product differs from the exact one (42_muldiv_misc.md R255). -/
def imulOverflow {N : Nat} (a b : BitVec N) : Bool :=
  (a * b).toInt != product true a b

/-- The flags of IMUL and MUL: CF and OF as given, the others undefined (42_muldiv_misc.md R255, R260). -/
def mulFlags (any : Nat → Bool) (c : Bool) : Flags :=
  { cf := c, pf := any 0, af := any 1, zf := any 2, sf := any 3, of := c }

/-- IMUL with an explicit destination (42_muldiv_misc.md R255, forms A to D). -/
def imulTo (N : Nat) (dst : Dst) (src1 src2 : Src) (nf : Bool) (s : State) : Except Exc State := do
  gate s true
  let a ← readSrc s N src1
  let b ← readSrc s N src2
  let t ← writeDst s N dst (a * b)
  pure (t.setFlagsUnless nf (mulFlags s.anyFlag (imulOverflow a b)))

/-- The low half of the exact product. -/
def productLow {N : Nat} (signed : Bool) (a b : BitVec N) : BitVec N := BitVec.ofInt N (product signed a b)

/-- The high half of the exact product. -/
def productHigh {N : Nat} (signed : Bool) (a b : BitVec N) : BitVec N :=
  (BitVec.ofInt (2 * N) (product signed a b) >>> N).setWidth N

/-- CF and OF of a one-operand multiply: the high half is not the zero- or sign-extension of the low half
(42_muldiv_misc.md R255, R260). -/
def wideOverflow {N : Nat} (signed : Bool) (a b : BitVec N) : Bool :=
  if signed then imulOverflow a b else productHigh false a b != 0

/-- Writes a double-width result: AX when N is 8, otherwise the low half to RAX and the high half to RDX
(42_muldiv_misc.md R255, R260). -/
def writeWide (N : Nat) (s : State) (lo hi : BitVec N) : State :=
  if N = 8 then s.writeGpr 16 0 ((hi.setWidth 16 <<< 8) ||| lo.setWidth 16) false
  else (s.writeGpr N 0 lo false).writeGpr N 2 hi false

/-- One-operand MUL (unsigned) and IMUL (signed) (42_muldiv_misc.md R255, R260). -/
def mulWide (N : Nat) (signed : Bool) (src : Src) (nf : Bool) (s : State) : Except Exc State := do
  gate s true
  let d ← readSrc s N src
  let a := s.readGpr N 0
  let t := writeWide N s (productLow signed a d) (productHigh signed a d)
  pure (t.setFlagsUnless nf (mulFlags s.anyFlag (wideOverflow signed a d)))

/-- MULX: no flags; the low half is written first, so the high half remains when both destinations are one register
(43_promoted_vex.md R303). -/
def mulx (N : Nat) (hi lo : RegId) (src : Src) (s : State) : Except Exc State := do
  gate s s.params.features.bmi2
  let b ← readSrc s N src
  let a := s.readGpr N 2
  pure ((s.writeGpr N lo (productLow false a b) false).writeGpr N hi (productHigh false a b) false)

/-- The double-width dividend: AX when N is 8, otherwise RDX:RAX (42_muldiv_misc.md R253). -/
def dividend (N : Nat) (s : State) : BitVec (2 * N) :=
  if N = 8 then (s.readGpr 16 0).setWidth (2 * N)
  else ((s.readGpr N 2).setWidth (2 * N) <<< N) ||| (s.readGpr N 0).setWidth (2 * N)

/-- Quotient and remainder, truncated toward zero, unless the divisor is 0 or the quotient does not fit N bits
(42_muldiv_misc.md R253, R254). -/
def divide {N : Nat} (signed : Bool) (n : BitVec (2 * N)) (d : BitVec N) : Option (BitVec N × BitVec N) :=
  if d = 0 then none
  else if signed then
    let q := n.toInt.tdiv d.toInt
    if q < -(2 ^ (N - 1) : Int) ∨ (2 ^ (N - 1) : Int) - 1 < q then none
    else some (BitVec.ofInt N q, BitVec.ofInt N (n.toInt.tmod d.toInt))
  else
    let q := n.toNat / d.toNat
    if 2 ^ N ≤ q then none else some (BitVec.ofNat N q, BitVec.ofNat N (n.toNat % d.toNat))

/-- DIV and IDIV: #DE before anything is written; all six flags undefined (42_muldiv_misc.md R253, R254). -/
def divWide (N : Nat) (signed : Bool) (src : Src) (nf : Bool) (s : State) : Except Exc State := do
  gate s true
  let d ← readSrc s N src
  match divide signed (dividend N s) d with
  | none => throw .de
  | some (q, r) => pure ((writeWide N s q r).setFlagsUnless nf s.anyFlags)

/-! ### The meanings, one per row of the opcode table -/

/-- DIV `r8/m8`, `rv/mv` (42_muldiv_misc.md R253). -/
def execDivRm (sz : OpSize) (rm : RM) (nf : Bool) (s : State) : Result :=
  finish (divWide sz.bits false (.rm rm) nf s)

/-- IDIV `r8/m8`, `rv/mv` (42_muldiv_misc.md R254). -/
def execIdivRm (sz : OpSize) (rm : RM) (nf : Bool) (s : State) : Result :=
  finish (divWide sz.bits true (.rm rm) nf s)

/-- IMUL `rv, rv/mv, imm16/imm32` (42_muldiv_misc.md R255). -/
def execImulRRmIz (reg : RegId) (rm : RM) (imm : ImmZ) (zu : Bool) (nf : Bool) (s : State) : Result :=
  finish (imulTo imm.bits (.reg reg zu) (.rm rm) (.imm imm.value) nf s)

/-- IMUL `rv, rv/mv, imm8` (42_muldiv_misc.md R255). -/
def execImulRRmI8 (sz : OSize) (reg : RegId) (rm : RM) (imm : BitVec 8) (zu : Bool) (nf : Bool) (s : State) : Result :=
  finish (imulTo sz.bits (.reg reg zu) (.rm rm) (.imm (imm.signExtend 64)) nf s)

/-- IMUL `rv, rv/mv ; ND=1: rv, rv, rv/mv` (42_muldiv_misc.md R255). -/
def execImulRRm (sz : OSize) (reg : RegId) (rm : RM) (ndd : Option RegId) (nf : Bool) (s : State) : Result :=
  finish (imulTo sz.bits (dstReg reg ndd) (.reg reg) (.rm rm) nf s)

/-- IMUL `r8/m8`, `rv/mv` (42_muldiv_misc.md R255). -/
def execImulRm (sz : OpSize) (rm : RM) (nf : Bool) (s : State) : Result :=
  finish (mulWide sz.bits true (.rm rm) nf s)

/-- MUL `r8/m8`, `rv/mv` (42_muldiv_misc.md R260). -/
def execMulRm (sz : OpSize) (rm : RM) (nf : Bool) (s : State) : Result :=
  finish (mulWide sz.bits false (.rm rm) nf s)

/-- MULX `ry, ry, my/ry` (43_promoted_vex.md R303). -/
def execMulx (sz : YSize) (reg : RegId) (v : RegId) (rm : RM) (s : State) : Result :=
  finish (mulx sz.bits reg v (.rm rm) s)

/-- REX2 IMUL `r, r/m, imm16/imm32` (45_jmpabs_rex2.md R383). -/
def execRex2ImulRRmIz (reg : RegId) (rm : RM) (imm : ImmZ) (s : State) : Result :=
  finish (imulTo imm.bits (.reg reg false) (.rm rm) (.imm imm.value) false s)

/-- REX2 IMUL `r, r/m, imm8` (45_jmpabs_rex2.md R383). -/
def execRex2ImulRRmI8 (sz : OSize) (reg : RegId) (rm : RM) (imm : BitVec 8) (s : State) : Result :=
  finish (imulTo sz.bits (.reg reg false) (.rm rm) (.imm (imm.signExtend 64)) false s)

/-- REX2 IMUL `r, r/m` (45_jmpabs_rex2.md R383). -/
def execRex2ImulRRm (sz : OSize) (reg : RegId) (rm : RM) (s : State) : Result :=
  finish (imulTo sz.bits (.reg reg false) (.reg reg) (.rm rm) false s)

/-- REX2 MUL `r/m8`, `r/m` (45_jmpabs_rex2.md R385). -/
def execRex2MulRm (sz : OpSize) (rm : RM) (s : State) : Result :=
  finish (mulWide sz.bits false (.rm rm) false s)

/-- REX2 IMUL `r/m8`, `r/m` (45_jmpabs_rex2.md R385). -/
def execRex2ImulRm (sz : OpSize) (rm : RM) (s : State) : Result :=
  finish (mulWide sz.bits true (.rm rm) false s)

/-- REX2 DIV `r/m8`, `r/m` (45_jmpabs_rex2.md R385). -/
def execRex2DivRm (sz : OpSize) (rm : RM) (s : State) : Result :=
  finish (divWide sz.bits false (.rm rm) false s)

/-- REX2 IDIV `r/m8`, `r/m` (45_jmpabs_rex2.md R385). -/
def execRex2IdivRm (sz : OpSize) (rm : RM) (s : State) : Result :=
  finish (divWide sz.bits true (.rm rm) false s)

end Sys2Proof.Machine
end

