-- ==== Sys2Proof/Machine/Shift.lean ====
section
/-! DEFINITION. Shifts, rotates and double shifts: RCL, RCR, ROL, ROR, SAR, SHL, SHR, SHLD, SHRD
(41_shift_rotate.md, 45_jmpabs_rex2.md R384). -/
namespace Sys2Proof.Machine

/-- Where a count comes from (41_shift_rotate.md R220). -/
inductive Count
  | imm (v : BitVec 8)
  | one
  | cl
  deriving DecidableEq, Repr

/-- The unmasked count (41_shift_rotate.md R221). -/
def Count.raw (s : State) : Count → Nat
  | .imm v => v.toNat
  | .one => 1
  | .cl => (s.readGpr 8 1).toNat

/-- `raw & mask` (41_shift_rotate.md R221). -/
def maskedCount (N raw : Nat) : Nat := if N = 64 then raw % 64 else raw % 32

/-- The rotate count of RCL and RCR: reduced modulo N + 1 when N is 8 or 16 (41_shift_rotate.md R221). -/
def carryCount (N masked : Nat) : Nat :=
  if N = 8 then masked % 9 else if N = 16 then masked % 17 else masked

/-- The seven shifts and rotates. -/
inductive ShiftOp | rcl | rcr | rol | ror | sar | shl | shr
  deriving DecidableEq, Repr

/-- The carry flag above the operand: the N + 1 bits RCL and RCR rotate (41_shift_rotate.md R222, R223). -/
def withCarry {N : Nat} (cf : Bool) (a : BitVec N) : BitVec (N + 1) := BitVec.cons cf a

/-- The rotation of the operand and the carry flag together. -/
def rotateCarry {N : Nat} (left : Bool) (cf : Bool) (a : BitVec N) (c : Nat) : BitVec (N + 1) :=
  if left then (withCarry cf a).rotateLeft c else (withCarry cf a).rotateRight c

/-- The result of a shift or rotate by a masked count (41_shift_rotate.md R222 to R229). -/
def ShiftOp.result {N : Nat} (op : ShiftOp) (cf : Bool) (a : BitVec N) (c : Nat) : BitVec N :=
  match op with
  | .rcl => (rotateCarry true cf a (carryCount N c)).setWidth N
  | .rcr => (rotateCarry false cf a (carryCount N c)).setWidth N
  | .rol => a.rotateLeft (c % N)
  | .ror => a.rotateRight (c % N)
  | .sar => a.sshiftRight c
  | .shl => a <<< c
  | .shr => a >>> c

/-- The flags of a shift or rotate by a masked count that is not 0; `any 0` to `any 2` are its undefined OF, AF and CF
(41_shift_rotate.md R222 to R229). -/
def ShiftOp.flags {N : Nat} (op : ShiftOp) (old : Flags) (any : Nat → Bool) (a : BitVec N) (c : Nat) : Flags :=
  let r := op.result old.cf a c
  match op with
  | .rcl =>
    let cf := if carryCount N c = 0 then old.cf else (rotateCarry true old.cf a (carryCount N c)).msb
    { old with cf := cf, of := if c = 1 then r.msb ^^ cf else any 0 }
  | .rcr =>
    let cf := if carryCount N c = 0 then old.cf else (rotateCarry false old.cf a (carryCount N c)).msb
    { old with cf := cf, of := if c = 1 then a.msb ^^ old.cf else any 0 }
  | .rol => { old with cf := r.getLsbD 0, of := if c = 1 then r.msb ^^ r.getLsbD 0 else any 0 }
  | .ror => { old with cf := r.msb, of := if c = 1 then r.msb ^^ r.getLsbD (N - 2) else any 0 }
  | .sar =>
    Flags.setSZP
      { old with cf := if c ≤ N then a.getLsbD (c - 1) else a.msb, of := if c = 1 then false else any 0, af := any 1 } r
  | .shl =>
    let cf := if c ≤ N then a.getLsbD (N - c) else any 2
    Flags.setSZP { old with cf := cf, of := if c = 1 then r.msb ^^ cf else any 0, af := any 1 } r
  | .shr =>
    Flags.setSZP
      { old with cf := if c ≤ N then a.getLsbD (c - 1) else any 2, of := if c = 1 then a.msb else any 0, af := any 1 } r

/-- The flags after a shift or rotate: a masked count of 0 changes none (41_shift_rotate.md R221). -/
def shiftFlags {N : Nat} (op : ShiftOp) (old : Flags) (any : Nat → Bool) (a : BitVec N) (c : Nat) : Flags :=
  if c = 0 then old else op.flags old any a c

/-- A shift or rotate: the destination is written whatever the count (41_shift_rotate.md R221). -/
def shift (N : Nat) (op : ShiftOp) (dst : Dst) (src : Src) (count : Count) (nf : Bool) (s : State) :
    Except Exc State := do
  gate s true
  let a ← readSrc s N src
  let c := maskedCount N (count.raw s)
  let t ← writeDst s N dst (op.result s.flags.cf a c)
  pure (t.setFlagsUnless nf (shiftFlags op s.flags s.anyFlag a c))

/-- The result of SHLD (left) or SHRD for a masked count; a count above N leaves it undefined, which only a 16-bit
operand can have (41_shift_rotate.md R228, R230). -/
def doubleResult {N : Nat} (left : Bool) (free : Word) (a b : BitVec N) (c : Nat) : BitVec N :=
  if c = 0 then a
  else if N < c then free.setWidth N
  else if left then (a <<< c) ||| (b >>> (N - c))
  else (a >>> c) ||| (b <<< (N - c))

/-- The flags of SHLD or SHRD for a masked count (41_shift_rotate.md R228, R230). -/
def doubleFlags {N : Nat} (left : Bool) (old : Flags) (any : Nat → Bool) (free : Word) (a b : BitVec N) (c : Nat) :
    Flags :=
  if c = 0 then old
  else if N < c then ⟨any 0, any 1, any 2, any 3, any 4, any 5⟩
  else
    let r := doubleResult left free a b c
    Flags.setSZP
      { old with
        cf := if left then a.getLsbD (N - c) else a.getLsbD (c - 1)
        of := if c = 1 then r.msb ^^ a.msb else any 0
        af := any 1 } r

/-- SHLD and SHRD (41_shift_rotate.md R228, R230). -/
def doubleShift (N : Nat) (left : Bool) (dst : Dst) (src1 src2 : Src) (count : Count) (nf : Bool) (s : State) :
    Except Exc State := do
  gate s true
  let a ← readSrc s N src1
  let b ← readSrc s N src2
  let c := maskedCount N (count.raw s)
  let free := Config.freeWord s.free 0
  let t ← writeDst s N dst (doubleResult left free a b c)
  pure (t.setFlagsUnless nf (doubleFlags left s.flags s.anyFlag free a b c))

/-! ### The meanings, one per row of the opcode table -/

/-- RCL `r8/m8, imm8 ; ND=1: r8, r8/m8, imm8`, `rv/mv, imm8 ; ND=1: rv, rv/mv, imm8` (41_shift_rotate.md R222). -/
def execRclRmI8 (sz : OpSize) (rm : RM) (imm : BitVec 8) (ndd : Option RegId) (s : State) : Result :=
  finish (shift sz.bits .rcl (dstRM rm ndd) (.rm rm) (.imm imm) false s)

/-- RCL `r8/m8 ; ND=1: r8, r8/m8`, `rv/mv ; ND=1: rv, rv/mv` (41_shift_rotate.md R222). -/
def execRclRmOne (sz : OpSize) (rm : RM) (ndd : Option RegId) (s : State) : Result :=
  finish (shift sz.bits .rcl (dstRM rm ndd) (.rm rm) .one false s)

/-- RCL `r8/m8 ; ND=1: r8, r8/m8`, `rv/mv ; ND=1: rv, rv/mv` (41_shift_rotate.md R222). -/
def execRclRmCl (sz : OpSize) (rm : RM) (ndd : Option RegId) (s : State) : Result :=
  finish (shift sz.bits .rcl (dstRM rm ndd) (.rm rm) .cl false s)

/-- RCR `r8/m8, imm8 ; ND=1: r8, r8/m8, imm8`, `rv/mv, imm8 ; ND=1: rv, rv/mv, imm8` (41_shift_rotate.md R223). -/
def execRcrRmI8 (sz : OpSize) (rm : RM) (imm : BitVec 8) (ndd : Option RegId) (s : State) : Result :=
  finish (shift sz.bits .rcr (dstRM rm ndd) (.rm rm) (.imm imm) false s)

/-- RCR `r8/m8 ; ND=1: r8, r8/m8`, `rv/mv ; ND=1: rv, rv/mv` (41_shift_rotate.md R223). -/
def execRcrRmOne (sz : OpSize) (rm : RM) (ndd : Option RegId) (s : State) : Result :=
  finish (shift sz.bits .rcr (dstRM rm ndd) (.rm rm) .one false s)

/-- RCR `r8/m8 ; ND=1: r8, r8/m8`, `rv/mv ; ND=1: rv, rv/mv` (41_shift_rotate.md R223). -/
def execRcrRmCl (sz : OpSize) (rm : RM) (ndd : Option RegId) (s : State) : Result :=
  finish (shift sz.bits .rcr (dstRM rm ndd) (.rm rm) .cl false s)

/-- ROL `r8/m8, imm8 ; ND=1: r8, r8/m8, imm8`, `rv/mv, imm8 ; ND=1: rv, rv/mv, imm8` (41_shift_rotate.md R224). -/
def execRolRmI8 (sz : OpSize) (rm : RM) (imm : BitVec 8) (ndd : Option RegId) (nf : Bool) (s : State) : Result :=
  finish (shift sz.bits .rol (dstRM rm ndd) (.rm rm) (.imm imm) nf s)

/-- ROL `r8/m8 ; ND=1: r8, r8/m8`, `rv/mv ; ND=1: rv, rv/mv` (41_shift_rotate.md R224). -/
def execRolRmOne (sz : OpSize) (rm : RM) (ndd : Option RegId) (nf : Bool) (s : State) : Result :=
  finish (shift sz.bits .rol (dstRM rm ndd) (.rm rm) .one nf s)

/-- ROL `r8/m8 ; ND=1: r8, r8/m8`, `rv/mv ; ND=1: rv, rv/mv` (41_shift_rotate.md R224). -/
def execRolRmCl (sz : OpSize) (rm : RM) (ndd : Option RegId) (nf : Bool) (s : State) : Result :=
  finish (shift sz.bits .rol (dstRM rm ndd) (.rm rm) .cl nf s)

/-- ROR `r8/m8, imm8 ; ND=1: r8, r8/m8, imm8`, `rv/mv, imm8 ; ND=1: rv, rv/mv, imm8` (41_shift_rotate.md R225). -/
def execRorRmI8 (sz : OpSize) (rm : RM) (imm : BitVec 8) (ndd : Option RegId) (nf : Bool) (s : State) : Result :=
  finish (shift sz.bits .ror (dstRM rm ndd) (.rm rm) (.imm imm) nf s)

/-- ROR `r8/m8 ; ND=1: r8, r8/m8`, `rv/mv ; ND=1: rv, rv/mv` (41_shift_rotate.md R225). -/
def execRorRmOne (sz : OpSize) (rm : RM) (ndd : Option RegId) (nf : Bool) (s : State) : Result :=
  finish (shift sz.bits .ror (dstRM rm ndd) (.rm rm) .one nf s)

/-- ROR `r8/m8 ; ND=1: r8, r8/m8`, `rv/mv ; ND=1: rv, rv/mv` (41_shift_rotate.md R225). -/
def execRorRmCl (sz : OpSize) (rm : RM) (ndd : Option RegId) (nf : Bool) (s : State) : Result :=
  finish (shift sz.bits .ror (dstRM rm ndd) (.rm rm) .cl nf s)

/-- SAR `r8/m8, imm8 ; ND=1: r8, r8/m8, imm8`, `rv/mv, imm8 ; ND=1: rv, rv/mv, imm8` (41_shift_rotate.md R226). -/
def execSarRmI8 (sz : OpSize) (rm : RM) (imm : BitVec 8) (ndd : Option RegId) (nf : Bool) (s : State) : Result :=
  finish (shift sz.bits .sar (dstRM rm ndd) (.rm rm) (.imm imm) nf s)

/-- SAR `r8/m8 ; ND=1: r8, r8/m8`, `rv/mv ; ND=1: rv, rv/mv` (41_shift_rotate.md R226). -/
def execSarRmOne (sz : OpSize) (rm : RM) (ndd : Option RegId) (nf : Bool) (s : State) : Result :=
  finish (shift sz.bits .sar (dstRM rm ndd) (.rm rm) .one nf s)

/-- SAR `r8/m8 ; ND=1: r8, r8/m8`, `rv/mv ; ND=1: rv, rv/mv` (41_shift_rotate.md R226). -/
def execSarRmCl (sz : OpSize) (rm : RM) (ndd : Option RegId) (nf : Bool) (s : State) : Result :=
  finish (shift sz.bits .sar (dstRM rm ndd) (.rm rm) .cl nf s)

/-- SHL `r8/m8, imm8 ; ND=1: r8, r8/m8, imm8`, `rv/mv, imm8 ; ND=1: rv, rv/mv, imm8` (41_shift_rotate.md R227). -/
def execShlRmI8 (_alt : Bool) (sz : OpSize) (rm : RM) (imm : BitVec 8) (ndd : Option RegId) (nf : Bool) (s : State) : Result :=
  finish (shift sz.bits .shl (dstRM rm ndd) (.rm rm) (.imm imm) nf s)

/-- SHL `r8/m8 ; ND=1: r8, r8/m8`, `rv/mv ; ND=1: rv, rv/mv` (41_shift_rotate.md R227). -/
def execShlRmOne (_alt : Bool) (sz : OpSize) (rm : RM) (ndd : Option RegId) (nf : Bool) (s : State) : Result :=
  finish (shift sz.bits .shl (dstRM rm ndd) (.rm rm) .one nf s)

/-- SHL `r8/m8 ; ND=1: r8, r8/m8`, `rv/mv ; ND=1: rv, rv/mv` (41_shift_rotate.md R227). -/
def execShlRmCl (_alt : Bool) (sz : OpSize) (rm : RM) (ndd : Option RegId) (nf : Bool) (s : State) : Result :=
  finish (shift sz.bits .shl (dstRM rm ndd) (.rm rm) .cl nf s)

/-- SHLD `rv/mv, rv, imm8 ; ND=1: rv, rv/mv, rv, imm8` (41_shift_rotate.md R228). -/
def execShldRmRI8 (sz : OSize) (rm : RM) (reg : RegId) (imm : BitVec 8) (ndd : Option RegId) (nf : Bool) (s : State) : Result :=
  finish (doubleShift sz.bits true (dstRM rm ndd) (.rm rm) (.reg reg) (.imm imm) nf s)

/-- SHLD `rv/mv, rv ; ND=1: rv, rv/mv, rv` (41_shift_rotate.md R228). -/
def execShldRmRCl (sz : OSize) (rm : RM) (reg : RegId) (ndd : Option RegId) (nf : Bool) (s : State) : Result :=
  finish (doubleShift sz.bits true (dstRM rm ndd) (.rm rm) (.reg reg) .cl nf s)

/-- SHR `r8/m8, imm8 ; ND=1: r8, r8/m8, imm8`, `rv/mv, imm8 ; ND=1: rv, rv/mv, imm8` (41_shift_rotate.md R229). -/
def execShrRmI8 (sz : OpSize) (rm : RM) (imm : BitVec 8) (ndd : Option RegId) (nf : Bool) (s : State) : Result :=
  finish (shift sz.bits .shr (dstRM rm ndd) (.rm rm) (.imm imm) nf s)

/-- SHR `r8/m8 ; ND=1: r8, r8/m8`, `rv/mv ; ND=1: rv, rv/mv` (41_shift_rotate.md R229). -/
def execShrRmOne (sz : OpSize) (rm : RM) (ndd : Option RegId) (nf : Bool) (s : State) : Result :=
  finish (shift sz.bits .shr (dstRM rm ndd) (.rm rm) .one nf s)

/-- SHR `r8/m8 ; ND=1: r8, r8/m8`, `rv/mv ; ND=1: rv, rv/mv` (41_shift_rotate.md R229). -/
def execShrRmCl (sz : OpSize) (rm : RM) (ndd : Option RegId) (nf : Bool) (s : State) : Result :=
  finish (shift sz.bits .shr (dstRM rm ndd) (.rm rm) .cl nf s)

/-- SHRD `rv/mv, rv, imm8 ; ND=1: rv, rv/mv, rv, imm8` (41_shift_rotate.md R230). -/
def execShrdRmRI8 (sz : OSize) (rm : RM) (reg : RegId) (imm : BitVec 8) (ndd : Option RegId) (nf : Bool) (s : State) : Result :=
  finish (doubleShift sz.bits false (dstRM rm ndd) (.rm rm) (.reg reg) (.imm imm) nf s)

/-- SHRD `rv/mv, rv ; ND=1: rv, rv/mv, rv` (41_shift_rotate.md R230). -/
def execShrdRmRCl (sz : OSize) (rm : RM) (reg : RegId) (ndd : Option RegId) (nf : Bool) (s : State) : Result :=
  finish (doubleShift sz.bits false (dstRM rm ndd) (.rm rm) (.reg reg) .cl nf s)

/-- REX2 ROL `r/m8, imm8`, `r/m, imm8` (45_jmpabs_rex2.md R384). -/
def execRex2RolRmI8 (sz : OpSize) (rm : RM) (imm : BitVec 8) (s : State) : Result :=
  finish (shift sz.bits .rol (dstRM rm none) (.rm rm) (.imm imm) false s)

/-- REX2 ROR `r/m8, imm8`, `r/m, imm8` (45_jmpabs_rex2.md R384). -/
def execRex2RorRmI8 (sz : OpSize) (rm : RM) (imm : BitVec 8) (s : State) : Result :=
  finish (shift sz.bits .ror (dstRM rm none) (.rm rm) (.imm imm) false s)

/-- REX2 RCL `r/m8, imm8`, `r/m, imm8` (45_jmpabs_rex2.md R384). -/
def execRex2RclRmI8 (sz : OpSize) (rm : RM) (imm : BitVec 8) (s : State) : Result :=
  finish (shift sz.bits .rcl (dstRM rm none) (.rm rm) (.imm imm) false s)

/-- REX2 RCR `r/m8, imm8`, `r/m, imm8` (45_jmpabs_rex2.md R384). -/
def execRex2RcrRmI8 (sz : OpSize) (rm : RM) (imm : BitVec 8) (s : State) : Result :=
  finish (shift sz.bits .rcr (dstRM rm none) (.rm rm) (.imm imm) false s)

/-- REX2 SHL `r/m8, imm8`, `r/m, imm8` (45_jmpabs_rex2.md R384). -/
def execRex2ShlRmI8 (_alt : Bool) (sz : OpSize) (rm : RM) (imm : BitVec 8) (s : State) : Result :=
  finish (shift sz.bits .shl (dstRM rm none) (.rm rm) (.imm imm) false s)

/-- REX2 SHR `r/m8, imm8`, `r/m, imm8` (45_jmpabs_rex2.md R384). -/
def execRex2ShrRmI8 (sz : OpSize) (rm : RM) (imm : BitVec 8) (s : State) : Result :=
  finish (shift sz.bits .shr (dstRM rm none) (.rm rm) (.imm imm) false s)

/-- REX2 SAR `r/m8, imm8`, `r/m, imm8` (45_jmpabs_rex2.md R384). -/
def execRex2SarRmI8 (sz : OpSize) (rm : RM) (imm : BitVec 8) (s : State) : Result :=
  finish (shift sz.bits .sar (dstRM rm none) (.rm rm) (.imm imm) false s)

/-- REX2 ROL `r/m8, 1`, `r/m, 1` (45_jmpabs_rex2.md R384). -/
def execRex2RolRmOne (sz : OpSize) (rm : RM) (s : State) : Result :=
  finish (shift sz.bits .rol (dstRM rm none) (.rm rm) .one false s)

/-- REX2 ROR `r/m8, 1`, `r/m, 1` (45_jmpabs_rex2.md R384). -/
def execRex2RorRmOne (sz : OpSize) (rm : RM) (s : State) : Result :=
  finish (shift sz.bits .ror (dstRM rm none) (.rm rm) .one false s)

/-- REX2 RCL `r/m8, 1`, `r/m, 1` (45_jmpabs_rex2.md R384). -/
def execRex2RclRmOne (sz : OpSize) (rm : RM) (s : State) : Result :=
  finish (shift sz.bits .rcl (dstRM rm none) (.rm rm) .one false s)

/-- REX2 RCR `r/m8, 1`, `r/m, 1` (45_jmpabs_rex2.md R384). -/
def execRex2RcrRmOne (sz : OpSize) (rm : RM) (s : State) : Result :=
  finish (shift sz.bits .rcr (dstRM rm none) (.rm rm) .one false s)

/-- REX2 SHL `r/m8, 1`, `r/m, 1` (45_jmpabs_rex2.md R384). -/
def execRex2ShlRmOne (_alt : Bool) (sz : OpSize) (rm : RM) (s : State) : Result :=
  finish (shift sz.bits .shl (dstRM rm none) (.rm rm) .one false s)

/-- REX2 SHR `r/m8, 1`, `r/m, 1` (45_jmpabs_rex2.md R384). -/
def execRex2ShrRmOne (sz : OpSize) (rm : RM) (s : State) : Result :=
  finish (shift sz.bits .shr (dstRM rm none) (.rm rm) .one false s)

/-- REX2 SAR `r/m8, 1`, `r/m, 1` (45_jmpabs_rex2.md R384). -/
def execRex2SarRmOne (sz : OpSize) (rm : RM) (s : State) : Result :=
  finish (shift sz.bits .sar (dstRM rm none) (.rm rm) .one false s)

/-- REX2 ROL `r/m8, CL`, `r/m, CL` (45_jmpabs_rex2.md R384). -/
def execRex2RolRmCl (sz : OpSize) (rm : RM) (s : State) : Result :=
  finish (shift sz.bits .rol (dstRM rm none) (.rm rm) .cl false s)

/-- REX2 ROR `r/m8, CL`, `r/m, CL` (45_jmpabs_rex2.md R384). -/
def execRex2RorRmCl (sz : OpSize) (rm : RM) (s : State) : Result :=
  finish (shift sz.bits .ror (dstRM rm none) (.rm rm) .cl false s)

/-- REX2 RCL `r/m8, CL`, `r/m, CL` (45_jmpabs_rex2.md R384). -/
def execRex2RclRmCl (sz : OpSize) (rm : RM) (s : State) : Result :=
  finish (shift sz.bits .rcl (dstRM rm none) (.rm rm) .cl false s)

/-- REX2 RCR `r/m8, CL`, `r/m, CL` (45_jmpabs_rex2.md R384). -/
def execRex2RcrRmCl (sz : OpSize) (rm : RM) (s : State) : Result :=
  finish (shift sz.bits .rcr (dstRM rm none) (.rm rm) .cl false s)

/-- REX2 SHL `r/m8, CL`, `r/m, CL` (45_jmpabs_rex2.md R384). -/
def execRex2ShlRmCl (_alt : Bool) (sz : OpSize) (rm : RM) (s : State) : Result :=
  finish (shift sz.bits .shl (dstRM rm none) (.rm rm) .cl false s)

/-- REX2 SHR `r/m8, CL`, `r/m, CL` (45_jmpabs_rex2.md R384). -/
def execRex2ShrRmCl (sz : OpSize) (rm : RM) (s : State) : Result :=
  finish (shift sz.bits .shr (dstRM rm none) (.rm rm) .cl false s)

/-- REX2 SAR `r/m8, CL`, `r/m, CL` (45_jmpabs_rex2.md R384). -/
def execRex2SarRmCl (sz : OpSize) (rm : RM) (s : State) : Result :=
  finish (shift sz.bits .sar (dstRM rm none) (.rm rm) .cl false s)

/-- REX2 SHLD `r/m, r, imm8` (45_jmpabs_rex2.md R384). -/
def execRex2ShldRmRI8 (sz : OSize) (rm : RM) (reg : RegId) (imm : BitVec 8) (s : State) : Result :=
  finish (doubleShift sz.bits true (dstRM rm none) (.rm rm) (.reg reg) (.imm imm) false s)

/-- REX2 SHLD `r/m, r, CL` (45_jmpabs_rex2.md R384). -/
def execRex2ShldRmRCl (sz : OSize) (rm : RM) (reg : RegId) (s : State) : Result :=
  finish (doubleShift sz.bits true (dstRM rm none) (.rm rm) (.reg reg) .cl false s)

/-- REX2 SHRD `r/m, r, imm8` (45_jmpabs_rex2.md R384). -/
def execRex2ShrdRmRI8 (sz : OSize) (rm : RM) (reg : RegId) (imm : BitVec 8) (s : State) : Result :=
  finish (doubleShift sz.bits false (dstRM rm none) (.rm rm) (.reg reg) (.imm imm) false s)

/-- REX2 SHRD `r/m, r, CL` (45_jmpabs_rex2.md R384). -/
def execRex2ShrdRmRCl (sz : OSize) (rm : RM) (reg : RegId) (s : State) : Result :=
  finish (doubleShift sz.bits false (dstRM rm none) (.rm rm) (.reg reg) .cl false s)

end Sys2Proof.Machine
end

