-- ==== Sys2Proof/Machine/System.lean ====
section
/-! DEFINITION. System and direct-store instructions: INVEPT, INVVPID, INVPCID, WRSS, WRUSS, ENQCMD, ENQCMDS,
MOVDIRI, MOVDIR64B (42_muldiv_misc.md R258, R259, R274 to R276; 44_promoted_system_crypto.md R350 to R357). -/
namespace Sys2Proof.Machine

/-- The 16-byte descriptor of an invalidation instruction (44_promoted_system_crypto.md R350). -/
def readDescriptor (s : State) (m : Mem) : Except Exc (BitVec 128) :=
  s.load 128 (memAccess s m 16 .read false 1)

/-- INVEPT: the invalidation has no effect on the modelled state, all six flags are `any`
(44_promoted_system_crypto.md R350, 60_exceptions.md R451). -/
def invept (_type : RegId) (m : Mem) (s : State) : Except Exc State := do
  gate s (s.params.features.vmx && s.ctrl.inVmxOperation && s.ctrl.eptSupported && s.ctrl.inveptSupported)
  require (decide (s.cpl = 0)) .gp
  let _ ← readDescriptor s m
  pure (s.setFlags s.anyFlags)

/-- INVVPID (44_promoted_system_crypto.md R351, 60_exceptions.md R453). -/
def invvpid (_type : RegId) (m : Mem) (s : State) : Except Exc State := do
  gate s (s.params.features.vmx && s.ctrl.inVmxOperation && s.ctrl.vpidSupported && s.ctrl.invvpidSupported)
  require (decide (s.cpl = 0)) .gp
  let _ ← readDescriptor s m
  pure (s.setFlags s.anyFlags)

/-- The conditions on the descriptor of INVPCID (60_exceptions.md R452). -/
def invpcidDescOk (s : State) (type : Word) (desc : BitVec 128) : Bool :=
  ((desc >>> 12).setWidth 52 == (0 : BitVec 52)) &&
  (s.ctrl.cr4Pcide || !(type == 0 || type == 1) || desc.setWidth 12 == (0 : BitVec 12)) &&
  (type != 0 || canonical s.params.laWidth ((desc >>> 64).setWidth 64))

/-- INVPCID: privilege and type first, then the descriptor (44_promoted_system_crypto.md R352, 60_exceptions.md R432). -/
def invpcid (type : RegId) (m : Mem) (s : State) : Except Exc State := do
  gate s s.params.features.invpcid
  require (decide (s.cpl = 0)) .gp
  require (decide ((s.getGpr type).toNat ≤ 3)) .gp
  let desc ← readDescriptor s m
  require (invpcidDescOk s (s.getGpr type) desc) .gp
  pure s

/-- The access of a shadow-stack write: 4-byte aligned, never #SS, never #AC (60_exceptions.md R445, R446). -/
def shadowAccess (s : State) (m : Mem) (n : Nat) (kind : AccessKind) : Access where
  addr := linAddr s m
  bytes := n
  kind := kind
  ss := false
  ac := false
  align := 4

/-- Shadow stacks and shadow-stack writes are enabled for the current privilege level (60_exceptions.md R445). -/
def wrssEnabled (s : State) : Bool :=
  if s.cpl = 3 then s.ctrl.uCetShStkEn && s.ctrl.uCetWrShstkEn
  else s.ctrl.sCetShStkEn && s.ctrl.sCetWrShstkEn

/-- WRSSD and WRSSQ (44_promoted_system_crypto.md R353, R354). -/
def wrss (N : Nat) (m : Mem) (reg : RegId) (s : State) : Except Exc State := do
  gate s (s.params.features.cet && s.ctrl.cr4Cet && wrssEnabled s)
  s.store N (shadowAccess s m (N / 8) (if s.cpl = 3 then .shadowUser else .shadowSupervisor)) (s.readGpr N reg)

/-- WRUSSD and WRUSSQ: supervisor only, to a user shadow stack (44_promoted_system_crypto.md R355, R356). -/
def wruss (N : Nat) (m : Mem) (reg : RegId) (s : State) : Except Exc State := do
  gate s (s.params.features.cet && s.ctrl.cr4Cet)
  require (decide (s.cpl = 0)) .gp
  s.store N (shadowAccess s m (N / 8) .shadowUser) (s.readGpr N reg)

/-- `EnqueueCommand`: the next input bit, 0 (accepted) when none was supplied, and the inputs that remain
(42_muldiv_misc.md R276, 92_eei_decisions.md "Open parameters, collected"). -/
def State.enqueue (s : State) : Bool × List Bool :=
  match s.enqueueInputs with
  | [] => (false, [])
  | b :: bs => (b, bs)

/-- The destination of ENQCMD, ENQCMDS and MOVDIR64B is 64-byte aligned (20_memory.md R69). -/
def aligned64 (a : Word) : Bool := a.toNat % 64 == 0

/-- The end of ENQCMD and ENQCMDS: ZF is the device's answer, the other flags are 0, `mem` is unchanged
(42_muldiv_misc.md R274, R276). -/
def State.enqueued (s : State) : State :=
  { s with flags := { Flags.clear with zf := s.enqueue.1 }, enqueueInputs := s.enqueue.2 }

/-- ENQCMD (42_muldiv_misc.md R274), with the register conditions before the memory access (60_exceptions.md R432). -/
def enqcmd (reg : RegId) (m : Mem) (s : State) : Except Exc State := do
  gate s s.params.features.enqcmd
  require (aligned64 (addrReg s m.a32 reg) && s.ctrl.pasidValid) .gp
  let cmd ← s.load 512 (memAccess s m 64 .read false 1)
  require (cmd.setWidth 31 == (0 : BitVec 31)) .gp
  pure s.enqueued

/-- ENQCMDS (42_muldiv_misc.md R275). -/
def enqcmds (reg : RegId) (m : Mem) (s : State) : Except Exc State := do
  gate s s.params.features.enqcmd
  require (decide (s.cpl = 0)) .gp
  require (aligned64 (addrReg s m.a32 reg)) .gp
  let cmd ← s.load 512 (memAccess s m 64 .read false 1)
  require ((cmd >>> 20).setWidth 11 == (0 : BitVec 11)) .gp
  pure s.enqueued

/-- MOVDIRI: an ordinary store (42_muldiv_misc.md R259, 20_memory.md R81). -/
def movdiri (N : Nat) (m : Mem) (reg : RegId) (s : State) : Except Exc State := do
  gate s s.params.features.movdir
  writeDst s N (.mem m) (s.readGpr N reg)

/-- The destination access of MOVDIR64B: 64 bytes through ES (42_muldiv_misc.md R258). -/
def movdir64bAccess (s : State) (a32 : Bool) (reg : RegId) : Access where
  addr := addrReg s a32 reg
  bytes := 64
  kind := .write
  ss := false
  ac := false
  align := 64

/-- MOVDIR64B: the destination alignment, then the source, then the 64-byte store (42_muldiv_misc.md R258). -/
def movdir64b (reg : RegId) (m : Mem) (s : State) : Except Exc State := do
  gate s s.params.features.movdir
  require (aligned64 (addrReg s m.a32 reg)) .gp
  let data ← s.load 512 (memAccess s m 64 .read true 1)
  s.store 512 (movdir64bAccess s m.a32 reg) data

/-! ### The meanings, one per row of the opcode table -/

/-- ENQCMD `ra, m512` (42_muldiv_misc.md R274). -/
def execEnqcmd (reg : RegId) (m : Mem) (s : State) : Result :=
  finish (enqcmd reg m s)

/-- ENQCMDS `ra, m512` (42_muldiv_misc.md R275). -/
def execEnqcmds (reg : RegId) (m : Mem) (s : State) : Result :=
  finish (enqcmds reg m s)

/-- INVEPT `r64, m128` (44_promoted_system_crypto.md R350). -/
def execInvept (reg : RegId) (m : Mem) (s : State) : Result :=
  finish (invept reg m s)

/-- INVPCID `r64, m128` (44_promoted_system_crypto.md R352). -/
def execInvpcid (reg : RegId) (m : Mem) (s : State) : Result :=
  finish (invpcid reg m s)

/-- INVVPID `r64, m128` (44_promoted_system_crypto.md R351). -/
def execInvvpid (reg : RegId) (m : Mem) (s : State) : Result :=
  finish (invvpid reg m s)

/-- MOVDIR64B `ra, m512` (42_muldiv_misc.md R258). -/
def execMovdir64b (reg : RegId) (m : Mem) (s : State) : Result :=
  finish (movdir64b reg m s)

/-- MOVDIRI `my, ry` (42_muldiv_misc.md R259). -/
def execMovdiri (sz : YSize) (m : Mem) (reg : RegId) (s : State) : Result :=
  finish (movdiri sz.bits m reg s)

/-- WRSSD `m32, r32` (44_promoted_system_crypto.md R353). -/
def execWrssd (m : Mem) (reg : RegId) (s : State) : Result :=
  finish (wrss 32 m reg s)

/-- WRSSQ `m64, r64` (44_promoted_system_crypto.md R354). -/
def execWrssq (m : Mem) (reg : RegId) (s : State) : Result :=
  finish (wrss 64 m reg s)

/-- WRUSSD `m32, r32` (44_promoted_system_crypto.md R355). -/
def execWrussd (m : Mem) (reg : RegId) (s : State) : Result :=
  finish (wruss 32 m reg s)

/-- WRUSSQ `m64, r64` (44_promoted_system_crypto.md R356). -/
def execWrussq (m : Mem) (reg : RegId) (s : State) : Result :=
  finish (wruss 64 m reg s)

end Sys2Proof.Machine
end

