-- ==== Sys2Proof/Machine/Tile.lean ====
section
/-! DEFINITION. The AMX tile instructions over the opaque tile state: LDTILECFG, STTILECFG, TILELOADD, TILELOADDT1,
TILESTORED (43_promoted_vex.md R302, R310 to R313, R320; 60_exceptions.md R440 to R442). -/
namespace Sys2Proof.Machine

/-- LDTILECFG: a configuration that `TileCfgValid` rejects raises #GP(0) (43_promoted_vex.md R302). -/
def loadTileConfig (m : Mem) (s : State) : Except Exc State := do
  gate s s.params.features.amxTile
  let cfg ← s.load 512 (memAccess s m 64 .read false 1)
  require (!s.params.tileCfgRejected.contains cfg) .gp
  pure { s with tile := Config.loadTileCfg s.tile cfg }

/-- STTILECFG (43_promoted_vex.md R310). -/
def storeTileConfig (m : Mem) (s : State) : Except Exc State := do
  gate s s.params.features.amxTile
  s.store 512 (memAccess s m 64 .write false 1) (Config.tileCfgBytes s.tile)

/-- Whether a memory form has a SIB byte (30_encoding.md R157). -/
def hasSib : MemForm → Bool
  | .base _ _ => false
  | .sib _ _ _ => true
  | .sibNoBase _ _ => true
  | .ripRel _ => false

/-- `start` of a tile access: base plus displacement (43_promoted_vex.md R311). -/
def tileStart (s : State) : MemForm → Word
  | .base b d => s.getGpr b + d.value
  | .sib b _ d => s.getGpr b + d.value
  | .sibNoBase _ d => d.signExtend 64
  | .ripRel d => s.rip + d.signExtend 64

/-- `stride` of a tile access: the scaled index, 0 where there is none (43_promoted_vex.md R311). -/
def tileStride (s : State) : MemForm → Word
  | .base _ _ => 0
  | .sib _ i _ => indexValue s i
  | .sibNoBase i _ => indexValue s i
  | .ripRel _ => 0

/-- The linear address of row `i` (43_promoted_vex.md R311). -/
def tileRowAddr (s : State) (m : Mem) (i : Nat) : Word :=
  truncAsize m.a32 (tileStart s m.form + BitVec.ofNat 64 i * tileStride s m.form) + segBase s m.seg

/-- The access of row `i`. -/
def tileRowAccess (s : State) (m : Mem) (colsb : Nat) (kind : AccessKind) (i : Nat) : Access where
  addr := tileRowAddr s m i
  bytes := colsb
  kind := kind
  ss := refsSS m
  ac := false
  align := 1

/-- The shape of a tile register in the current configuration. -/
def State.tileShape (s : State) (t : BitVec 3) : TileShape := s.tile.shapes[t.toNat]

/-- The checks of class AMX-E3-EVEX: tiles configured, the tile id valid, a SIB byte (60_exceptions.md R442). -/
def tileGate (s : State) (t : ShortId) (m : Mem) : Except Exc Unit :=
  gate s (s.params.features.amxTile && s.tile.configured && (s.tileShape t.id).valid && hasSib m.form &&
    shortIdOk s.params t)

/-- The bytes of `n` rows from row `i` on, each read with its own checks (43_promoted_vex.md R311). -/
def readRows (s : State) (m : Mem) (colsb i : Nat) : Nat → Except Exc (List (List Byte))
  | 0 => pure []
  | n + 1 => do
    let x := tileRowAccess s m colsb .read i
    checkAccess s x
    let rest ← readRows s m colsb (i + 1) n
    pure (readBytes s.mem x.addr colsb :: rest)

/-- TILELOADD and TILELOADDT1 (43_promoted_vex.md R311, R312). -/
def tileLoad (t : ShortId) (m : Mem) (s : State) : Except Exc State := do
  tileGate s t m
  let shape := s.tileShape t.id
  let rows ← readRows s m shape.colsb 0 shape.rows
  pure { s with tile := { s.tile with contents := Config.tileLoad s.tile.contents t.id.toNat rows } }

/-- The `n` bytes of a row from column `j` on. -/
def tileRowBytes (contents tile row j : Nat) : Nat → List Byte
  | 0 => []
  | n + 1 => Config.tileByte contents tile row j :: tileRowBytes contents tile row (j + 1) n

/-- The checks of `n` rows from row `i` on for writing. -/
def checkRows (s : State) (m : Mem) (colsb i : Nat) : Nat → Except Exc Unit
  | 0 => pure ()
  | n + 1 => do
    checkAccess s (tileRowAccess s m colsb .write i)
    checkRows s m colsb (i + 1) n

/-- Memory after `n` rows from row `i` on have been stored, in row order. -/
def writeRows (s : State) (m : Mem) (t : BitVec 3) (colsb i : Nat) (mem : Memory) : Nat → Memory
  | 0 => mem
  | n + 1 =>
    writeRows s m t colsb (i + 1)
      (writeBytes mem (tileRowAddr s m i) (tileRowBytes s.tile.contents t.toNat i 0 colsb)) n

/-- TILESTORED: every row is checked before the first is written (43_promoted_vex.md R313, 60_exceptions.md R431). -/
def tileStore (m : Mem) (t : ShortId) (s : State) : Except Exc State := do
  tileGate s t m
  let shape := s.tileShape t.id
  checkRows s m shape.colsb 0 shape.rows
  pure { s with mem := writeRows s m t.id shape.colsb 0 s.mem shape.rows }

/-! ### The meanings, one per row of the opcode table -/

/-- LDTILECFG `m512` (43_promoted_vex.md R302). -/
def execLdtilecfg (m : Mem) (s : State) : Result :=
  finish (loadTileConfig m s)

/-- STTILECFG `m512` (43_promoted_vex.md R310). -/
def execSttilecfg (m : Mem) (s : State) : Result :=
  finish (storeTileConfig m s)

/-- TILELOADD `tmm1, sibmem` (43_promoted_vex.md R311). -/
def execTileloadd (t : ShortId) (m : Mem) (s : State) : Result :=
  finish (tileLoad t m s)

/-- TILELOADDT1 `tmm1, sibmem` (43_promoted_vex.md R312). -/
def execTileloaddt1 (t : ShortId) (m : Mem) (s : State) : Result :=
  finish (tileLoad t m s)

/-- TILESTORED `sibmem, tmm1` (43_promoted_vex.md R313). -/
def execTilestored (m : Mem) (t : ShortId) (s : State) : Result :=
  finish (tileStore m t s)

end Sys2Proof.Machine
end

