-- ==== Sys2Proof/Machine/Dispatch.lean ====
section
/-! DEFINITION. The dispatch: one arm per constructor of `Instr`, each one direct call of its meaning. -/
namespace Sys2Proof.Machine
open Host

def exec (i : Instr) (s : State) : Host.Outcome State Fault Refusal :=
  match i with
  | .adcRmR sz rm reg ndd => Sys2Proof.Machine.execAdcRmR sz rm reg ndd s
  | .adcRRm sz reg rm ndd => Sys2Proof.Machine.execAdcRRm sz reg rm ndd s
  | .adcRmImm rm imm ndd => Sys2Proof.Machine.execAdcRmImm rm imm ndd s
  | .adcRmI8 sz rm imm ndd => Sys2Proof.Machine.execAdcRmI8 sz rm imm ndd s
  | .adcx sz reg rm ndd => Sys2Proof.Machine.execAdcx sz reg rm ndd s
  | .addRmR sz rm reg ndd nf => Sys2Proof.Machine.execAddRmR sz rm reg ndd nf s
  | .addRRm sz reg rm ndd nf => Sys2Proof.Machine.execAddRRm sz reg rm ndd nf s
  | .addRmImm rm imm ndd nf => Sys2Proof.Machine.execAddRmImm rm imm ndd nf s
  | .addRmI8 sz rm imm ndd nf => Sys2Proof.Machine.execAddRmI8 sz rm imm ndd nf s
  | .adox sz reg rm ndd => Sys2Proof.Machine.execAdox sz reg rm ndd s
  | .aesdec128kl x m => Sys2Proof.Machine.execAesdec128kl x m s
  | .aesdec256kl x m => Sys2Proof.Machine.execAesdec256kl x m s
  | .aesdecwide128kl m => Sys2Proof.Machine.execAesdecwide128kl m s
  | .aesdecwide256kl m => Sys2Proof.Machine.execAesdecwide256kl m s
  | .aesenc128kl x m => Sys2Proof.Machine.execAesenc128kl x m s
  | .aesenc256kl x m => Sys2Proof.Machine.execAesenc256kl x m s
  | .aesencwide128kl m => Sys2Proof.Machine.execAesencwide128kl m s
  | .aesencwide256kl m => Sys2Proof.Machine.execAesencwide256kl m s
  | .andRmR sz rm reg ndd nf => Sys2Proof.Machine.execAndRmR sz rm reg ndd nf s
  | .andRRm sz reg rm ndd nf => Sys2Proof.Machine.execAndRRm sz reg rm ndd nf s
  | .andRmImm rm imm ndd nf => Sys2Proof.Machine.execAndRmImm rm imm ndd nf s
  | .andRmI8 sz rm imm ndd nf => Sys2Proof.Machine.execAndRmI8 sz rm imm ndd nf s
  | .andn sz reg v rm nf => Sys2Proof.Machine.execAndn sz reg v rm nf s
  | .bextr sz reg rm v nf => Sys2Proof.Machine.execBextr sz reg rm v nf s
  | .blsi sz v rm nf => Sys2Proof.Machine.execBlsi sz v rm nf s
  | .blsmsk sz v rm nf => Sys2Proof.Machine.execBlsmsk sz v rm nf s
  | .blsr sz v rm nf => Sys2Proof.Machine.execBlsr sz v rm nf s
  | .bzhi sz reg rm v nf => Sys2Proof.Machine.execBzhi sz reg rm v nf s
  | .cmov cc sz v reg rm => Sys2Proof.Machine.execCmov cc sz v reg rm s
  | .cmpccxadd cc sz m reg v => Sys2Proof.Machine.execCmpccxadd cc sz m reg v s
  | .crc32Rm8 sz reg rm => Sys2Proof.Machine.execCrc32Rm8 sz reg rm s
  | .crc32Rm sz reg rm => Sys2Proof.Machine.execCrc32Rm sz reg rm s
  | .decRm sz rm ndd nf => Sys2Proof.Machine.execDecRm sz rm ndd nf s
  | .divRm sz rm nf => Sys2Proof.Machine.execDivRm sz rm nf s
  | .encodekey128 reg b => Sys2Proof.Machine.execEncodekey128 reg b s
  | .encodekey256 reg b => Sys2Proof.Machine.execEncodekey256 reg b s
  | .enqcmd reg m => Sys2Proof.Machine.execEnqcmd reg m s
  | .enqcmds reg m => Sys2Proof.Machine.execEnqcmds reg m s
  | .idivRm sz rm nf => Sys2Proof.Machine.execIdivRm sz rm nf s
  | .imulRRmIz reg rm imm zu nf => Sys2Proof.Machine.execImulRRmIz reg rm imm zu nf s
  | .imulRRmI8 sz reg rm imm zu nf => Sys2Proof.Machine.execImulRRmI8 sz reg rm imm zu nf s
  | .imulRRm sz reg rm ndd nf => Sys2Proof.Machine.execImulRRm sz reg rm ndd nf s
  | .imulRm sz rm nf => Sys2Proof.Machine.execImulRm sz rm nf s
  | .incRm sz rm ndd nf => Sys2Proof.Machine.execIncRm sz rm ndd nf s
  | .invept reg m => Sys2Proof.Machine.execInvept reg m s
  | .invpcid reg m => Sys2Proof.Machine.execInvpcid reg m s
  | .invvpid reg m => Sys2Proof.Machine.execInvvpid reg m s
  | .kmovbKKm k src => Sys2Proof.Machine.execKmovbKKm k src s
  | .kmovbKR k b => Sys2Proof.Machine.execKmovbKR k b s
  | .kmovbRK reg k => Sys2Proof.Machine.execKmovbRK reg k s
  | .kmovbMK m k => Sys2Proof.Machine.execKmovbMK m k s
  | .kmovdRK reg k => Sys2Proof.Machine.execKmovdRK reg k s
  | .kmovdKKm k src => Sys2Proof.Machine.execKmovdKKm k src s
  | .kmovdKR k b => Sys2Proof.Machine.execKmovdKR k b s
  | .kmovdMK m k => Sys2Proof.Machine.execKmovdMK m k s
  | .kmovqKKm k src => Sys2Proof.Machine.execKmovqKKm k src s
  | .kmovqKR k b => Sys2Proof.Machine.execKmovqKR k b s
  | .kmovqRK reg k => Sys2Proof.Machine.execKmovqRK reg k s
  | .kmovqMK m k => Sys2Proof.Machine.execKmovqMK m k s
  | .kmovwKKm k src => Sys2Proof.Machine.execKmovwKKm k src s
  | .kmovwKR k b => Sys2Proof.Machine.execKmovwKR k b s
  | .kmovwRK reg k => Sys2Proof.Machine.execKmovwRK reg k s
  | .kmovwMK m k => Sys2Proof.Machine.execKmovwMK m k s
  | .ldtilecfg m => Sys2Proof.Machine.execLdtilecfg m s
  | .lzcnt sz reg rm nf => Sys2Proof.Machine.execLzcnt sz reg rm nf s
  | .movbeRRm sz reg rm => Sys2Proof.Machine.execMovbeRRm sz reg rm s
  | .movbeRmR sz rm reg => Sys2Proof.Machine.execMovbeRmR sz rm reg s
  | .movdir64b reg m => Sys2Proof.Machine.execMovdir64b reg m s
  | .movdiri sz m reg => Sys2Proof.Machine.execMovdiri sz m reg s
  | .mulRm sz rm nf => Sys2Proof.Machine.execMulRm sz rm nf s
  | .mulx sz reg v rm => Sys2Proof.Machine.execMulx sz reg v rm s
  | .negRm sz rm ndd nf => Sys2Proof.Machine.execNegRm sz rm ndd nf s
  | .notRm sz rm ndd => Sys2Proof.Machine.execNotRm sz rm ndd s
  | .orRRm sz reg rm ndd nf => Sys2Proof.Machine.execOrRRm sz reg rm ndd nf s
  | .orRmR sz rm reg ndd nf => Sys2Proof.Machine.execOrRmR sz rm reg ndd nf s
  | .orRmImm rm imm ndd nf => Sys2Proof.Machine.execOrRmImm rm imm ndd nf s
  | .orRmI8 sz rm imm ndd nf => Sys2Proof.Machine.execOrRmI8 sz rm imm ndd nf s
  | .pdep sz reg v rm => Sys2Proof.Machine.execPdep sz reg v rm s
  | .pext sz reg v rm => Sys2Proof.Machine.execPext sz reg v rm s
  | .popcnt sz reg rm nf => Sys2Proof.Machine.execPopcnt sz reg rm nf s
  | .rclRmI8 sz rm imm ndd => Sys2Proof.Machine.execRclRmI8 sz rm imm ndd s
  | .rclRmOne sz rm ndd => Sys2Proof.Machine.execRclRmOne sz rm ndd s
  | .rclRmCl sz rm ndd => Sys2Proof.Machine.execRclRmCl sz rm ndd s
  | .rcrRmI8 sz rm imm ndd => Sys2Proof.Machine.execRcrRmI8 sz rm imm ndd s
  | .rcrRmOne sz rm ndd => Sys2Proof.Machine.execRcrRmOne sz rm ndd s
  | .rcrRmCl sz rm ndd => Sys2Proof.Machine.execRcrRmCl sz rm ndd s
  | .rolRmI8 sz rm imm ndd nf => Sys2Proof.Machine.execRolRmI8 sz rm imm ndd nf s
  | .rolRmOne sz rm ndd nf => Sys2Proof.Machine.execRolRmOne sz rm ndd nf s
  | .rolRmCl sz rm ndd nf => Sys2Proof.Machine.execRolRmCl sz rm ndd nf s
  | .rorRmI8 sz rm imm ndd nf => Sys2Proof.Machine.execRorRmI8 sz rm imm ndd nf s
  | .rorRmOne sz rm ndd nf => Sys2Proof.Machine.execRorRmOne sz rm ndd nf s
  | .rorRmCl sz rm ndd nf => Sys2Proof.Machine.execRorRmCl sz rm ndd nf s
  | .rorx sz reg rm imm => Sys2Proof.Machine.execRorx sz reg rm imm s
  | .sarRmI8 sz rm imm ndd nf => Sys2Proof.Machine.execSarRmI8 sz rm imm ndd nf s
  | .sarRmOne sz rm ndd nf => Sys2Proof.Machine.execSarRmOne sz rm ndd nf s
  | .sarRmCl sz rm ndd nf => Sys2Proof.Machine.execSarRmCl sz rm ndd nf s
  | .sarx sz reg rm v => Sys2Proof.Machine.execSarx sz reg rm v s
  | .sbbRmR sz rm reg ndd => Sys2Proof.Machine.execSbbRmR sz rm reg ndd s
  | .sbbRRm sz reg rm ndd => Sys2Proof.Machine.execSbbRRm sz reg rm ndd s
  | .sbbRmImm rm imm ndd => Sys2Proof.Machine.execSbbRmImm rm imm ndd s
  | .sbbRmI8 sz rm imm ndd => Sys2Proof.Machine.execSbbRmI8 sz rm imm ndd s
  | .sha1msg1 x src => Sys2Proof.Machine.execSha1msg1 x src s
  | .sha1msg2 x src => Sys2Proof.Machine.execSha1msg2 x src s
  | .sha1nexte x src => Sys2Proof.Machine.execSha1nexte x src s
  | .sha1rnds4 x src imm => Sys2Proof.Machine.execSha1rnds4 x src imm s
  | .sha256msg1 x src => Sys2Proof.Machine.execSha256msg1 x src s
  | .sha256msg2 x src => Sys2Proof.Machine.execSha256msg2 x src s
  | .sha256rnds2 x src => Sys2Proof.Machine.execSha256rnds2 x src s
  | .shlRmI8 alt sz rm imm ndd nf => Sys2Proof.Machine.execShlRmI8 alt sz rm imm ndd nf s
  | .shlRmOne alt sz rm ndd nf => Sys2Proof.Machine.execShlRmOne alt sz rm ndd nf s
  | .shlRmCl alt sz rm ndd nf => Sys2Proof.Machine.execShlRmCl alt sz rm ndd nf s
  | .shldRmRI8 sz rm reg imm ndd nf => Sys2Proof.Machine.execShldRmRI8 sz rm reg imm ndd nf s
  | .shldRmRCl sz rm reg ndd nf => Sys2Proof.Machine.execShldRmRCl sz rm reg ndd nf s
  | .shlx sz reg rm v => Sys2Proof.Machine.execShlx sz reg rm v s
  | .shrRmI8 sz rm imm ndd nf => Sys2Proof.Machine.execShrRmI8 sz rm imm ndd nf s
  | .shrRmOne sz rm ndd nf => Sys2Proof.Machine.execShrRmOne sz rm ndd nf s
  | .shrRmCl sz rm ndd nf => Sys2Proof.Machine.execShrRmCl sz rm ndd nf s
  | .shrdRmRI8 sz rm reg imm ndd nf => Sys2Proof.Machine.execShrdRmRI8 sz rm reg imm ndd nf s
  | .shrdRmRCl sz rm reg ndd nf => Sys2Proof.Machine.execShrdRmRCl sz rm reg ndd nf s
  | .shrx sz reg rm v => Sys2Proof.Machine.execShrx sz reg rm v s
  | .sttilecfg m => Sys2Proof.Machine.execSttilecfg m s
  | .subRmR sz rm reg ndd nf => Sys2Proof.Machine.execSubRmR sz rm reg ndd nf s
  | .subRRm sz reg rm ndd nf => Sys2Proof.Machine.execSubRRm sz reg rm ndd nf s
  | .subRmImm rm imm ndd nf => Sys2Proof.Machine.execSubRmImm rm imm ndd nf s
  | .subRmI8 sz rm imm ndd nf => Sys2Proof.Machine.execSubRmI8 sz rm imm ndd nf s
  | .tileloadd t m => Sys2Proof.Machine.execTileloadd t m s
  | .tileloaddt1 t m => Sys2Proof.Machine.execTileloaddt1 t m s
  | .tilestored m t => Sys2Proof.Machine.execTilestored m t s
  | .tzcnt sz reg rm nf => Sys2Proof.Machine.execTzcnt sz reg rm nf s
  | .wrssd m reg => Sys2Proof.Machine.execWrssd m reg s
  | .wrssq m reg => Sys2Proof.Machine.execWrssq m reg s
  | .wrussd m reg => Sys2Proof.Machine.execWrussd m reg s
  | .wrussq m reg => Sys2Proof.Machine.execWrussq m reg s
  | .xorRmR sz rm reg ndd nf => Sys2Proof.Machine.execXorRmR sz rm reg ndd nf s
  | .xorRRm sz reg rm ndd nf => Sys2Proof.Machine.execXorRRm sz reg rm ndd nf s
  | .xorRmImm rm imm ndd nf => Sys2Proof.Machine.execXorRmImm rm imm ndd nf s
  | .xorRmI8 sz rm imm ndd nf => Sys2Proof.Machine.execXorRmI8 sz rm imm ndd nf s
  | .ccmpRmR scc dfv sz rm reg => Sys2Proof.Machine.execCcmpRmR scc dfv sz rm reg s
  | .ccmpRRm scc dfv sz reg rm => Sys2Proof.Machine.execCcmpRRm scc dfv sz reg rm s
  | .ccmpRmImm scc dfv rm imm => Sys2Proof.Machine.execCcmpRmImm scc dfv rm imm s
  | .ccmpRmI8 scc dfv sz rm imm => Sys2Proof.Machine.execCcmpRmI8 scc dfv sz rm imm s
  | .cfcmovLoad cc sz reg rm => Sys2Proof.Machine.execCfcmovLoad cc sz reg rm s
  | .cfcmovReg cc sz b reg => Sys2Proof.Machine.execCfcmovReg cc sz b reg s
  | .cfcmovStore cc sz m reg => Sys2Proof.Machine.execCfcmovStore cc sz m reg s
  | .cfcmovNdd cc sz v reg rm => Sys2Proof.Machine.execCfcmovNdd cc sz v reg rm s
  | .ctestRmR scc dfv sz rm reg => Sys2Proof.Machine.execCtestRmR scc dfv sz rm reg s
  | .ctestRmImm scc dfv alt rm imm => Sys2Proof.Machine.execCtestRmImm scc dfv alt rm imm s
  | .setcc cc rm zu => Sys2Proof.Machine.execSetcc cc rm zu s
  | .pop2 v b => Sys2Proof.Machine.execPop2 v b s
  | .pop2p v b => Sys2Proof.Machine.execPop2p v b s
  | .push2 v b => Sys2Proof.Machine.execPush2 v b s
  | .push2p v b => Sys2Proof.Machine.execPush2p v b s
  | .rex2AddRmR sz rm reg => Sys2Proof.Machine.execRex2AddRmR sz rm reg s
  | .rex2AddRRm sz reg rm => Sys2Proof.Machine.execRex2AddRRm sz reg rm s
  | .rex2AddRmImm rm imm => Sys2Proof.Machine.execRex2AddRmImm rm imm s
  | .rex2AddRmI8 sz rm imm => Sys2Proof.Machine.execRex2AddRmI8 sz rm imm s
  | .rex2OrRmR sz rm reg => Sys2Proof.Machine.execRex2OrRmR sz rm reg s
  | .rex2OrRRm sz reg rm => Sys2Proof.Machine.execRex2OrRRm sz reg rm s
  | .rex2OrRmImm rm imm => Sys2Proof.Machine.execRex2OrRmImm rm imm s
  | .rex2OrRmI8 sz rm imm => Sys2Proof.Machine.execRex2OrRmI8 sz rm imm s
  | .rex2AdcRmR sz rm reg => Sys2Proof.Machine.execRex2AdcRmR sz rm reg s
  | .rex2AdcRRm sz reg rm => Sys2Proof.Machine.execRex2AdcRRm sz reg rm s
  | .rex2AdcRmImm rm imm => Sys2Proof.Machine.execRex2AdcRmImm rm imm s
  | .rex2AdcRmI8 sz rm imm => Sys2Proof.Machine.execRex2AdcRmI8 sz rm imm s
  | .rex2SbbRmR sz rm reg => Sys2Proof.Machine.execRex2SbbRmR sz rm reg s
  | .rex2SbbRRm sz reg rm => Sys2Proof.Machine.execRex2SbbRRm sz reg rm s
  | .rex2SbbRmImm rm imm => Sys2Proof.Machine.execRex2SbbRmImm rm imm s
  | .rex2SbbRmI8 sz rm imm => Sys2Proof.Machine.execRex2SbbRmI8 sz rm imm s
  | .rex2AndRmR sz rm reg => Sys2Proof.Machine.execRex2AndRmR sz rm reg s
  | .rex2AndRRm sz reg rm => Sys2Proof.Machine.execRex2AndRRm sz reg rm s
  | .rex2AndRmImm rm imm => Sys2Proof.Machine.execRex2AndRmImm rm imm s
  | .rex2AndRmI8 sz rm imm => Sys2Proof.Machine.execRex2AndRmI8 sz rm imm s
  | .rex2SubRmR sz rm reg => Sys2Proof.Machine.execRex2SubRmR sz rm reg s
  | .rex2SubRRm sz reg rm => Sys2Proof.Machine.execRex2SubRRm sz reg rm s
  | .rex2SubRmImm rm imm => Sys2Proof.Machine.execRex2SubRmImm rm imm s
  | .rex2SubRmI8 sz rm imm => Sys2Proof.Machine.execRex2SubRmI8 sz rm imm s
  | .rex2XorRmR sz rm reg => Sys2Proof.Machine.execRex2XorRmR sz rm reg s
  | .rex2XorRRm sz reg rm => Sys2Proof.Machine.execRex2XorRRm sz reg rm s
  | .rex2XorRmImm rm imm => Sys2Proof.Machine.execRex2XorRmImm rm imm s
  | .rex2XorRmI8 sz rm imm => Sys2Proof.Machine.execRex2XorRmI8 sz rm imm s
  | .rex2CmpRmR sz rm reg => Sys2Proof.Machine.execRex2CmpRmR sz rm reg s
  | .rex2CmpRRm sz reg rm => Sys2Proof.Machine.execRex2CmpRRm sz reg rm s
  | .rex2CmpRmImm rm imm => Sys2Proof.Machine.execRex2CmpRmImm rm imm s
  | .rex2CmpRmI8 sz rm imm => Sys2Proof.Machine.execRex2CmpRmI8 sz rm imm s
  | .rex2TestRmR sz rm reg => Sys2Proof.Machine.execRex2TestRmR sz rm reg s
  | .rex2TestRmImm alt rm imm => Sys2Proof.Machine.execRex2TestRmImm alt rm imm s
  | .rex2MovRmR sz rm reg => Sys2Proof.Machine.execRex2MovRmR sz rm reg s
  | .rex2MovRRm sz reg rm => Sys2Proof.Machine.execRex2MovRRm sz reg rm s
  | .rex2MovRmImm rm imm => Sys2Proof.Machine.execRex2MovRmImm rm imm s
  | .rex2MovRImm b imm => Sys2Proof.Machine.execRex2MovRImm b imm s
  | .rex2Lea sz reg m => Sys2Proof.Machine.execRex2Lea sz reg m s
  | .rex2Movsxd sz reg rm => Sys2Proof.Machine.execRex2Movsxd sz reg rm s
  | .rex2Movzx sz src reg rm => Sys2Proof.Machine.execRex2Movzx sz src reg rm s
  | .rex2Movsx sz src reg rm => Sys2Proof.Machine.execRex2Movsx sz src reg rm s
  | .rex2ImulRRmIz reg rm imm => Sys2Proof.Machine.execRex2ImulRRmIz reg rm imm s
  | .rex2ImulRRmI8 sz reg rm imm => Sys2Proof.Machine.execRex2ImulRRmI8 sz reg rm imm s
  | .rex2ImulRRm sz reg rm => Sys2Proof.Machine.execRex2ImulRRm sz reg rm s
  | .rex2RolRmI8 sz rm imm => Sys2Proof.Machine.execRex2RolRmI8 sz rm imm s
  | .rex2RorRmI8 sz rm imm => Sys2Proof.Machine.execRex2RorRmI8 sz rm imm s
  | .rex2RclRmI8 sz rm imm => Sys2Proof.Machine.execRex2RclRmI8 sz rm imm s
  | .rex2RcrRmI8 sz rm imm => Sys2Proof.Machine.execRex2RcrRmI8 sz rm imm s
  | .rex2ShlRmI8 alt sz rm imm => Sys2Proof.Machine.execRex2ShlRmI8 alt sz rm imm s
  | .rex2ShrRmI8 sz rm imm => Sys2Proof.Machine.execRex2ShrRmI8 sz rm imm s
  | .rex2SarRmI8 sz rm imm => Sys2Proof.Machine.execRex2SarRmI8 sz rm imm s
  | .rex2RolRmOne sz rm => Sys2Proof.Machine.execRex2RolRmOne sz rm s
  | .rex2RorRmOne sz rm => Sys2Proof.Machine.execRex2RorRmOne sz rm s
  | .rex2RclRmOne sz rm => Sys2Proof.Machine.execRex2RclRmOne sz rm s
  | .rex2RcrRmOne sz rm => Sys2Proof.Machine.execRex2RcrRmOne sz rm s
  | .rex2ShlRmOne alt sz rm => Sys2Proof.Machine.execRex2ShlRmOne alt sz rm s
  | .rex2ShrRmOne sz rm => Sys2Proof.Machine.execRex2ShrRmOne sz rm s
  | .rex2SarRmOne sz rm => Sys2Proof.Machine.execRex2SarRmOne sz rm s
  | .rex2RolRmCl sz rm => Sys2Proof.Machine.execRex2RolRmCl sz rm s
  | .rex2RorRmCl sz rm => Sys2Proof.Machine.execRex2RorRmCl sz rm s
  | .rex2RclRmCl sz rm => Sys2Proof.Machine.execRex2RclRmCl sz rm s
  | .rex2RcrRmCl sz rm => Sys2Proof.Machine.execRex2RcrRmCl sz rm s
  | .rex2ShlRmCl alt sz rm => Sys2Proof.Machine.execRex2ShlRmCl alt sz rm s
  | .rex2ShrRmCl sz rm => Sys2Proof.Machine.execRex2ShrRmCl sz rm s
  | .rex2SarRmCl sz rm => Sys2Proof.Machine.execRex2SarRmCl sz rm s
  | .rex2ShldRmRI8 sz rm reg imm => Sys2Proof.Machine.execRex2ShldRmRI8 sz rm reg imm s
  | .rex2ShldRmRCl sz rm reg => Sys2Proof.Machine.execRex2ShldRmRCl sz rm reg s
  | .rex2ShrdRmRI8 sz rm reg imm => Sys2Proof.Machine.execRex2ShrdRmRI8 sz rm reg imm s
  | .rex2ShrdRmRCl sz rm reg => Sys2Proof.Machine.execRex2ShrdRmRCl sz rm reg s
  | .rex2NotRm sz rm => Sys2Proof.Machine.execRex2NotRm sz rm s
  | .rex2NegRm sz rm => Sys2Proof.Machine.execRex2NegRm sz rm s
  | .rex2MulRm sz rm => Sys2Proof.Machine.execRex2MulRm sz rm s
  | .rex2ImulRm sz rm => Sys2Proof.Machine.execRex2ImulRm sz rm s
  | .rex2DivRm sz rm => Sys2Proof.Machine.execRex2DivRm sz rm s
  | .rex2IdivRm sz rm => Sys2Proof.Machine.execRex2IdivRm sz rm s
  | .rex2IncRm sz rm => Sys2Proof.Machine.execRex2IncRm sz rm s
  | .rex2DecRm sz rm => Sys2Proof.Machine.execRex2DecRm sz rm s
  | .rex2Cmov cc sz reg rm => Sys2Proof.Machine.execRex2Cmov cc sz reg rm s
  | .rex2Setcc cc rm => Sys2Proof.Machine.execRex2Setcc cc rm s
  | .rex2PushRm rm => Sys2Proof.Machine.execRex2PushRm rm s
  | .rex2PopRm rm => Sys2Proof.Machine.execRex2PopRm rm s
  | .rex2PushR b => Sys2Proof.Machine.execRex2PushR b s
  | .rex2Pushp b => Sys2Proof.Machine.execRex2Pushp b s
  | .rex2PopR b => Sys2Proof.Machine.execRex2PopR b s
  | .rex2Popp b => Sys2Proof.Machine.execRex2Popp b s
  | .jmpabs target => Sys2Proof.Machine.execJmpabs target s

end Sys2Proof.Machine
end

