-- ==== Sys2Proof/Machine/Fetch.lean ====
section
/-! DEFINITION. Fetching an instruction's bytes, what stops a fetch, what a refused encoding does, and the advance of the
instruction pointer (70_reset_and_hazards.md R495, R496; 20_memory.md R83, R87). -/
namespace Sys2Proof.Machine

/-- The most bytes an instruction has (20_memory.md R83). -/
def maxLength : Nat := 15

/-- What fetching the i-th byte raises: #GP(0) where the instruction pointer has wrapped, would wrap or is not canonical,
#PF where the oracle refuses the fetch (20_memory.md R72, R87, 70_reset_and_hazards.md R496). -/
def fetchFault (s : State) (i : Nat) : Option Exc :=
  if s.ripWrapped then some .gp
  else if 2 ^ 64 ≤ s.rip.toNat + i then some .gp
  else if canonical s.params.laWidth (s.rip + BitVec.ofNat 64 i) = false then some .gp
  else (translateByte s.params.pageFaults .fetch (s.rip.toNat + i)).map .pf

/-- At most `n` instruction bytes from byte `i` on, and what stopped the fetch if it stopped early. -/
def fetchBytes (s : State) (i : Nat) : Nat → List Byte × Option Exc
  | 0 => ([], none)
  | n + 1 =>
    match fetchFault s i with
    | some e => ([], some e)
    | none =>
      let rest := fetchBytes s (i + 1) n
      (memRead s.mem (s.rip.toNat + i) :: rest.1, rest.2)

/-- Whether a refused encoding is an APX instruction in the sense of 10_state.md R37, which #UD stops while APX is not
enabled. -/
def refusalUsesApx : DecodeRefusal → Bool
  | .notApx => false
  | .existingEvex usesApx => usesApx
  | .rex2Outside => true
  | .repBeforeRex2 => true
  | .lockBeforeRex2 => true
  | .operandSize16 => true
  | .unlistedVex => true
  | .movSystemReg _ _ => true

/-- The refusal of an encoding outside the model. -/
def refusalOf : DecodeRefusal → Refusal
  | .notApx => .notApxInstruction
  | .existingEvex _ => .existingEvex
  | .rex2Outside => .rex2OutsideSubset
  | .repBeforeRex2 => .repBeforeRex2
  | .lockBeforeRex2 => .lockBeforeRex2
  | .operandSize16 => .operandSize16
  | .unlistedVex => .unlistedVex
  | .movSystemReg _ _ => .rex2OutsideSubset

/-- REX2 MOV to or from a control or debug register that does not exist (10_state.md R42). -/
def namesAbsentRegister (p : Params) : DecodeRefusal → Bool
  | .notApx => false
  | .existingEvex _ => false
  | .rex2Outside => false
  | .repBeforeRex2 => false
  | .lockBeforeRex2 => false
  | .operandSize16 => false
  | .unlistedVex => false
  | .movSystemReg false id => !p.controlRegs.contains id
  | .movSystemReg true id => !p.debugRegs.contains id

/-- What a refused encoding does: #UD when it is an APX instruction and APX is not enabled (60_exceptions.md R437), #UD
when it names a control or debug register that does not exist (10_state.md R42), else the run ends as `Unsupported`
(70_reset_and_hazards.md R495). -/
def refuse (s : State) (r : DecodeRefusal) : Result :=
  if refusalUsesApx r && !s.apxEnabled then takeException .ud
  else if namesAbsentRegister s.params r then takeException .ud
  else .refused (refusalOf r)

/-- What ends an instruction whose bytes are not all there: the fault of the fetch, or #GP(0) for an instruction of
more than 15 bytes (20_memory.md R83, 60_exceptions.md R432). -/
def truncatedFault (fetch : Option Exc) : Exc := fetch.getD .gp

/-- The state a meaning starts from: the instruction pointer is past the instruction (70_reset_and_hazards.md R495,
R496), and the model's counter of free values has moved on. -/
def State.advance (s : State) (len : Nat) : State :=
  { s with
    rip := s.rip + BitVec.ofNat 64 len
    ripWrapped := decide (2 ^ 64 ≤ s.rip.toNat + len)
    free := s.free + 1 }

/-- Stores bytes at the instruction pointer and enables APX: what a program loader and the operating system have done
before an APX instruction runs (70_reset_and_hazards.md R493, R494; notes/assumptions/4.md). -/
def State.placeCode (s : State) (bytes : List Byte) : State :=
  { s with
    mem := writeBytes s.mem s.rip bytes
    ctrl := { s.ctrl with cr4Osxsave := true, xcr0Apx := true } }

end Sys2Proof.Machine
end

