-- ==== Sys2Proof/Machine/Step.lean ====
section
/-! DEFINITION. One step of the machine (70_reset_and_hazards.md R495, R497). -/
namespace Sys2Proof.Machine
open Host

/-- The outcome of what the bytes at the instruction pointer decode to: an instruction runs with the instruction pointer
past it; #UD, missing bytes and refused encodings end the run. -/
def runDecoded (s : State) (bytes : List Byte) (fetch : Option Exc) (d : Decoded) :
    Host.Outcome State Fault Refusal :=
  match d with
  | .ok i rest => exec i (s.advance (bytes.length - rest.length))
  | .ud => takeException .ud
  | .truncated => takeException (truncatedFault fetch)
  | .refused r => refuse s r

/-- One step: the stop address, the fetch, the decoder, the meaning (70_reset_and_hazards.md R495, R497). -/
def step (s : State) : Host.Outcome State Fault Refusal :=
  if s.params.stopAddress = some s.rip then .fault .stopAddress
  else runDecoded s (fetchBytes s 0 maxLength).1 (fetchBytes s 0 maxLength).2
    (decode (fetchBytes s 0 maxLength).1)

/-- The state with the instruction of a table word placed where the next step fetches, and APX enabled
(notes/assumptions/4.md). -/
def State.withFetchWord (s : State) (nbits w : Nat) : State := s.placeCode (tableBytes nbits w)

end Sys2Proof.Machine
end

