-- ==== Sys2Proof/Footprint.lean ====
section
/-! DEFINITION. The footprint of every instruction: the registers, flags, bytes and other state it may change. The frame
statements say that nothing else changes. -/
namespace Sys2Proof.Machine

/-- What an instruction may change. `flags` marks the status flags; `stores` holds the first address and the number of
bytes of every store; `rip` says whether the instruction writes RIP itself. -/
structure Footprint where
  gprs   : List RegId
  flags  : Flags
  stores : List (Word × Nat)
  ks     : List (BitVec 3)
  xmms   : List (BitVec 4)
  tile   : Bool
  inputs : Bool
  rip    : Bool
  deriving DecidableEq, Repr

/-- Nothing changes. -/
def Footprint.none : Footprint := ⟨[], Flags.clear, [], [], [], false, false, false⟩

/-- All six flags (10_state.md R31). -/
def Flags.all : Flags := ⟨true, true, true, true, true, true⟩

/-- The flags an instruction with an NF bit writes (10_state.md R32). -/
def flagsUnless (nf : Bool) (f : Flags) : Flags := if nf then Flags.clear else f

/-- INC and DEC keep CF (40_alu.md R188, R189). -/
def Flags.butCf : Flags := { Flags.all with cf := false }

/-- Rotates write CF and OF alone (41_shift_rotate.md R222 to R225). -/
def Flags.cfOf : Flags := { Flags.clear with cf := true, of := true }

/-- The flags of an arithmetic operation on one operand: NOT writes none. -/
def unaryFlags : UnOp → Flags
  | .inc => Flags.butCf
  | .dec => Flags.butCf
  | .neg => Flags.all
  | .not => Flags.clear

/-- The flags of a shift or rotate. -/
def shiftOpFlags : ShiftOp → Flags
  | .rcl => Flags.cfOf
  | .rcr => Flags.cfOf
  | .rol => Flags.cfOf
  | .ror => Flags.cfOf
  | .sar => Flags.all
  | .shl => Flags.all
  | .shr => Flags.all

/-- The register a destination names. -/
def dstGprs : Dst → List RegId
  | .reg i _ => [i]
  | .mem _ => []

/-- The bytes a destination names. -/
def dstStores (s : State) (N : Nat) : Dst → List (Word × Nat)
  | .reg _ _ => []
  | .mem m => [(linAddr s m, N / 8)]

/-- A result of N bits to a destination, and flags. -/
def Footprint.dst (s : State) (N : Nat) (d : Dst) (f : Flags) : Footprint :=
  { Footprint.none with gprs := dstGprs d, stores := dstStores s N d, flags := f }

/-- GPRs and flags. -/
def Footprint.regs (l : List RegId) (f : Flags) : Footprint := { Footprint.none with gprs := l, flags := f }

/-- One store of n bytes. -/
def Footprint.store (a : Word) (n : Nat) : Footprint := { Footprint.none with stores := [(a, n)] }

/-- The implicit destinations of MUL, IMUL, DIV and IDIV: RAX, and RDX unless N is 8 (42_muldiv_misc.md R253, R260). -/
def wideGprs (N : Nat) : List RegId := if N = 8 then [0] else [0, 2]

/-- The rows of a tile store. -/
def rowStores (s : State) (m : Mem) (colsb i : Nat) : Nat → List (Word × Nat)
  | 0 => []
  | n + 1 => (tileRowAddr s m i, colsb) :: rowStores s m colsb (i + 1) n

/-- The footprint of an instruction in a state whose instruction pointer is already past it. -/
def footprint (s : State) : Instr → Footprint
  | .adcRmR sz rm _ ndd => .dst s sz.bits (dstRM rm ndd) (flagsUnless false Flags.all)
  | .adcRRm sz reg _ ndd => .dst s sz.bits (dstReg reg ndd) (flagsUnless false Flags.all)
  | .adcRmImm rm imm ndd => .dst s imm.bits (dstRM rm ndd) (flagsUnless false Flags.all)
  | .adcRmI8 sz rm _ ndd => .dst s sz.bits (dstRM rm ndd) (flagsUnless false Flags.all)
  | .adcx sz reg _ ndd => .dst s sz.bits (dstReg reg ndd) { Flags.clear with cf := true }
  | .addRmR sz rm _ ndd nf => .dst s sz.bits (dstRM rm ndd) (flagsUnless nf Flags.all)
  | .addRRm sz reg _ ndd nf => .dst s sz.bits (dstReg reg ndd) (flagsUnless nf Flags.all)
  | .addRmImm rm imm ndd nf => .dst s imm.bits (dstRM rm ndd) (flagsUnless nf Flags.all)
  | .addRmI8 sz rm _ ndd nf => .dst s sz.bits (dstRM rm ndd) (flagsUnless nf Flags.all)
  | .adox sz reg _ ndd => .dst s sz.bits (dstReg reg ndd) { Flags.clear with of := true }
  | .aesdec128kl x _ => { Footprint.none with xmms := [x], flags := Flags.all }
  | .aesdec256kl x _ => { Footprint.none with xmms := [x], flags := Flags.all }
  | .aesdecwide128kl _ => { Footprint.none with xmms := [0, 1, 2, 3, 4, 5, 6, 7], flags := Flags.all }
  | .aesdecwide256kl _ => { Footprint.none with xmms := [0, 1, 2, 3, 4, 5, 6, 7], flags := Flags.all }
  | .aesenc128kl x _ => { Footprint.none with xmms := [x], flags := Flags.all }
  | .aesenc256kl x _ => { Footprint.none with xmms := [x], flags := Flags.all }
  | .aesencwide128kl _ => { Footprint.none with xmms := [0, 1, 2, 3, 4, 5, 6, 7], flags := Flags.all }
  | .aesencwide256kl _ => { Footprint.none with xmms := [0, 1, 2, 3, 4, 5, 6, 7], flags := Flags.all }
  | .andRmR sz rm _ ndd nf => .dst s sz.bits (dstRM rm ndd) (flagsUnless nf Flags.all)
  | .andRRm sz reg _ ndd nf => .dst s sz.bits (dstReg reg ndd) (flagsUnless nf Flags.all)
  | .andRmImm rm imm ndd nf => .dst s imm.bits (dstRM rm ndd) (flagsUnless nf Flags.all)
  | .andRmI8 sz rm _ ndd nf => .dst s sz.bits (dstRM rm ndd) (flagsUnless nf Flags.all)
  | .andn _ reg _ _ nf => .regs [reg] (flagsUnless nf Flags.all)
  | .bextr _ reg _ _ nf => .regs [reg] (flagsUnless nf Flags.all)
  | .blsi _ v _ nf => .regs [v] (flagsUnless nf Flags.all)
  | .blsmsk _ v _ nf => .regs [v] (flagsUnless nf Flags.all)
  | .blsr _ v _ nf => .regs [v] (flagsUnless nf Flags.all)
  | .bzhi _ reg _ _ nf => .regs [reg] (flagsUnless nf Flags.all)
  | .cmov _ _ v _ _ => .regs [v] Flags.clear
  | .cmpccxadd _ sz m reg _ => { Footprint.store (linAddr s m) (sz.bits / 8) with gprs := [reg], flags := Flags.all }
  | .crc32Rm8 _ reg _ => .regs [reg] Flags.clear
  | .crc32Rm _ reg _ => .regs [reg] Flags.clear
  | .decRm sz rm ndd nf => .dst s sz.bits (dstRM rm ndd) (flagsUnless nf (unaryFlags .dec))
  | .divRm sz _ nf => .regs (wideGprs sz.bits) (flagsUnless nf Flags.all)
  | .encodekey128 reg _ => { Footprint.regs [reg] Flags.all with xmms := [0, 1, 2, 4, 5, 6] }
  | .encodekey256 reg _ => { Footprint.regs [reg] Flags.all with xmms := [0, 1, 2, 3, 4, 5, 6] }
  | .enqcmd _ _ => { Footprint.regs [] Flags.all with inputs := true }
  | .enqcmds _ _ => { Footprint.regs [] Flags.all with inputs := true }
  | .idivRm sz _ nf => .regs (wideGprs sz.bits) (flagsUnless nf Flags.all)
  | .imulRRmIz reg _ imm zu nf => .dst s imm.bits (.reg reg zu) (flagsUnless nf Flags.all)
  | .imulRRmI8 sz reg _ _ zu nf => .dst s sz.bits (.reg reg zu) (flagsUnless nf Flags.all)
  | .imulRRm sz reg _ ndd nf => .dst s sz.bits (dstReg reg ndd) (flagsUnless nf Flags.all)
  | .imulRm sz _ nf => .regs (wideGprs sz.bits) (flagsUnless nf Flags.all)
  | .incRm sz rm ndd nf => .dst s sz.bits (dstRM rm ndd) (flagsUnless nf (unaryFlags .inc))
  | .invept _ _ => .regs [] Flags.all
  | .invpcid _ _ => .none
  | .invvpid _ _ => .regs [] Flags.all
  | .kmovbKKm k _ => { Footprint.none with ks := [k.id] }
  | .kmovbKR k _ => { Footprint.none with ks := [k.id] }
  | .kmovbRK reg _ => .regs [reg] Flags.clear
  | .kmovbMK m _ => .store (linAddr s m) (8 / 8)
  | .kmovdRK reg _ => .regs [reg] Flags.clear
  | .kmovdKKm k _ => { Footprint.none with ks := [k.id] }
  | .kmovdKR k _ => { Footprint.none with ks := [k.id] }
  | .kmovdMK m _ => .store (linAddr s m) (32 / 8)
  | .kmovqKKm k _ => { Footprint.none with ks := [k.id] }
  | .kmovqKR k _ => { Footprint.none with ks := [k.id] }
  | .kmovqRK reg _ => .regs [reg] Flags.clear
  | .kmovqMK m _ => .store (linAddr s m) (64 / 8)
  | .kmovwKKm k _ => { Footprint.none with ks := [k.id] }
  | .kmovwKR k _ => { Footprint.none with ks := [k.id] }
  | .kmovwRK reg _ => .regs [reg] Flags.clear
  | .kmovwMK m _ => .store (linAddr s m) (16 / 8)
  | .ldtilecfg _ => { Footprint.none with tile := true }
  | .lzcnt _ reg _ nf => .regs [reg] (flagsUnless nf Flags.all)
  | .movbeRRm sz reg _ => .dst s sz.bits (dstReg reg none) Flags.clear
  | .movbeRmR sz rm _ => .dst s sz.bits (dstRM rm none) Flags.clear
  | .movdir64b reg m => .store (addrReg s m.a32 reg) 64
  | .movdiri sz m _ => .store (linAddr s m) (sz.bits / 8)
  | .mulRm sz _ nf => .regs (wideGprs sz.bits) (flagsUnless nf Flags.all)
  | .mulx _ reg v _ => .regs [reg, v] Flags.clear
  | .negRm sz rm ndd nf => .dst s sz.bits (dstRM rm ndd) (flagsUnless nf (unaryFlags .neg))
  | .notRm sz rm ndd => .dst s sz.bits (dstRM rm ndd) (flagsUnless false (unaryFlags .not))
  | .orRRm sz reg _ ndd nf => .dst s sz.bits (dstReg reg ndd) (flagsUnless nf Flags.all)
  | .orRmR sz rm _ ndd nf => .dst s sz.bits (dstRM rm ndd) (flagsUnless nf Flags.all)
  | .orRmImm rm imm ndd nf => .dst s imm.bits (dstRM rm ndd) (flagsUnless nf Flags.all)
  | .orRmI8 sz rm _ ndd nf => .dst s sz.bits (dstRM rm ndd) (flagsUnless nf Flags.all)
  | .pdep _ reg _ _ => .regs [reg] Flags.clear
  | .pext _ reg _ _ => .regs [reg] Flags.clear
  | .popcnt _ reg _ nf => .regs [reg] (flagsUnless nf Flags.all)
  | .rclRmI8 sz rm _ ndd => .dst s sz.bits (dstRM rm ndd) (flagsUnless false (shiftOpFlags .rcl))
  | .rclRmOne sz rm ndd => .dst s sz.bits (dstRM rm ndd) (flagsUnless false (shiftOpFlags .rcl))
  | .rclRmCl sz rm ndd => .dst s sz.bits (dstRM rm ndd) (flagsUnless false (shiftOpFlags .rcl))
  | .rcrRmI8 sz rm _ ndd => .dst s sz.bits (dstRM rm ndd) (flagsUnless false (shiftOpFlags .rcr))
  | .rcrRmOne sz rm ndd => .dst s sz.bits (dstRM rm ndd) (flagsUnless false (shiftOpFlags .rcr))
  | .rcrRmCl sz rm ndd => .dst s sz.bits (dstRM rm ndd) (flagsUnless false (shiftOpFlags .rcr))
  | .rolRmI8 sz rm _ ndd nf => .dst s sz.bits (dstRM rm ndd) (flagsUnless nf (shiftOpFlags .rol))
  | .rolRmOne sz rm ndd nf => .dst s sz.bits (dstRM rm ndd) (flagsUnless nf (shiftOpFlags .rol))
  | .rolRmCl sz rm ndd nf => .dst s sz.bits (dstRM rm ndd) (flagsUnless nf (shiftOpFlags .rol))
  | .rorRmI8 sz rm _ ndd nf => .dst s sz.bits (dstRM rm ndd) (flagsUnless nf (shiftOpFlags .ror))
  | .rorRmOne sz rm ndd nf => .dst s sz.bits (dstRM rm ndd) (flagsUnless nf (shiftOpFlags .ror))
  | .rorRmCl sz rm ndd nf => .dst s sz.bits (dstRM rm ndd) (flagsUnless nf (shiftOpFlags .ror))
  | .rorx _ reg _ _ => .regs [reg] Flags.clear
  | .sarRmI8 sz rm _ ndd nf => .dst s sz.bits (dstRM rm ndd) (flagsUnless nf (shiftOpFlags .sar))
  | .sarRmOne sz rm ndd nf => .dst s sz.bits (dstRM rm ndd) (flagsUnless nf (shiftOpFlags .sar))
  | .sarRmCl sz rm ndd nf => .dst s sz.bits (dstRM rm ndd) (flagsUnless nf (shiftOpFlags .sar))
  | .sarx _ reg _ _ => .regs [reg] Flags.clear
  | .sbbRmR sz rm _ ndd => .dst s sz.bits (dstRM rm ndd) (flagsUnless false Flags.all)
  | .sbbRRm sz reg _ ndd => .dst s sz.bits (dstReg reg ndd) (flagsUnless false Flags.all)
  | .sbbRmImm rm imm ndd => .dst s imm.bits (dstRM rm ndd) (flagsUnless false Flags.all)
  | .sbbRmI8 sz rm _ ndd => .dst s sz.bits (dstRM rm ndd) (flagsUnless false Flags.all)
  | .sha1msg1 x _ => { Footprint.none with xmms := [x] }
  | .sha1msg2 x _ => { Footprint.none with xmms := [x] }
  | .sha1nexte x _ => { Footprint.none with xmms := [x] }
  | .sha1rnds4 x _ _ => { Footprint.none with xmms := [x] }
  | .sha256msg1 x _ => { Footprint.none with xmms := [x] }
  | .sha256msg2 x _ => { Footprint.none with xmms := [x] }
  | .sha256rnds2 x _ => { Footprint.none with xmms := [x] }
  | .shlRmI8 _ sz rm _ ndd nf => .dst s sz.bits (dstRM rm ndd) (flagsUnless nf (shiftOpFlags .shl))
  | .shlRmOne _ sz rm ndd nf => .dst s sz.bits (dstRM rm ndd) (flagsUnless nf (shiftOpFlags .shl))
  | .shlRmCl _ sz rm ndd nf => .dst s sz.bits (dstRM rm ndd) (flagsUnless nf (shiftOpFlags .shl))
  | .shldRmRI8 sz rm _ _ ndd nf => .dst s sz.bits (dstRM rm ndd) (flagsUnless nf Flags.all)
  | .shldRmRCl sz rm _ ndd nf => .dst s sz.bits (dstRM rm ndd) (flagsUnless nf Flags.all)
  | .shlx _ reg _ _ => .regs [reg] Flags.clear
  | .shrRmI8 sz rm _ ndd nf => .dst s sz.bits (dstRM rm ndd) (flagsUnless nf (shiftOpFlags .shr))
  | .shrRmOne sz rm ndd nf => .dst s sz.bits (dstRM rm ndd) (flagsUnless nf (shiftOpFlags .shr))
  | .shrRmCl sz rm ndd nf => .dst s sz.bits (dstRM rm ndd) (flagsUnless nf (shiftOpFlags .shr))
  | .shrdRmRI8 sz rm _ _ ndd nf => .dst s sz.bits (dstRM rm ndd) (flagsUnless nf Flags.all)
  | .shrdRmRCl sz rm _ ndd nf => .dst s sz.bits (dstRM rm ndd) (flagsUnless nf Flags.all)
  | .shrx _ reg _ _ => .regs [reg] Flags.clear
  | .sttilecfg m => .store (linAddr s m) 64
  | .subRmR sz rm _ ndd nf => .dst s sz.bits (dstRM rm ndd) (flagsUnless nf Flags.all)
  | .subRRm sz reg _ ndd nf => .dst s sz.bits (dstReg reg ndd) (flagsUnless nf Flags.all)
  | .subRmImm rm imm ndd nf => .dst s imm.bits (dstRM rm ndd) (flagsUnless nf Flags.all)
  | .subRmI8 sz rm _ ndd nf => .dst s sz.bits (dstRM rm ndd) (flagsUnless nf Flags.all)
  | .tileloadd _ _ => { Footprint.none with tile := true }
  | .tileloaddt1 _ _ => { Footprint.none with tile := true }
  | .tilestored m t => { Footprint.none with
      stores := rowStores s m (s.tileShape t.id).colsb 0 (s.tileShape t.id).rows }
  | .tzcnt _ reg _ nf => .regs [reg] (flagsUnless nf Flags.all)
  | .wrssd m _ => .store (linAddr s m) (32 / 8)
  | .wrssq m _ => .store (linAddr s m) (64 / 8)
  | .wrussd m _ => .store (linAddr s m) (32 / 8)
  | .wrussq m _ => .store (linAddr s m) (64 / 8)
  | .xorRmR sz rm _ ndd nf => .dst s sz.bits (dstRM rm ndd) (flagsUnless nf Flags.all)
  | .xorRRm sz reg _ ndd nf => .dst s sz.bits (dstReg reg ndd) (flagsUnless nf Flags.all)
  | .xorRmImm rm imm ndd nf => .dst s imm.bits (dstRM rm ndd) (flagsUnless nf Flags.all)
  | .xorRmI8 sz rm _ ndd nf => .dst s sz.bits (dstRM rm ndd) (flagsUnless nf Flags.all)
  | .ccmpRmR _ _ _ _ _ => .regs [] Flags.all
  | .ccmpRRm _ _ _ _ _ => .regs [] Flags.all
  | .ccmpRmImm _ _ _ _ => .regs [] Flags.all
  | .ccmpRmI8 _ _ _ _ _ => .regs [] Flags.all
  | .cfcmovLoad _ _ reg _ => .regs [reg] Flags.clear
  | .cfcmovReg _ _ b _ => .regs [b] Flags.clear
  | .cfcmovStore _ sz m _ => .store (linAddr s m) (sz.bits / 8)
  | .cfcmovNdd _ _ v _ _ => .regs [v] Flags.clear
  | .ctestRmR _ _ _ _ _ => .regs [] Flags.all
  | .ctestRmImm _ _ _ _ _ => .regs [] Flags.all
  | .setcc _ rm _ => .dst s 8 (dstRM rm none) Flags.clear
  | .pop2 v b => .regs [v, b, 4] Flags.clear
  | .pop2p v b => .regs [v, b, 4] Flags.clear
  | .push2 _ _ => { Footprint.none with gprs := [4], stores := [(s.rsp - 8, 8), (s.rsp - 16, 8)] }
  | .push2p _ _ => { Footprint.none with gprs := [4], stores := [(s.rsp - 8, 8), (s.rsp - 16, 8)] }
  | .rex2AddRmR sz rm _ => .dst s sz.bits (dstRM rm none) (flagsUnless false Flags.all)
  | .rex2AddRRm sz reg _ => .dst s sz.bits (dstReg reg none) (flagsUnless false Flags.all)
  | .rex2AddRmImm rm imm => .dst s imm.bits (dstRM rm none) (flagsUnless false Flags.all)
  | .rex2AddRmI8 sz rm _ => .dst s sz.bits (dstRM rm none) (flagsUnless false Flags.all)
  | .rex2OrRmR sz rm _ => .dst s sz.bits (dstRM rm none) (flagsUnless false Flags.all)
  | .rex2OrRRm sz reg _ => .dst s sz.bits (dstReg reg none) (flagsUnless false Flags.all)
  | .rex2OrRmImm rm imm => .dst s imm.bits (dstRM rm none) (flagsUnless false Flags.all)
  | .rex2OrRmI8 sz rm _ => .dst s sz.bits (dstRM rm none) (flagsUnless false Flags.all)
  | .rex2AdcRmR sz rm _ => .dst s sz.bits (dstRM rm none) (flagsUnless false Flags.all)
  | .rex2AdcRRm sz reg _ => .dst s sz.bits (dstReg reg none) (flagsUnless false Flags.all)
  | .rex2AdcRmImm rm imm => .dst s imm.bits (dstRM rm none) (flagsUnless false Flags.all)
  | .rex2AdcRmI8 sz rm _ => .dst s sz.bits (dstRM rm none) (flagsUnless false Flags.all)
  | .rex2SbbRmR sz rm _ => .dst s sz.bits (dstRM rm none) (flagsUnless false Flags.all)
  | .rex2SbbRRm sz reg _ => .dst s sz.bits (dstReg reg none) (flagsUnless false Flags.all)
  | .rex2SbbRmImm rm imm => .dst s imm.bits (dstRM rm none) (flagsUnless false Flags.all)
  | .rex2SbbRmI8 sz rm _ => .dst s sz.bits (dstRM rm none) (flagsUnless false Flags.all)
  | .rex2AndRmR sz rm _ => .dst s sz.bits (dstRM rm none) (flagsUnless false Flags.all)
  | .rex2AndRRm sz reg _ => .dst s sz.bits (dstReg reg none) (flagsUnless false Flags.all)
  | .rex2AndRmImm rm imm => .dst s imm.bits (dstRM rm none) (flagsUnless false Flags.all)
  | .rex2AndRmI8 sz rm _ => .dst s sz.bits (dstRM rm none) (flagsUnless false Flags.all)
  | .rex2SubRmR sz rm _ => .dst s sz.bits (dstRM rm none) (flagsUnless false Flags.all)
  | .rex2SubRRm sz reg _ => .dst s sz.bits (dstReg reg none) (flagsUnless false Flags.all)
  | .rex2SubRmImm rm imm => .dst s imm.bits (dstRM rm none) (flagsUnless false Flags.all)
  | .rex2SubRmI8 sz rm _ => .dst s sz.bits (dstRM rm none) (flagsUnless false Flags.all)
  | .rex2XorRmR sz rm _ => .dst s sz.bits (dstRM rm none) (flagsUnless false Flags.all)
  | .rex2XorRRm sz reg _ => .dst s sz.bits (dstReg reg none) (flagsUnless false Flags.all)
  | .rex2XorRmImm rm imm => .dst s imm.bits (dstRM rm none) (flagsUnless false Flags.all)
  | .rex2XorRmI8 sz rm _ => .dst s sz.bits (dstRM rm none) (flagsUnless false Flags.all)
  | .rex2CmpRmR _ _ _ => .regs [] Flags.all
  | .rex2CmpRRm _ _ _ => .regs [] Flags.all
  | .rex2CmpRmImm _ _ => .regs [] Flags.all
  | .rex2CmpRmI8 _ _ _ => .regs [] Flags.all
  | .rex2TestRmR _ _ _ => .regs [] Flags.all
  | .rex2TestRmImm _ _ _ => .regs [] Flags.all
  | .rex2MovRmR sz rm _ => .dst s sz.bits (dstRM rm none) Flags.clear
  | .rex2MovRRm sz reg _ => .dst s sz.bits (dstReg reg none) Flags.clear
  | .rex2MovRmImm rm imm => .dst s imm.bits (dstRM rm none) Flags.clear
  | .rex2MovRImm b imm => .dst s imm.bits (.reg b false) Flags.clear
  | .rex2Lea _ reg _ => .regs [reg] Flags.clear
  | .rex2Movsxd _ reg _ => .regs [reg] Flags.clear
  | .rex2Movzx _ _ reg _ => .regs [reg] Flags.clear
  | .rex2Movsx _ _ reg _ => .regs [reg] Flags.clear
  | .rex2ImulRRmIz reg _ imm => .dst s imm.bits (.reg reg false) (flagsUnless false Flags.all)
  | .rex2ImulRRmI8 sz reg _ _ => .dst s sz.bits (.reg reg false) (flagsUnless false Flags.all)
  | .rex2ImulRRm sz reg _ => .dst s sz.bits (.reg reg false) (flagsUnless false Flags.all)
  | .rex2RolRmI8 sz rm _ => .dst s sz.bits (dstRM rm none) (flagsUnless false (shiftOpFlags .rol))
  | .rex2RorRmI8 sz rm _ => .dst s sz.bits (dstRM rm none) (flagsUnless false (shiftOpFlags .ror))
  | .rex2RclRmI8 sz rm _ => .dst s sz.bits (dstRM rm none) (flagsUnless false (shiftOpFlags .rcl))
  | .rex2RcrRmI8 sz rm _ => .dst s sz.bits (dstRM rm none) (flagsUnless false (shiftOpFlags .rcr))
  | .rex2ShlRmI8 _ sz rm _ => .dst s sz.bits (dstRM rm none) (flagsUnless false (shiftOpFlags .shl))
  | .rex2ShrRmI8 sz rm _ => .dst s sz.bits (dstRM rm none) (flagsUnless false (shiftOpFlags .shr))
  | .rex2SarRmI8 sz rm _ => .dst s sz.bits (dstRM rm none) (flagsUnless false (shiftOpFlags .sar))
  | .rex2RolRmOne sz rm => .dst s sz.bits (dstRM rm none) (flagsUnless false (shiftOpFlags .rol))
  | .rex2RorRmOne sz rm => .dst s sz.bits (dstRM rm none) (flagsUnless false (shiftOpFlags .ror))
  | .rex2RclRmOne sz rm => .dst s sz.bits (dstRM rm none) (flagsUnless false (shiftOpFlags .rcl))
  | .rex2RcrRmOne sz rm => .dst s sz.bits (dstRM rm none) (flagsUnless false (shiftOpFlags .rcr))
  | .rex2ShlRmOne _ sz rm => .dst s sz.bits (dstRM rm none) (flagsUnless false (shiftOpFlags .shl))
  | .rex2ShrRmOne sz rm => .dst s sz.bits (dstRM rm none) (flagsUnless false (shiftOpFlags .shr))
  | .rex2SarRmOne sz rm => .dst s sz.bits (dstRM rm none) (flagsUnless false (shiftOpFlags .sar))
  | .rex2RolRmCl sz rm => .dst s sz.bits (dstRM rm none) (flagsUnless false (shiftOpFlags .rol))
  | .rex2RorRmCl sz rm => .dst s sz.bits (dstRM rm none) (flagsUnless false (shiftOpFlags .ror))
  | .rex2RclRmCl sz rm => .dst s sz.bits (dstRM rm none) (flagsUnless false (shiftOpFlags .rcl))
  | .rex2RcrRmCl sz rm => .dst s sz.bits (dstRM rm none) (flagsUnless false (shiftOpFlags .rcr))
  | .rex2ShlRmCl _ sz rm => .dst s sz.bits (dstRM rm none) (flagsUnless false (shiftOpFlags .shl))
  | .rex2ShrRmCl sz rm => .dst s sz.bits (dstRM rm none) (flagsUnless false (shiftOpFlags .shr))
  | .rex2SarRmCl sz rm => .dst s sz.bits (dstRM rm none) (flagsUnless false (shiftOpFlags .sar))
  | .rex2ShldRmRI8 sz rm _ _ => .dst s sz.bits (dstRM rm none) (flagsUnless false Flags.all)
  | .rex2ShldRmRCl sz rm _ => .dst s sz.bits (dstRM rm none) (flagsUnless false Flags.all)
  | .rex2ShrdRmRI8 sz rm _ _ => .dst s sz.bits (dstRM rm none) (flagsUnless false Flags.all)
  | .rex2ShrdRmRCl sz rm _ => .dst s sz.bits (dstRM rm none) (flagsUnless false Flags.all)
  | .rex2NotRm sz rm => .dst s sz.bits (dstRM rm none) (flagsUnless false (unaryFlags .not))
  | .rex2NegRm sz rm => .dst s sz.bits (dstRM rm none) (flagsUnless false (unaryFlags .neg))
  | .rex2MulRm sz _ => .regs (wideGprs sz.bits) (flagsUnless false Flags.all)
  | .rex2ImulRm sz _ => .regs (wideGprs sz.bits) (flagsUnless false Flags.all)
  | .rex2DivRm sz _ => .regs (wideGprs sz.bits) (flagsUnless false Flags.all)
  | .rex2IdivRm sz _ => .regs (wideGprs sz.bits) (flagsUnless false Flags.all)
  | .rex2IncRm sz rm => .dst s sz.bits (dstRM rm none) (flagsUnless false (unaryFlags .inc))
  | .rex2DecRm sz rm => .dst s sz.bits (dstRM rm none) (flagsUnless false (unaryFlags .dec))
  | .rex2Cmov _ _ reg _ => .regs [reg] Flags.clear
  | .rex2Setcc _ rm => .dst s 8 (dstRM rm none) Flags.clear
  | .rex2PushRm _ => { Footprint.store (s.rsp - 8) 8 with gprs := [4] }
  | .rex2PopRm rm => { Footprint.dst (s.setGpr 4 (s.rsp + 8)) 64 (dstRM rm none) Flags.clear with gprs := 4 :: dstGprs (dstRM rm none) }
  | .rex2PushR _ => { Footprint.store (s.rsp - 8) 8 with gprs := [4] }
  | .rex2Pushp _ => { Footprint.store (s.rsp - 8) 8 with gprs := [4] }
  | .rex2PopR b => { Footprint.dst (s.setGpr 4 (s.rsp + 8)) 64 (.reg b false) Flags.clear with gprs := 4 :: dstGprs (.reg b false) }
  | .rex2Popp b => { Footprint.dst (s.setGpr 4 (s.rsp + 8)) 64 (.reg b false) Flags.clear with gprs := 4 :: dstGprs (.reg b false) }
  | .jmpabs _ => { Footprint.none with rip := true }

end Sys2Proof.Machine
end

