-- ==== Sys2Proof/Machine/Events.lean ====
section
/-! DEFINITION. What the spec describes beside the instructions: CPUID enumeration (00_scope.md R9, 10_state.md R40), the
INIT event (10_state.md R54), and the XSAVE image of the APX state (R46 to R48). No instruction of the opcode table
calls these; they are the machine's answers to its surroundings. -/
namespace Sys2Proof.Machine

/-- The output registers of CPUID. -/
inductive CpuidReg | eax | ebx | ecx | edx
  deriving DecidableEq, Repr

/-- The place of a feature flag: leaf, subleaf, register and bit. -/
structure CpuidBit where
  leaf    : Nat
  subleaf : Nat
  reg     : CpuidReg
  bit     : Nat
  deriving DecidableEq, Repr

/-- The feature flags with the places the spec gives them (00_scope.md R9). KEYLOCKER_WIDE combines three of them, and
AVX10_1 one with the version number of `cpuidAvx10Version`. -/
def Features.places (f : Features) : List (CpuidBit × Bool) :=
  [(⟨0x7, 1, .edx, 21⟩, f.apxF), (⟨0x7, 0, .ebx, 19⟩, f.adx), (⟨0x7, 0, .edx, 24⟩, f.amxTile), (⟨0x7, 1, .edx, 19⟩, f.avx10),
   (⟨0x7, 0, .ebx, 30⟩, f.avx512bw), (⟨0x7, 0, .ebx, 17⟩, f.avx512dq), (⟨0x7, 0, .ebx, 16⟩, f.avx512f),
   (⟨0x7, 0, .ebx, 3⟩, f.bmi1), (⟨0x7, 0, .ebx, 8⟩, f.bmi2), (⟨0x7, 0, .ecx, 7⟩, f.cet),
   (⟨0x7, 1, .eax, 7⟩, f.cmpccxadd), (⟨0x7, 0, .ecx, 29⟩, f.enqcmd), (⟨0x7, 0, .ebx, 10⟩, f.invpcid),
   (⟨0x7, 0, .ecx, 23⟩, f.keylocker),
   (⟨0x19, 0, .ebx, 0⟩, f.aeskle), (⟨0x19, 0, .ebx, 2⟩, f.wideKl), (⟨0x80000001, 0, .ecx, 5⟩, f.lzcnt), (⟨0x1, 0, .ecx, 22⟩, f.movbe),
   (⟨0x7, 0, .ecx, 28⟩, f.movdir), (⟨0x7, 0, .ebx, 29⟩, f.sha), (⟨0x1, 0, .ecx, 5⟩, f.vmx)]

/-- The CPUID flag at a place the spec names; none where it names no single flag. -/
def cpuidFlag (p : Params) (b : CpuidBit) : Option Bool :=
  (p.features.places.find? fun x => x.1 == b).map Prod.snd

/-- CPUID.(EAX=0x24,ECX=0).EBX[7:0], the version AVX10_1 asks to be at least 1 (00_scope.md R9). -/
def cpuidAvx10Version (p : Params) : BitVec 8 := p.features.avx10Version

/-- CPUID.(EAX=0xD,ECX=19): size, offset and attributes of state component 19 (10_state.md R40). -/
def cpuidApxState : CpuidReg → Option (BitVec 32)
  | .eax => some 128
  | .ebx => some 960
  | .ecx => some 0
  | .edx => none

/-- Power Up leaves what RESET leaves in the four groups of state the spec speaks of (10_state.md R54); the rest is
taken from RESET, notes/assumptions/2.md. -/
def State.powerUp : State := State.reset

/-- The INIT event: R8..R15 become 0; XMM0..XMM15 and R16..R31 are unchanged (10_state.md R54). The table speaks of these
four groups only; the rest of the state stays as it is, notes/assumptions/2.md. -/
def State.init (s : State) : State :=
  { s with gpr := Vector.ofFn fun i => if 8 ≤ i.val ∧ i.val < 16 then 0 else s.gpr[i.val] }

/-- The 8 bytes of the EGPRs from R16 + k on, n registers, in order (10_state.md R46). -/
def State.egprBytes (s : State) (k : Nat) : Nat → List Byte
  | 0 => []
  | n + 1 => leBytes 8 (s.getGpr (BitVec.ofNat 5 (16 + k))).toNat ++ s.egprBytes (k + 1) n

/-- The 128 bytes of the APX state component (10_state.md R46). -/
def State.apxImage (s : State) : List Byte := s.egprBytes 0 16

/-- The offset of the component in the uncompacted XSAVE area (10_state.md R47). -/
def apxOffset : Nat := 960

/-- Loads n EGPRs from R16 + k on out of the bytes of an image. -/
def State.loadEgprs (s : State) (k : Nat) (bytes : List Byte) : Nat → State
  | 0 => s
  | n + 1 =>
    (s.setGpr (BitVec.ofNat 5 (16 + k)) (BitVec.ofNat 64 (leValue (bytes.take 8)))).loadEgprs (k + 1)
      (bytes.drop 8) n

/-- What an XSAVE-like instruction leaves in an area of the uncompacted format: with bit 19 of the requested-feature bitmap
set, the 128 bytes of the component at offset 960; else the area's own bytes (10_state.md R47). -/
def State.xsaveApx (s : State) (rfbm : BitVec 64) (area : List Byte) : List Byte :=
  if rfbm.getLsbD 19 then area.take apxOffset ++ s.apxImage ++ area.drop (apxOffset + 128) else area

/-- What an XRSTOR-like instruction with RFBM[19] = 1 does to the component when its image is in use
(10_state.md R23, R47). -/
def State.restoreApx (s : State) (bytes : List Byte) : State := s.loadEgprs 0 bytes 16

/-- What an XRSTOR-like instruction does when it returns the component to its INIT state: all EGPRs 0 and XINUSE[19] = 0
(10_state.md R48). -/
def State.initApx (s : State) : State :=
  { s with
    gpr := Vector.ofFn fun i => if 16 ≤ i.val then 0 else s.gpr[i.val]
    xinuse19 := false }

/-- What an XRSTOR-like instruction does to the component: nothing with RFBM[19] = 0; else it loads the image at offset 960
of an uncompacted area that holds the component (`inUse`), and returns it to INIT otherwise (10_state.md R23, R47, R48). -/
def State.xrstorApx (s : State) (rfbm : BitVec 64) (inUse : Bool) (area : List Byte) : State :=
  if rfbm.getLsbD 19 then
    if inUse then s.restoreApx (area.drop apxOffset) else s.initApx
  else s

/-- The order of the components in the uncompacted XSAVE area, up to component 19's neighbours (10_state.md R47). -/
def uncompactedOrder : List Nat := [0, 1, 2, 19, 5, 6, 7]

/-- The order of the components of a bitmap in the compacted format: by bit index, so that 19 comes after 18
(10_state.md R47). -/
def compactedOrder (bitmap : BitVec 64) : List Nat := (List.range 64).filter fun i => bitmap.getLsbD i

end Sys2Proof.Machine
end

