-- ==== Sys2Proof/Machine/Vmx.lean ====
section
/-! DEFINITION. The VM-exit fields that APX extends (60_exceptions.md R465 to R470): the extended instruction-information
field and the exit qualifications. The machine performs no VM exit; these are the formats as functions. -/
namespace Sys2Proof.Machine

/-- The VMCS encodings of the extended instruction-information field (60_exceptions.md R465). -/
def eiiFull : Nat := 0x2406
/-- The high half of it. -/
def eiiHigh : Nat := 0x2407

/-- The contents of the extended instruction-information field (60_exceptions.md R469). A field that does not apply is
none. -/
structure Eii where
  scale   : Option (BitVec 2)
  asize   : BitVec 2
  isReg   : Bool
  osize   : BitVec 2
  segment : BitVec 3
  index   : Option RegId
  base    : Option RegId
  reg1    : Option RegId
  reg2    : Option RegId
  deriving DecidableEq, Repr

/-- The 64 bits of the field, bit 63 first (60_exceptions.md R469, Table 3.11). The spec calls Scale undefined for an
instruction with no index register, and gives a register id field a value only 'if applicable'; such a field holds a free
value, applied to `n`: DESIGN CHOICE, safe, notes/assumptions/42.md. -/
def Eii.bits (e : Eii) (n : Nat) : Word :=
  ((0 : BitVec 19) ++ e.reg2.getD (Config.freeRegId n 3) ++ (0 : BitVec 3) ++ e.base.getD (Config.freeRegId n 2) ++
    (0 : BitVec 3) ++ e.index.getD (Config.freeRegId n 1) ++ (0 : BitVec 3) ++ e.reg1.getD (Config.freeRegId n 0) ++
    (0 : BitVec 4) ++ BitVec.ofBool e.base.isNone ++ BitVec.ofBool e.index.isNone ++
    e.segment ++ e.osize ++ BitVec.ofBool e.isReg ++ e.asize ++ e.scale.getD (Config.freeScale n))

/-- The segment numbers of the field. -/
def segmentNumber : Segment → BitVec 3
  | .es => 0
  | .cs => 1
  | .ss => 2
  | .ds => 3
  | .fs => 4
  | .gs => 5

/-- The index register of a memory form and its scale. -/
def formIndex : MemForm → Option Index
  | .base _ _ => none
  | .sib _ i _ => i
  | .sibNoBase i _ => i
  | .ripRel _ => none

/-- The segment the Segment field of R469 reports for a memory operand: its override, or SS for base RSP or RBP without one
(20_memory.md R66). For every other operand the spec names no segment; DS is the family's default: PRESUMED, unsafe,
notes/assumptions/43.md. -/
def memSegment (m : Mem) : Segment :=
  match m.seg with
  | some g => g
  | none => if refsSS m then .ss else .ds

/-- The field for INVEPT, INVVPID or INVPCID: the register operand as Reg2, the memory operand's base and index with
their full ids (60_exceptions.md R466). Reg1 does not apply, nor do Scale and Index without an index register and Base
without a base register: notes/assumptions/42.md. The segment: notes/assumptions/43.md. -/
def eiiOfInvalidation (reg : RegId) (m : Mem) : Eii where
  scale := (formIndex m.form).map Index.scale
  asize := if m.a32 then 1 else 2
  isReg := false
  osize := 2
  segment := segmentNumber (memSegment m)
  index := (formIndex m.form).map Index.id
  base := MemForm.baseId m.form
  reg1 := none
  reg2 := some reg

/-- The register id of the legacy instruction-information field: the low four bits (60_exceptions.md R466). -/
def legacyRegId (i : RegId) : BitVec 4 := i.setWidth 4

/-- The access types of a control-register access (60_exceptions.md R470). -/
inductive CrAccess
  | movTo (cr : BitVec 4) (gpr : RegId)
  | movFrom (cr : BitVec 4) (gpr : RegId)
  | clts
  | lmswReg (data : BitVec 16)
  | lmswMem (data : BitVec 16)
  deriving DecidableEq, Repr

/-- The exit qualification of a control-register access (60_exceptions.md R470, Table 3.12). -/
def CrAccess.qualification : CrAccess → Word
  | .movTo cr g => (0 : BitVec 51) ++ g ++ (0 : BitVec 2) ++ (0 : BitVec 2) ++ cr
  | .movFrom cr g => (0 : BitVec 51) ++ g ++ (0 : BitVec 2) ++ (1 : BitVec 2) ++ cr
  | .clts => (0 : BitVec 58) ++ (2 : BitVec 2) ++ (0 : BitVec 4)
  | .lmswReg d => (0 : BitVec 32) ++ d ++ (0 : BitVec 10) ++ (3 : BitVec 2) ++ (0 : BitVec 4)
  | .lmswMem d => (0 : BitVec 32) ++ d ++ (0 : BitVec 9) ++ (1 : BitVec 1) ++ (3 : BitVec 2) ++ (0 : BitVec 4)

/-- The exit qualification of a debug-register access (60_exceptions.md R470, Table 3.13). -/
def drQualification (dr : BitVec 3) (fromDr : Bool) (gpr : RegId) : Word :=
  (0 : BitVec 51) ++ gpr ++ (0 : BitVec 3) ++ BitVec.ofBool fromDr ++ (0 : BitVec 1) ++ dr

/-- The instructions whose VM exits fill in the instruction-information field (60_exceptions.md R466), with whether they
can use EGPRs (R467, Table 3.10; the table omits INVD and INVLPG). -/
def instructionInfoExits : List (String × Option Bool) :=
  [("CLTS", some false), ("CPUID", some false), ("ENCLS", some false), ("GETSEC", some false), ("HLT", some false),
   ("IN", some false), ("INS", some false), ("INVD", none), ("INVEPT", some true), ("INVLPG", none),
   ("INVPCID", some true), ("INVVPID", some true), ("LGDT", some true), ("LIDT", some true), ("LLDT", some true),
   ("LMSW", some true), ("LOADIWKEY", some false), ("LTR", some true), ("MONITOR", some false), ("MOV CR", some true),
   ("MOV DR", some true), ("MWAIT", some false), ("OUT", some false), ("OUTS", some false), ("PAUSE", some false),
   ("PCONFIG", some false), ("RDMSR", some false), ("RDPMC", some false), ("RDRAND", some true), ("RDSEED", some true),
   ("RDTSC", some false), ("RDTSCP", some false), ("RSM", some false), ("SGDT", some true), ("SIDT", some true),
   ("SLDT", some true), ("STR", some true), ("TPAUSE", some true), ("UMWAIT", some true), ("VMCALL", some false),
   ("VMCLEAR", some true), ("VMLAUNCH", some false), ("VMPTRLD", some true), ("VMPTRST", some true),
   ("VMREAD", some true), ("VMRESUME", some false), ("VMWRITE", some true), ("VMXOFF", some false),
   ("VMXON", some true), ("WBINVD", some false), ("WBNOINVD", some false), ("WRMSR", some false),
   ("XRSTORS", some false), ("XSETBV", some false), ("XSAVES", some false)]

end Sys2Proof.Machine
end

