-- ==== Sys2Proof/Safety.lean ====
section
/-! DEFINITION. The terms in which claims about the machine speak: invariants of the state, what every step keeps, when
an operand can be read or written, and the value and the effect it then has; the parts of an encoding. -/
namespace Sys2Proof.Machine

/-! ### Invariants -/

/-- Memory is in its canonical form. -/
def State.memOk (s : State) : Prop := Memory.wf s.mem = true

/-- XINUSE[19] = 0 only while all EGPRs are 0: the component is in its INIT state (10_state.md R48). -/
def State.apxInitOk (s : State) : Prop :=
  s.xinuse19 = false → ∀ i : RegId, 16 ≤ i.toNat → s.getGpr i = 0

/-- No instruction of the spec writes control bits, mode, privilege level, parameters or the wrapping key
(10_state.md R41, R45, 00_scope.md R9). -/
def State.sameSystem (s t : State) : Prop :=
  t.ctrl = s.ctrl ∧ t.mode = s.mode ∧ t.cpl = s.cpl ∧ t.params = s.params ∧ t.iwkey = s.iwkey

/-! ### Outcomes -/

/-- The machine goes on. -/
def completes (r : Host.Outcome State Fault Refusal) : Prop := ∃ t, r = .next t

/-- The step goes on, or it ends at the caller's stop address. -/
def safeStep (s : State) : Prop := completes (step s) ∨ step s = .fault .stopAddress

/-! ### Operands -/

/-- Every check of an access holds (20_memory.md R70). -/
def accessOk (s : State) (x : Access) : Prop := checkAccess s x = .ok ()

/-- The N-bit value in memory at an address, least significant byte first (20_memory.md R61). -/
def memValue (s : State) (N : Nat) (a : Word) : BitVec N := BitVec.ofNat N (leValue (readBytes s.mem a (N / 8)))

/-- An r/m operand can be read (20_memory.md R70). -/
def rmReady (s : State) (N : Nat) : RM → Prop
  | .reg _ => True
  | .mem m => accessOk s (memAccess s m (N / 8) .read true 1)

/-- The value of an r/m operand (30_encoding.md R150). -/
def rmValue (s : State) (N : Nat) : RM → BitVec N
  | .reg i => s.readGpr N i
  | .mem m => memValue s N (linAddr s m)

/-- A source can be read. -/
def srcReady (s : State) (N : Nat) : Src → Prop
  | .rm x => rmReady s N x
  | .reg _ => True
  | .imm _ => True

/-- The value of a source. -/
def srcValue (s : State) (N : Nat) : Src → BitVec N
  | .rm x => rmValue s N x
  | .reg i => s.readGpr N i
  | .imm v => v.setWidth N

/-- A destination can be written (20_memory.md R70). -/
def dstReady (s : State) (N : Nat) : Dst → Prop
  | .reg _ _ => True
  | .mem m => accessOk s (memAccess s m (N / 8) .write true 1)

/-- An r/m operand that is memory and whose read fails a check with `e` (20_memory.md R70). -/
def rmFails (s : State) (N : Nat) (rm : RM) (e : Exc) : Prop :=
  ∃ m, rm = .mem m ∧ checkAccess s (memAccess s m (N / 8) .read true 1) = .error e

/-- A destination that is memory and whose write fails a check with `e` (20_memory.md R70). -/
def dstFails (s : State) (N : Nat) (d : Dst) (e : Exc) : Prop :=
  ∃ m, d = .mem m ∧ checkAccess s (memAccess s m (N / 8) .write true 1) = .error e

/-- The state with a destination written (30_encoding.md R151). -/
def putDst (s : State) (N : Nat) (d : Dst) (v : BitVec N) : State :=
  match d with
  | .reg i zu => s.writeGpr N i v zu
  | .mem m => s.poke (linAddr s m) (N / 8) v.toNat

/-- The state with a result of N bits written to a destination, and the flags written unless NF suppresses them
(10_state.md R32, 40_alu.md R182). -/
def resultState (s : State) (N : Nat) (d : Dst) (r : BitVec N) (nf : Bool) (f : Flags) : State :=
  (putDst s N d r).setFlagsUnless nf f

/-- SF, ZF and PF say what a result is: negative, zero, and an even number of 1 bits in its low byte (40_alu.md R181). -/
def Flags.tellsOf {N : Nat} (f : Flags) (r : BitVec N) : Prop :=
  (f.sf = true ↔ r.toInt < 0) ∧ (f.zf = true ↔ r = 0) ∧
    (f.pf = true ↔ ((List.range 8).countP fun i => r.getLsbD i) % 2 = 0)

/-- SF, ZF, AF and PF are the old ones (41_shift_rotate.md R222 to R225). -/
def Flags.keepsSzap (f old : Flags) : Prop := f.sf = old.sf ∧ f.zf = old.zf ∧ f.af = old.af ∧ f.pf = old.pf

/-- The flags with CF replaced (40_alu.md R184, R188, R189). -/
def Flags.withCf (f : Flags) (b : Bool) : Flags := { f with cf := b }

/-- The flags with OF replaced (40_alu.md R186). -/
def Flags.withOf (f : Flags) (b : Bool) : Flags := { f with of := b }

/-- The state with the XMM registers replaced. -/
def State.withXmm (s : State) (v : Vector Xmm 16) : State := { s with xmm := v }

/-- The state with the tile state replaced. -/
def State.withTile (s : State) (v : TileState) : State := { s with tile := v }

/-- The tile state with its contents replaced and its configuration kept. -/
def tileWithContents (t : TileState) (n : Nat) : TileState := { t with contents := n }

/-- The state with memory replaced. -/
def State.withMem (s : State) (m : Memory) : State := { s with mem := m }

/-- The state with the instruction pointer replaced by a jump. -/
def State.withRip (s : State) (a : Word) : State := { s with rip := a, ripWrapped := false }

/-! ### Classes of instructions -/

/-- The enables of class APX-EVEX-KEYLOCKER (60_exceptions.md R454). -/
def klReady (s : State) (feature : Bool) : Prop :=
  feature = true ∧ s.ctrl.cr0Em = false ∧ s.ctrl.cr4Osfxsr = true ∧ s.ctrl.cr4Kl = true ∧ s.ctrl.cr0Ts = false

/-- The enables of class APX-EVEX-SHA (60_exceptions.md R457). -/
def shaReady (s : State) : Prop :=
  s.params.features.sha = true ∧ s.ctrl.cr0Em = false ∧ s.ctrl.cr4Osfxsr = true ∧ s.ctrl.cr0Ts = false

/-- An xmm/m128 operand can be read: memory is 16-byte aligned (60_exceptions.md R457). -/
def xrmReady (s : State) : XRM → Prop
  | .xmm _ => True
  | .mem m => accessOk s (memAccess s m 16 .read false 16)

/-- An xmm/m128 operand that is memory and whose read fails a check with `e` (60_exceptions.md R457). -/
def xrmFails (s : State) (x : XRM) (e : Exc) : Prop :=
  ∃ m, x = .mem m ∧ checkAccess s (memAccess s m 16 .read false 16) = .error e

/-- The value of an xmm/m128 operand. -/
def xrmValue (s : State) : XRM → Xmm
  | .xmm i => s.getXmm i
  | .mem m => memValue s 128 (linAddr s m)

/-- The enables of class AMX-E3-EVEX for tile `t` (60_exceptions.md R442). -/
def tileReady (s : State) (t : ShortId) : Prop :=
  s.params.features.amxTile = true ∧ s.tile.configured = true ∧ (s.tileShape t.id).valid = true ∧
    shortIdOk s.params t = true

/-- The `n` rows of a tile from row `i` on are accessible (60_exceptions.md R442). -/
def rowsReady (s : State) (m : Mem) (colsb : Nat) (kind : AccessKind) (i n : Nat) : Prop :=
  ∀ j < n, accessOk s (tileRowAccess s m colsb kind (i + j))

/-- The first of the `n` rows of a tile from row `i` on that is not accessible fails a check with `e`
(60_exceptions.md R442). -/
def rowsFail (s : State) (m : Mem) (colsb : Nat) (kind : AccessKind) (i n : Nat) (e : Exc) : Prop :=
  ∃ j < n, (∀ k < j, accessOk s (tileRowAccess s m colsb kind (i + k))) ∧
    checkAccess s (tileRowAccess s m colsb kind (i + j)) = .error e

/-- The bytes of the `n` rows of a tile from row `i` on (43_promoted_vex.md R311). -/
def tileRows (s : State) (m : Mem) (colsb i : Nat) : Nat → List (List Byte)
  | 0 => []
  | n + 1 => readBytes s.mem (tileRowAddr s m i) colsb :: tileRows s m colsb (i + 1) n

/-! ### Encodings -/

/-- The bytes of an EVEX instruction: prefixes, 62, the three payload bytes, opcode, ModRM and what follows
(30_encoding.md R102, R113). -/
def evexBytes (pre : List Byte) (p0 p1 p2 op modrm : Byte) (rest : List Byte) : List Byte :=
  pre ++ 0x62 :: p0 :: p1 :: p2 :: op :: modrm :: rest

/-- The V id is logical zero: V3..V0 and V4, stored inverted, are all 1 (30_encoding.md R115, R116). -/
def vIsZero (p1 p2 : Byte) : Bool := p1.toNat / 8 % 16 == 15 && p2.getLsbD 3

/-- The map 4 opcodes in the CCMP/CTEST format (30_encoding.md R147). -/
def ccFormat (op modrm : Byte) : Bool :=
  [0x38, 0x39, 0x3A, 0x3B, 0x84, 0x85].contains op.toNat ||
    [0x80, 0x81, 0x83].contains op.toNat && modrm.toNat / 8 % 8 == 7 ||
    [0xF6, 0xF7].contains op.toNat && decide (modrm.toNat / 8 % 8 < 2)

/-- The opcodes of maps 1 to 3 that the table lists (30_encoding.md R170). -/
def promotedOpcode (map op : Nat) : Bool :=
  map == 1 && [0x90, 0x91, 0x92, 0x93].contains op ||
    map == 2 && ([0x49, 0x4B, 0xF2, 0xF3, 0xF5, 0xF6, 0xF7].contains op || op / 16 == 14) ||
    map == 3 && op == 0xF0

end Sys2Proof.Machine
end

