-- ==== Sys2Proof/Certificates/Slice0/Obligations.lean ====
section
/-! DEFINITION. The statements for the provers. -/
open Sys2Proof Sys2Proof.Machine

/-- After Power Up and after RESET, R8..R31 and XMM0..XMM15 are 0; INIT makes R8..R15 0 and leaves XMM0..XMM15 and
R16..R31 unchanged. (R54) -/
def Obligations.ResetPowerUpAndInitValues : Prop :=
  (∀ r : RegId, 8 ≤ r.toNat → State.powerUp.getGpr r = 0 ∧ State.reset.getGpr r = 0) ∧
  (∀ x : BitVec 4, State.powerUp.getXmm x = 0 ∧ State.reset.getXmm x = 0) ∧
  (∀ (s : State) (r : RegId), 8 ≤ r.toNat → r.toNat < 16 → s.init.getGpr r = 0) ∧
  (∀ (s : State) (r : RegId), 16 ≤ r.toNat → s.init.getGpr r = s.getGpr r) ∧
  ∀ (s : State) (x : BitVec 4), s.init.getXmm x = s.getXmm x

/-- After RESET memory is in its canonical form, XINUSE[19] = 0 goes with EGPRs that are all 0, and APX is not enabled.
The form of memory and XINUSE[19] = 0 are the model's own choices, log entries 1 and 3, and so is APX not being
enabled: R56 does not state these control bits, R491 only infers them, and their values are log entry 2. (R48, R56,
R491, 20_memory.md section 1, notes/assumptions/1.md, notes/assumptions/2.md, notes/assumptions/3.md) -/
def Obligations.ResetMeetsTheInvariants : Prop :=
  State.reset.memOk ∧ State.reset.apxInitOk ∧ State.reset.xinuse19 = false ∧ State.reset.apxEnabled = false

/-- From every state whose memory lists strictly rising 64-bit addresses and no zero byte, a step that goes on gives a
state whose memory does so too. The form is the model's own, log entry 3. (R60, 20_memory.md section 1,
notes/assumptions/3.md) -/
def Obligations.StepKeepsMemoryForm : Prop :=
  ∀ s t : State, s.memOk → step s = .next t → t.memOk

/-- From every state in which XINUSE[19] = 0 goes with EGPRs that are all 0, a step that goes on gives such a state
again, and it never clears XINUSE[19]: only XRSTOR-like instructions, which are no instructions of this spec, return
the component to INIT. (R48, 10_state.md section 7) -/
def Obligations.StepKeepsApxInitState : Prop :=
  ∀ s t : State, s.apxInitOk → step s = .next t → t.apxInitOk ∧ (s.xinuse19 = true → t.xinuse19 = true)

/-- A step that goes on, whatever it runs, leaves the control bits, the operating mode, the current privilege level, the
parameters of the processor and the Key Locker wrapping key as they were; APX stays enabled if it was, and disabled
if it was not. (R41, R45, R34, 10_state.md section 6, 00_scope.md section 4) -/
def Obligations.StepKeepsSystemState : Prop :=
  ∀ s t : State, step s = .next t → s.sameSystem t ∧ t.apxEnabled = s.apxEnabled

/-- Unless RIP is the stop address: when the fetched bytes decode to a well-formed instruction i, the step is exec of i
in the state whose RIP is past i (a wrap at 2^64 is recorded), whose counter of free values has moved on by one, and
which is otherwise the same. The counter and the recorded wrap are the model's own fields and its own choice: log
entries 7 and 23. (R495, R496, 70_reset_and_hazards.md section 3, notes/assumptions/7.md, notes/assumptions/23.md) -/
def Obligations.StepRunsTheDecodedInstruction : Prop :=
  ∀ (s : State) (i : Instr) (rest : List Byte), s.params.stopAddress ≠ some s.rip → i.wf = true →
    decode (fetchBytes s 0 15).1 = .ok i rest →
    step s = exec i { s with
      rip := s.rip + BitVec.ofNat 64 ((fetchBytes s 0 15).1.length - rest.length)
      ripWrapped := decide (2 ^ 64 ≤ s.rip.toNat + ((fetchBytes s 0 15).1.length - rest.length))
      free := s.free + 1 }

/-- If memory holds the encoding of a well-formed instruction of at most 15 bytes at RIP, and fetching each of these
bytes raises nothing, the step (away from the stop address) is exec of that instruction with RIP past it; what lies
behind it in memory, or whether it can be fetched, does not matter. That bytes behind the instruction are not looked
at is the model's choice, log entry 22 (R495 fetches up to 15 bytes, R432 puts fetch faults first); the counter of
free values and the recorded wrap, which also move on, are the model's own fields, log entries 7 and 23. (R495, R87,
R83, 70_reset_and_hazards.md section 3, 20_memory.md section 6, notes/assumptions/7.md, notes/assumptions/22.md,
notes/assumptions/23.md) -/
def Obligations.StepRunsTheEncodedInstruction : Prop :=
  ∀ (s : State) (i : Instr), i.wf = true → (encode i).length ≤ 15 → s.params.stopAddress ≠ some s.rip →
    (∀ j < (encode i).length, fetchFault s j = none) →
    (∀ j < (encode i).length, (encode i)[j]? = some (s.byteAt (s.rip + BitVec.ofNat 64 j))) →
    step s = exec i (s.advance (encode i).length)

/-- At the stop address the run ends before the fetch. Elsewhere, bytes that decode to #UD raise #UD; bytes that end too
early raise what stopped the fetch, or #GP(0) when 15 bytes were not enough; an encoding outside the model is
refused, except that one that is an APX instruction raises #UD while APX is not enabled, and a REX2 MOV to or from a
control or debug register that does not exist raises #UD too. That bytes decoded before an unfetchable byte decide
is the model's choice, log entry 22; which encodings are refused is log entry 35, and which control and debug
registers exist a parameter, log entry 41. (R495, R497, R437, R42, R83, R87, 70_reset_and_hazards.md section 3,
notes/assumptions/22.md, notes/assumptions/35.md, notes/assumptions/41.md) -/
def Obligations.StepStops : Prop :=
  (∀ s : State, s.params.stopAddress = some s.rip → step s = .fault .stopAddress) ∧
  (∀ s : State, s.params.stopAddress ≠ some s.rip → decode (fetchBytes s 0 15).1 = .ud → step s = takeException .ud) ∧
  (∀ s : State, s.params.stopAddress ≠ some s.rip → decode (fetchBytes s 0 15).1 = .truncated →
    (∀ e, (fetchBytes s 0 15).2 = some e → step s = takeException e) ∧
    ((fetchBytes s 0 15).2 = none → step s = takeException .gp)) ∧
  (∀ (s : State) (r : DecodeRefusal), s.params.stopAddress ≠ some s.rip →
    decode (fetchBytes s 0 15).1 = .refused r →
    (refusalUsesApx r = true → s.apxEnabled = false → step s = takeException .ud) ∧
    ((refusalUsesApx r = false ∨ s.apxEnabled = true) →
      ((∃ id, (r = .movSystemReg false id ∧ id ∉ s.params.controlRegs) ∨
          (r = .movSystemReg true id ∧ id ∉ s.params.debugRegs)) → step s = takeException .ud) ∧
      ((∀ id, (r = .movSystemReg false id → id ∈ s.params.controlRegs) ∧
          (r = .movSystemReg true id → id ∈ s.params.debugRegs)) → step s = .refused (refusalOf r))))

/-- For every well-formed instruction, with every operand at every value its encoding admits, and whatever bytes follow,
the decoder reads from its encoding exactly that instruction and leaves the bytes that follow. (R102, R104, R116,
R152, R153, R154, R160, 30_encoding.md sections 2 to 7) -/
def Obligations.DecodeOfEncodeIsTheInstruction : Prop :=
  ∀ (i : Instr) (rest : List Byte), i.wf = true → decode (encode i ++ rest) = .ok i rest

/-- The example encodings of ADD edx,eax,ecx; SHL r16,r17,4; CCMPB {dfv=of,cf} r16,r17; CFCMOVZ [r17],r16; PUSH2 r16,r17
and SUB r16,[r17+r18*8+0x10],-1 decode to those instructions. The CCMPB word decodes so because its DFV and SCC bits
are read as they stand, not inverted: the choice of the spec (D11, R147, R392), log entry 28. (R185, R227, R393,
R397, R421, R194, R147, R392, notes/assumptions/28.md) -/
def Obligations.DecodedWordsOfTheSpec : Prop :=
  decode [0x62, 0xF4, 0x6C, 0x18, 0x01, 0xC8] =
    .ok (.addRmR .o32 (.reg 0) 1 (some 2) false) [] ∧
  decode [0x62, 0xFC, 0xFC, 0x10, 0xC1, 0xE1, 0x04] =
    .ok (.shlRmI8 false .o64 (.reg 17) 4 (some 16) false) [] ∧
  decode [0x62, 0xEC, 0xCC, 0x02, 0x39, 0xC8] =
    .ok (.ccmpRmR .b ⟨true, false, false, true⟩ .o64 (.reg 16) 17) [] ∧
  decode [0x62, 0xEC, 0xFC, 0x0C, 0x44, 0x01] =
    .ok (.cfcmovStore .z .o64 ⟨none, false, .base 17 .none⟩ 16) [] ∧
  decode [0x62, 0xFC, 0x7C, 0x10, 0xFF, 0xF1] =
    .ok (.push2 16 17) [] ∧
  decode [0x62, 0xFC, 0xF8, 0x10, 0x83, 0x6C, 0xD1, 0x10, 0xFF] =
    .ok (.subRmI8 .o64 (.mem ⟨none, false, .sib 17 (some ⟨18, 3⟩) (.d8 0x10)⟩) 0xFF (some 16) false) []

/-- A LOCK, 66, F2, F3 or REX prefix before an EVEX prefix, with at least fourteen bytes after the byte 62 so that
nothing is missing, decodes to #UD, whatever these bytes are. (R118, R438, 30_encoding.md section 3) -/
def Obligations.ForbiddenPrefixBeforeEvexIsUd : Prop :=
  ∀ (p : Byte) (bs : List Byte),
    (p = 0xF0 ∨ p = 0x66 ∨ p = 0xF2 ∨ p = 0xF3 ∨ (0x40 ≤ p.toNat ∧ p.toNat ≤ 0x4F)) → 14 ≤ bs.length →
    decode (p :: 0x62 :: bs) = .ud

/-- After REX2 with M0 = 0 every opcode of rows 4, 7, A and E but A1 decodes to #UD, and so do the escape 0F and every
prefix byte: segment overrides, 66, 67, LOCK, REP, REPNE, EVEX, VEX and REX2; after REX2 with M0 = 1 every opcode of
rows 3 and 8. Opcode A1 of map 0 decodes to JMPABS when W = 0, whatever the other payload bits, with the eight bytes
that follow as its target, least significant first, and to #UD when W = 1. Map 1 opcodes 20 to 23 are MOV to or from
a control register (even) or a debug register (odd) whose id is R4, R3 and ModRM.reg; these four opcodes are
PRESUMED, log entry 41. A REX prefix before REX2 decodes to #UD once the bytes of the REX2 instruction are all
there, and to missing bytes while they are not: that fetch faults come before #UD is the order the spec chooses in
R432 (D12), log entry 6. (R105, R106, R108, R109, R112, R162, R370, R62, R42, R432, notes/assumptions/41.md,
notes/assumptions/6.md) -/
def Obligations.Rex2ReservedOpcodeRows : Prop :=
  (∀ (pl op : Byte) (bs : List Byte), pl.getLsbD 7 = false → op ≠ 0xA1 →
    (op.toNat / 16 = 4 ∨ op.toNat / 16 = 7 ∨ op.toNat / 16 = 10 ∨ op.toNat / 16 = 14) →
    decode (0xD5 :: pl :: op :: bs) = .ud) ∧
  (∀ (pl op : Byte) (bs : List Byte), pl.getLsbD 7 = false →
    op.toNat ∈ [0x0F, 0x26, 0x2E, 0x36, 0x3E, 0x62, 0x64, 0x65, 0x66, 0x67, 0xC4, 0xC5, 0xD5, 0xF0, 0xF2, 0xF3] →
    decode (0xD5 :: pl :: op :: bs) = .ud) ∧
  (∀ (pl op : Byte) (bs : List Byte), pl.getLsbD 7 = true → (op.toNat / 16 = 3 ∨ op.toNat / 16 = 8) →
    decode (0xD5 :: pl :: op :: bs) = .ud) ∧
  (∀ (pl : Byte) (target : Word) (bs : List Byte), pl.getLsbD 7 = false → pl.getLsbD 3 = false →
    decode (0xD5 :: pl :: 0xA1 :: (leBytes 8 target.toNat ++ bs)) = .ok (.jmpabs target) bs) ∧
  (∀ (pl : Byte) (bs : List Byte), pl.getLsbD 7 = false → pl.getLsbD 3 = true →
    decode (0xD5 :: pl :: 0xA1 :: bs) = .ud) ∧
  (∀ (pl op modrm : Byte) (bs : List Byte), pl.getLsbD 7 = true → op.toNat / 4 = 8 →
    decode (0xD5 :: pl :: op :: modrm :: bs) = .refused (.movSystemReg (decide (op.toNat % 2 = 1))
      (BitVec.ofNat 5 (16 * (pl.getLsbD 6).toNat + 8 * (pl.getLsbD 2).toNat + modrm.toNat / 8 % 8)))) ∧
  (∀ (rex : Byte) (bs : List Byte), rex.toNat / 16 = 4 →
    (decode (0xD5 :: bs) = .truncated → decode (rex :: 0xD5 :: bs) = .truncated) ∧
    (decode (0xD5 :: bs) ≠ .truncated → decode (rex :: 0xD5 :: bs) = .ud))

/-- APX is enabled exactly when the mode is 64-bit mode, APX_F is 1, CR4.OSXSAVE is 1 and XCR0[19] is 1; while it is
not, every instruction of the opcode table raises #UD; and it is not enabled after reset. The condition is the one
the spec derives in R38 from R36; that the bits are 0 after reset, which R56 does not state and R491 infers, is the
model's choice, log entry 2. (R36, R38, R56, R491, notes/assumptions/2.md) -/
def Obligations.ApxEnablingCondition : Prop :=
  (∀ s : State, s.apxEnabled = true ↔
    s.mode = .mode64 ∧ s.params.features.apxF = true ∧ s.ctrl.cr4Osxsave = true ∧ s.ctrl.xcr0Apx = true) ∧
  (∀ (i : Instr) (s : State), s.apxEnabled = false → exec i s = takeException .ud) ∧
  State.reset.apxEnabled = false

/-- For every instruction, when exec goes on: every GPR outside its footprint (the destination, RSP for the stack
instructions, RAX and RDX for the wide multiplies and divides), every status flag outside it, every opmask register
and every XMM register outside it is unchanged. The footprint of each instruction is the function `footprint`. (R21,
R23, R28, R31, R32, 10_state.md sections 2 to 4 and 8) -/
def Obligations.FrameOfRegistersAndFlags : Prop :=
  ∀ (i : Instr) (s t : State), exec i s = .next t →
    (∀ r : RegId, r ∉ (footprint s i).gprs → t.getGpr r = s.getGpr r) ∧
    ((footprint s i).flags.cf = false → t.flags.cf = s.flags.cf) ∧
    ((footprint s i).flags.pf = false → t.flags.pf = s.flags.pf) ∧
    ((footprint s i).flags.af = false → t.flags.af = s.flags.af) ∧
    ((footprint s i).flags.zf = false → t.flags.zf = s.flags.zf) ∧
    ((footprint s i).flags.sf = false → t.flags.sf = s.flags.sf) ∧
    ((footprint s i).flags.of = false → t.flags.of = s.flags.of) ∧
    (∀ k : BitVec 3, k ∉ (footprint s i).ks → t.getK k = s.getK k) ∧
    (∀ x : BitVec 4, x ∉ (footprint s i).xmms → t.getXmm x = s.getXmm x)

/-- For every instruction, from a state whose memory is in its canonical form, when exec goes on: every byte outside the
stores of its footprint reads as before. The footprint computes the address and the width of each store from the
operands with the functions the meaning uses; an instruction that stores nothing has none, so it leaves all of
memory. (R71, R73, 20_memory.md sections 2 and 4) -/
def Obligations.FrameOfMemory : Prop :=
  ∀ (i : Instr) (s t : State), s.memOk → exec i s = .next t →
    ∀ a : Word, (∀ p ∈ (footprint s i).stores, ∀ j < p.2, a ≠ p.1 + BitVec.ofNat 64 j) → t.byteAt a = s.byteAt a

/-- For every instruction, when exec goes on: RIP is written by JMPABS alone (the step moves it past the others before
exec), the tile state by LDTILECFG and the tile loads alone, the pending device answers by ENQCMD and ENQCMDS alone,
XINUSE[19] only by an instruction that names an EGPR as a destination; mode, CPL, control bits, parameters, the
wrapping key and the counter of free values stay. The pending device answers, the counter and the recorded wrap of
RIP are the model's own fields and its own choice: log entries 20, 7 and 23. (R25, R34, R41, R45, R48, R52,
10_state.md sections 5 to 9, notes/assumptions/7.md, notes/assumptions/20.md, notes/assumptions/23.md) -/
def Obligations.FrameOfTheRest : Prop :=
  ∀ (i : Instr) (s t : State), exec i s = .next t →
    ((∀ target, i ≠ .jmpabs target) → t.rip = s.rip ∧ t.ripWrapped = s.ripWrapped) ∧
    ((footprint s i).tile = false → t.tile = s.tile) ∧
    ((footprint s i).inputs = false → t.enqueueInputs = s.enqueueInputs) ∧
    ((∀ r ∈ (footprint s i).gprs, r.toNat < 16) → t.xinuse19 = s.xinuse19) ∧
    t.mode = s.mode ∧ t.cpl = s.cpl ∧ t.ctrl = s.ctrl ∧ t.params = s.params ∧ t.iwkey = s.iwkey ∧ t.free = s.free

/-- Writing an N-bit value, N = 8, 16, 32 or 64, to a GPR puts its bits into bits N-1..0; bits 63..N become 0 for N = 32
and for a zero-upper write, and keep their old value for an 8- or 16-bit write without zero-upper. Every other
register keeps its value. (R26, R27, R28, 10_state.md section 3) -/
def Obligations.UpperBitsOfAWrittenRegister : Prop :=
  ∀ (s : State) (N : Nat) (i j : RegId) (v : BitVec N) (zu : Bool) (b : Nat),
    (N = 8 ∨ N = 16 ∨ N = 32 ∨ N = 64) → b < 64 →
    ((s.writeGpr N i v zu).getGpr i).getLsbD b =
      (if b < N then v.getLsbD b else if N = 32 ∨ zu = true then false else (s.getGpr i).getLsbD b) ∧
    (j ≠ i → (s.writeGpr N i v zu).getGpr j = s.getGpr j)

/-- After a value is stored in n bytes at a, the byte at a + i (addresses modulo 2^64) holds its bits 8i+7..8i, for
every i < n; and a value read from n bytes at a has the bits of the byte at a + i as its bits 8i+7..8i. (R61) -/
def Obligations.MemoryIsLittleEndian : Prop :=
  ∀ (s : State) (a : Word) (n v i : Nat), s.memOk → n ≤ 2 ^ 64 → i < n →
    (s.poke a n v).byteAt (a + BitVec.ofNat 64 i) = BitVec.ofNat 8 (v / 2 ^ (8 * i)) ∧
    ∀ j < 8, (leValue (readBytes s.mem a n)).testBit (8 * i + j) = (s.byteAt (a + BitVec.ofNat 64 i)).getLsbD j

/-- For both linear-address widths, 48 and 57: an address is canonical exactly when its bits 63..LA_WIDTH-1 are all
equal, that is, when sign-extending its low LA_WIDTH bits gives it back. (R64) -/
def Obligations.CanonicalAddresses : Prop :=
  LaWidth.la48.bits = 48 ∧ LaWidth.la57.bits = 57 ∧
  ∀ (w : LaWidth) (a : Word),
    (canonical w a = true ↔ ∀ i, w.bits - 1 ≤ i → i < 64 → a.getLsbD i = a.getLsbD (w.bits - 1)) ∧
    (canonical w a = true ↔ (a.setWidth w.bits).signExtend 64 = a)

/-- A read and a write both answer: #SS(0) or #GP(0) when the first or the last byte is not canonical; else #GP(0) when
the address misses its mandatory alignment; else #PF with the oracle's code when it refuses a byte; else #AC(0) when
the class lists it, alignment checking is enabled, CPL is 3 and the access is unaligned; else the access itself,
little-endian. The source gives the conditions and not their order: the order is the choice of the spec (R70, D12),
log entry 6. (R65, R68, R69, R70, R72, notes/assumptions/6.md) -/
def Obligations.OrderOfAccessChecks : Prop :=
  ∀ (s : State) (x : Access) (N : Nat) (v : BitVec N),
    ((canonical s.params.laWidth x.addr = false ∨
        canonical s.params.laWidth (x.addr + BitVec.ofNat 64 (x.bytes - 1)) = false) →
      s.load N x = .error (if x.ss then .ss else .gp) ∧ s.store N x v = .error (if x.ss then .ss else .gp)) ∧
    (canonical s.params.laWidth x.addr = true →
      canonical s.params.laWidth (x.addr + BitVec.ofNat 64 (x.bytes - 1)) = true →
      (x.addr.toNat % x.align ≠ 0 → s.load N x = .error .gp ∧ s.store N x v = .error .gp) ∧
      (x.addr.toNat % x.align = 0 →
        (∀ c, translateBytes s.params.pageFaults x.kind x.addr x.bytes = some c →
          s.load N x = .error (.pf c) ∧ s.store N x v = .error (.pf c)) ∧
        (translateBytes s.params.pageFaults x.kind x.addr x.bytes = none →
          if x.ac = true ∧ s.params.acEnabled = true ∧ s.cpl = 3 ∧
              (x.bytes = 2 ∨ x.bytes = 4 ∨ x.bytes = 8) ∧ x.addr.toNat % x.bytes ≠ 0
          then s.load N x = .error .ac ∧ s.store N x v = .error .ac
          else s.load N x = .ok (BitVec.ofNat N (leValue (readBytes s.mem x.addr x.bytes))) ∧
            s.store N x v = .ok { s with mem := writeBytes s.mem x.addr (leBytes x.bytes v.toNat) })))

/-- Condition codes 0..15 test what their number says; source condition codes agree with them except that 10 is true and
11 false whatever the flags; the default flags value sets OF, SF, ZF, CF from its bits, PF from CF, and clears AF.
(R33, R391, R392, 10_state.md section 4, 46_conditional.md section 2) -/
def Obligations.ConditionCodes : Prop :=
  (∀ f : Flags,
    f.cond (Cond.ofBits 0) = f.of ∧ f.cond (Cond.ofBits 1) = !f.of ∧
    f.cond (Cond.ofBits 2) = f.cf ∧ f.cond (Cond.ofBits 3) = !f.cf ∧
    f.cond (Cond.ofBits 4) = f.zf ∧ f.cond (Cond.ofBits 5) = !f.zf ∧
    f.cond (Cond.ofBits 6) = (f.cf || f.zf) ∧ f.cond (Cond.ofBits 7) = !(f.cf || f.zf) ∧
    f.cond (Cond.ofBits 8) = f.sf ∧ f.cond (Cond.ofBits 9) = !f.sf ∧
    f.cond (Cond.ofBits 10) = f.pf ∧ f.cond (Cond.ofBits 11) = !f.pf ∧
    f.cond (Cond.ofBits 12) = (f.sf ^^ f.of) ∧ f.cond (Cond.ofBits 13) = !(f.sf ^^ f.of) ∧
    f.cond (Cond.ofBits 14) = (f.zf || (f.sf ^^ f.of)) ∧ f.cond (Cond.ofBits 15) = !(f.zf || (f.sf ^^ f.of))) ∧
  (∀ (f : Flags) (c : BitVec 4), f.scc (Scc.ofBits c) =
    (if c = 10 then true else if c = 11 then false else f.cond (Cond.ofBits c))) ∧
  ∀ d : Dfv, dfvFlags d = ⟨d.cf, d.cf, false, d.zf, d.sf, d.of⟩

/-- For sums and differences with carry in: CF says that the unsigned exact result is not the truncated one, OF that the
signed exact result is not, ZF that the result is 0, SF that it is negative, PF that its low byte has an even number
of 1 bits, AF that the low four bits carry or borrow. The flags of a logical operation with result r are CF = OF =
0, ZF, SF and PF of r, and the AF they are given, which the completion statements leave unconstrained. (R181,
40_alu.md section 1) -/
def Obligations.MeaningOfAddAndSubtractFlags : Prop :=
  ∀ (N : Nat) (a b : BitVec N) (c : Bool), 0 < N →
    ((addFlags a b c).cf = true ↔ ((addWith a b c).toNat : Int) ≠ a.toNat + b.toNat + c.toNat) ∧
    ((addFlags a b c).of = true ↔ (addWith a b c).toInt ≠ a.toInt + b.toInt + c.toNat) ∧
    ((addFlags a b c).af = true ↔ 16 ≤ a.toNat % 16 + b.toNat % 16 + c.toNat) ∧
    ((addFlags a b c).zf = true ↔ addWith a b c = 0) ∧
    ((addFlags a b c).sf = true ↔ (addWith a b c).toInt < 0) ∧
    ((addFlags a b c).pf = true ↔ ((List.range 8).countP fun i => (addWith a b c).getLsbD i) % 2 = 0) ∧
    ((subFlags a b c).cf = true ↔ ((subWith a b c).toNat : Int) ≠ a.toNat - b.toNat - c.toNat) ∧
    ((subFlags a b c).of = true ↔ (subWith a b c).toInt ≠ a.toInt - b.toInt - c.toNat) ∧
    ((subFlags a b c).af = true ↔ a.toNat % 16 < b.toNat % 16 + c.toNat) ∧
    ((subFlags a b c).zf = true ↔ subWith a b c = 0) ∧
    ((subFlags a b c).sf = true ↔ (subWith a b c).toInt < 0) ∧
    ((subFlags a b c).pf = true ↔ ((List.range 8).countP fun i => (subWith a b c).getLsbD i) % 2 = 0) ∧
    ∀ (r : BitVec N) (af : Bool),
      (logicFlags af r).cf = false ∧ (logicFlags af r).of = false ∧ (logicFlags af r).af = af ∧
      (logicFlags af r).tellsOf r

/-- For every width N > 0 and masked count c: SHL gives a * 2^c modulo 2^N, SHR a / 2^c, SAR the signed value divided by
2^c and rounded down; ROL and ROR by c mod N move bit i from place i - c or i + c modulo N. A masked count of 0
keeps every flag. Otherwise CF is the last bit shifted out (unconstrained when SHL or SHR shift by more than N, the
sign bit when SAR does), and for the rotates the bit that came round; OF is defined for a count of 1: top bit xor CF
for SHL and ROL, the old top bit for SHR, 0 for SAR, the xor of the two top bits for ROR. SHL, SHR and SAR write SF,
ZF and PF of the result; ROL and ROR keep SF, ZF, AF and PF. (R221, R224, R225, R226, R227, R229, 41_shift_rotate.md
section 1) -/
def Obligations.MeaningOfShiftsAndRotates : Prop :=
  ∀ (N : Nat) (a : BitVec N) (c : Nat) (cf : Bool) (old : Flags) (any : Nat → Bool), 0 < N →
    (ShiftOp.result .shl cf a c).toNat = a.toNat * 2 ^ c % 2 ^ N ∧
    (ShiftOp.result .shr cf a c).toNat = a.toNat / 2 ^ c ∧
    (ShiftOp.result .sar cf a c).toInt = a.toInt / (2 ^ c : Int) ∧
    (∀ i < N,
      (ShiftOp.result .rol cf a c).getLsbD i = a.getLsbD ((i + (N - c % N)) % N) ∧
      (ShiftOp.result .ror cf a c).getLsbD i = a.getLsbD ((i + c) % N)) ∧
    (∀ op : ShiftOp, shiftFlags op old any a 0 = old) ∧
    (c ≠ 0 →
      (c ≤ N → (shiftFlags .shl old any a c).cf = a.getLsbD (N - c)) ∧
      (c = 1 → (shiftFlags .shl old any a c).of = ((a <<< c).msb ^^ a.msb)) ∧
      (shiftFlags .shl old any a c).tellsOf (a <<< c) ∧
      (c ≤ N → (shiftFlags .shr old any a c).cf = a.getLsbD (c - 1)) ∧
      (c = 1 → (shiftFlags .shr old any a c).of = a.msb) ∧
      (shiftFlags .shr old any a c).tellsOf (a >>> c) ∧
      (shiftFlags .sar old any a c).cf = (if c ≤ N then a.getLsbD (c - 1) else a.msb) ∧
      (c = 1 → (shiftFlags .sar old any a c).of = false) ∧
      (shiftFlags .sar old any a c).tellsOf (a.sshiftRight c) ∧
      (shiftFlags .rol old any a c).cf = a.getLsbD ((N - c % N) % N) ∧
      (c = 1 → (shiftFlags .rol old any a c).of = ((a.rotateLeft (c % N)).msb ^^ a.msb)) ∧
      (shiftFlags .rol old any a c).keepsSzap old ∧
      (shiftFlags .ror old any a c).cf = a.getLsbD ((N - 1 + c) % N) ∧
      (c = 1 → 2 ≤ N → (shiftFlags .ror old any a c).of = (a.getLsbD 0 ^^ a.msb)) ∧
      (shiftFlags .ror old any a c).keepsSzap old)

/-- For N = 8, 16, 32 and 64 and a masked count c that is not 0: bit i of the result of RCL and RCR is bit i - c or i +
c, modulo N + 1, of the N + 1 bits CF:a, and the new CF is what comes to place N; a count that is a multiple of N +
1 leaves both as they were. OF is the top bit xor CF when c is 1: after the rotate for RCL, before it for RCR. RCL
and RCR keep SF, ZF, AF and PF, and a masked count of 0 keeps the operand and all six flags. (R221, R222, R223,
41_shift_rotate.md section 2) -/
def Obligations.MeaningOfRotatesThroughCarry : Prop :=
  ∀ (N : Nat) (a : BitVec N) (c : Nat) (old : Flags) (any : Nat → Bool),
    (N = 8 ∨ N = 16 ∨ N = 32 ∨ N = 64) → c < (if N = 64 then 64 else 32) → c ≠ 0 →
    (∀ i < N, (ShiftOp.result .rcl old.cf a c).getLsbD i =
      (BitVec.cons old.cf a).getLsbD ((i + (N + 1 - c % (N + 1))) % (N + 1))) ∧
    (shiftFlags .rcl old any a c).cf = (BitVec.cons old.cf a).getLsbD ((N + (N + 1 - c % (N + 1))) % (N + 1)) ∧
    (c = 1 → (shiftFlags .rcl old any a c).of =
      ((ShiftOp.result .rcl old.cf a c).msb ^^ (shiftFlags .rcl old any a c).cf)) ∧
    (∀ i < N, (ShiftOp.result .rcr old.cf a c).getLsbD i =
      (BitVec.cons old.cf a).getLsbD ((i + c) % (N + 1))) ∧
    (shiftFlags .rcr old any a c).cf = (BitVec.cons old.cf a).getLsbD ((N + c) % (N + 1)) ∧
    (c = 1 → (shiftFlags .rcr old any a c).of = (a.msb ^^ old.cf)) ∧
    (shiftFlags .rcl old any a c).keepsSzap old ∧ (shiftFlags .rcr old any a c).keepsSzap old ∧
    shiftFlags .rcl old any a 0 = old ∧ shiftFlags .rcr old any a 0 = old ∧
    ShiftOp.result .rcl old.cf a 0 = a ∧ ShiftOp.result .rcr old.cf a 0 = a

/-- For every width N: of a = 0, LZCNT and TZCNT count N; of a ≠ 0, LZCNT is the lz < N with 2^(N-1-lz) ≤ a < 2^(N-lz)
and TZCNT the tz < N for which 2^tz divides a and the quotient is odd. POPCNT is the number of 1 bits. LZCNT and
TZCNT set CF when a = 0 and ZF when the count is 0, that is when the first bit they look at is 1; POPCNT sets ZF
when a = 0 and clears the other flags. The checksum takes the bytes in order: xor the byte in, then eight times
shift right and, if the bit shifted out was 1, xor 82F63B78, the polynomial 11EDC6F41 with its bits reversed; it
starts and ends without inversion, so it is linear. (R252, R256, R261, R262, 42_muldiv_misc.md section 2) -/
def Obligations.MeaningOfBitCounts : Prop :=
  ∀ (N : Nat) (a : BitVec N),
    (a = 0 → CountOp.lzcnt.count a = N ∧ CountOp.tzcnt.count a = N) ∧
    (a ≠ 0 →
      CountOp.lzcnt.count a < N ∧ 2 ^ (N - 1 - CountOp.lzcnt.count a) ≤ a.toNat ∧
      a.toNat < 2 ^ (N - CountOp.lzcnt.count a) ∧
      CountOp.tzcnt.count a < N ∧ a.toNat % 2 ^ CountOp.tzcnt.count a = 0 ∧
      a.toNat / 2 ^ CountOp.tzcnt.count a % 2 = 1) ∧
    (CountOp.popcnt.count a = (List.range N).countP fun i => a.getLsbD i) ∧
    (∀ any : Nat → Bool,
      ((CountOp.lzcnt.flags any a).cf = true ↔ a = 0) ∧ ((CountOp.lzcnt.flags any a).zf = true ↔ CountOp.lzcnt.count a = 0) ∧
      ((CountOp.tzcnt.flags any a).cf = true ↔ a = 0) ∧ ((CountOp.tzcnt.flags any a).zf = true ↔ CountOp.tzcnt.count a = 0) ∧
      (0 < N → ((CountOp.lzcnt.flags any a).zf = a.msb ∧ (CountOp.tzcnt.flags any a).zf = a.getLsbD 0)) ∧
      CountOp.popcnt.flags any a = ⟨false, false, false, decide (a = 0), false, false⟩) ∧
    (∀ crc : BitVec 32, crcBytes crc [] = crc) ∧
    (∀ (crc : BitVec 32) (b : Byte) (bs : List Byte),
      crcBytes crc (b :: bs) =
        crcBytes ((fun x : BitVec 32 => x >>> 1 ^^^ if x.getLsbD 0 then 0x82F63B78 else 0)^[8] (crc ^^^ b.setWidth 32)) bs) ∧
    (∀ i < 32, (0x82F63B78 : BitVec 32).getLsbD i = (0x11EDC6F41 : BitVec 33).getLsbD (31 - i)) ∧
    ∀ (x y : BitVec 32) (bs : List Byte), crcBytes (x ^^^ y) bs = crcBytes x bs ^^^ crcBytes y (bs.map fun _ => 0)

/-- Unsigned division answers q and r exactly when the divisor is not 0, n = q * d + r and r < d; signed division
exactly when the divisor is not 0, n = q * d + r, |r| < |d| and r is 0 or has the sign of n (the quotient is rounded
toward zero). So it answers nothing only when the divisor is 0 or the quotient does not fit N bits. (R253, R254,
42_muldiv_misc.md section 2) -/
def Obligations.MeaningOfDivision : Prop :=
  ∀ (N : Nat) (n : BitVec (2 * N)) (d q r : BitVec N), 0 < N →
    (divide false n d = some (q, r) ↔
      d ≠ 0 ∧ n.toNat = q.toNat * d.toNat + r.toNat ∧ r.toNat < d.toNat) ∧
    (divide true n d = some (q, r) ↔
      d ≠ 0 ∧ n.toInt = q.toInt * d.toInt + r.toInt ∧ r.toInt.natAbs < d.toInt.natAbs ∧
        (r.toInt = 0 ∨ (r.toInt < 0 ↔ n.toInt < 0)))

/-- For every width N > 0: the high and low halves together are the exact unsigned or signed product; CF and OF of MUL
say that the unsigned product needs more than N bits, those of IMUL that the signed product does not fit N bits, and
the N-bit IMUL result is the product modulo 2^N. (R255, R260, R303, 42_muldiv_misc.md section 2) -/
def Obligations.MeaningOfMultiplication : Prop :=
  ∀ (N : Nat) (a b : BitVec N), 0 < N →
    (productHigh false a b).toNat * 2 ^ N + (productLow false a b).toNat = a.toNat * b.toNat ∧
    (productHigh true a b).toInt * 2 ^ N + ((productLow true a b).toNat : Int) = a.toInt * b.toInt ∧
    (wideOverflow false a b = true ↔ 2 ^ N ≤ a.toNat * b.toNat) ∧
    (wideOverflow true a b = true ↔
      a.toInt * b.toInt < -(2 ^ (N - 1) : Int) ∨ (2 ^ (N - 1) : Int) ≤ a.toInt * b.toInt) ∧
    a * b = BitVec.ofInt N (a.toInt * b.toInt)

/-- For a value of k bytes, byte j of the reversed value is byte k - 1 - j of the value, and reversing twice gives the
value back. (R257, 42_muldiv_misc.md section 2) -/
def Obligations.MeaningOfByteReversal : Prop :=
  ∀ (k : Nat) (a : BitVec (8 * k)),
    (∀ j < k, (byteReverse a).extractLsb' (8 * j) 8 = a.extractLsb' (8 * (k - 1 - j)) 8) ∧
    byteReverse (byteReverse a) = a

/-- With k the number of mask bits set below place i: PDEP puts source bit k at place i if mask bit i is set and 0 if it
is not, and PEXT puts source bit i of a set mask bit i at place k; PEXT gives 0 from the place on that is the number
of mask bits. Extracting under a mask what was deposited under it gives the low bits that the mask has room for;
depositing what was extracted gives the value under the mask. The field BEXTR cuts out at start with length len is a
/ 2^start modulo 2^len. (R292, R304, R305, 43_promoted_vex.md section 2) -/
def Obligations.MeaningOfDepositAndExtract : Prop :=
  ∀ (N : Nat) (a m : BitVec N) (start len : Nat),
    (∀ i < N, (Bmi2Op.pdep.result a m).getLsbD i =
      (m.getLsbD i && a.getLsbD ((List.range i).countP fun j => m.getLsbD j))) ∧
    (∀ i < N, m.getLsbD i = true →
      (Bmi2Op.pext.result a m).getLsbD ((List.range i).countP fun j => m.getLsbD j) = a.getLsbD i) ∧
    (∀ k, ((List.range N).countP fun j => m.getLsbD j) ≤ k → (Bmi2Op.pext.result a m).getLsbD k = false) ∧
    Bmi2Op.pext.result (Bmi2Op.pdep.result a m) m = a &&& BitVec.ofNat N (2 ^ CountOp.popcnt.count m - 1) ∧
    Bmi2Op.pdep.result (Bmi2Op.pext.result a m) m = a &&& m ∧
    (bitField a start len).toNat = a.toNat / 2 ^ start % 2 ^ len

/-- The image of the APX state component is 128 bytes long, and byte 8(n - 16) + j of it, for n = 16..31 and j < 8, is
byte j of Rn. (R46) -/
def Obligations.LayoutOfTheApxStateComponent : Prop :=
  ∀ s : State, s.apxImage.length = 128 ∧
    ∀ n j : Nat, 16 ≤ n → n ≤ 31 → j < 8 →
      s.apxImage[8 * (n - 16) + j]? = some ((s.getGpr (BitVec.ofNat 5 n)).extractLsb' (8 * j) 8)

/-- Restoring the image of state t into state s gives s the EGPRs of t; returning the component to INIT gives EGPRs 0
and XINUSE[19] = 0. Both keep R0 to R15 and every other part of the state: flags, memory, XMM, opmask and tile
registers, RIP, control bits, mode, CPL, parameters, wrapping key. Restoring never clears XINUSE[19], sets it when a
restored EGPR is not 0, and keeps XINUSE[19] = 0 going with EGPRs that are all 0; whether all-zero EGPRs set it is
left open. With bit 19 of the requested-feature bitmap 0 an XSAVE-like instruction leaves the area and an XRSTOR-
like instruction the state; with bit 19 set, the one writes bytes 960 to 1087 and no other, and the other takes the
component back from there, or returns it to INIT when the area does not hold it. The compacted format orders
components by bit index, the uncompacted one puts 19 after 2. CPUID gives the component 128 bytes at offset 960.
That these are functions beside the step is log entry 36. (R23, R40, R46, R47, R48, 10_state.md section 7,
notes/assumptions/36.md) -/
def Obligations.RestoringTheApxStateComponent : Prop :=
  (∀ (s t : State) (r : RegId), (s.restoreApx t.apxImage).getGpr r = if 16 ≤ r.toNat then t.getGpr r else s.getGpr r) ∧
  (∀ s t : State, (s.restoreApx t.apxImage).flags = s.flags ∧ (s.restoreApx t.apxImage).mem = s.mem ∧
    (s.restoreApx t.apxImage).xmm = s.xmm ∧ (s.restoreApx t.apxImage).rip = s.rip) ∧
  (∀ s t : State, s.restoreApx t.apxImage =
    { s with gpr := (s.restoreApx t.apxImage).gpr, xinuse19 := (s.restoreApx t.apxImage).xinuse19 }) ∧
  (∀ s t : State, (s.xinuse19 = true → (s.restoreApx t.apxImage).xinuse19 = true) ∧
    ((∃ r : RegId, 16 ≤ r.toNat ∧ t.getGpr r ≠ 0) → (s.restoreApx t.apxImage).xinuse19 = true) ∧
    (s.apxInitOk → (s.restoreApx t.apxImage).apxInitOk)) ∧
  (∀ (s : State) (r : RegId), s.initApx.getGpr r = if 16 ≤ r.toNat then 0 else s.getGpr r) ∧
  (∀ s : State, s.initApx.xinuse19 = false ∧ s.initApx.apxInitOk ∧
    s.initApx = { s with gpr := s.initApx.gpr, xinuse19 := false }) ∧
  (∀ (s t : State) (rfbm : BitVec 64) (inUse : Bool) (area : List Byte), rfbm.getLsbD 19 = false →
    t.xsaveApx rfbm area = area ∧ s.xrstorApx rfbm inUse area = s) ∧
  (∀ (s t : State) (rfbm : BitVec 64) (area : List Byte), rfbm.getLsbD 19 = true → 1088 ≤ area.length →
    (∀ j < 128, (t.xsaveApx rfbm area)[960 + j]? = t.apxImage[j]?) ∧
    (∀ j, (j < 960 ∨ 1088 ≤ j) → (t.xsaveApx rfbm area)[j]? = area[j]?) ∧
    s.xrstorApx rfbm true (t.xsaveApx rfbm area) = s.restoreApx t.apxImage ∧ s.xrstorApx rfbm false area = s.initApx) ∧
  (∀ b : BitVec 64, (compactedOrder b).Pairwise (· < ·) ∧ ∀ i, i ∈ compactedOrder b ↔ b.getLsbD i = true) ∧
  uncompactedOrder = [0, 1, 2, 19, 5, 6, 7] ∧
  (∀ p : Params, cpuidFlag p ⟨7, 1, .edx, 21⟩ = some p.features.apxF) ∧
  cpuidApxState .eax = some 128 ∧ cpuidApxState .ebx = some 960 ∧ cpuidApxState .ecx = some 0 ∧ apxOffset = 960

/-- The extended instruction-information field holds Scale in bits 1:0, ASIZE in 3:2, Mem/Reg in 4, OSIZE in 6:5,
Segment in 9:7, IndexInvalid in 10, BaseInvalid in 11, Reg1 in 20:16, Index in 28:24, Base in 36:32, Reg2 in 44:40,
and 0 elsewhere, where a field that does not apply (Scale and Index without an index register, Base without a base
register, Reg1 of the invalidations) is unconstrained, log entry 42; INVEPT, INVVPID and INVPCID report their
register operand in Reg2; MOV CR and MOV DR qualifications hold the full 5-bit register id in bits 12:8. (R466,
R469, R470, 60_exceptions.md section 5, notes/assumptions/42.md) -/
def Obligations.FieldsOfTheVmExitInformation : Prop :=
  (∀ (e : Eii) (n : Nat),
    (∀ x, e.scale = some x → (e.bits n).extractLsb' 0 2 = x) ∧ (e.bits n).extractLsb' 2 2 = e.asize ∧
    (e.bits n).getLsbD 4 = e.isReg ∧ (e.bits n).extractLsb' 5 2 = e.osize ∧ (e.bits n).extractLsb' 7 3 = e.segment ∧
    (e.bits n).getLsbD 10 = e.index.isNone ∧ (e.bits n).getLsbD 11 = e.base.isNone ∧ (e.bits n).extractLsb' 12 4 = 0 ∧
    (∀ r, e.reg1 = some r → (e.bits n).extractLsb' 16 5 = r) ∧ (e.bits n).extractLsb' 21 3 = 0 ∧
    (∀ i, e.index = some i → (e.bits n).extractLsb' 24 5 = i) ∧ (e.bits n).extractLsb' 29 3 = 0 ∧
    (∀ b, e.base = some b → (e.bits n).extractLsb' 32 5 = b) ∧ (e.bits n).extractLsb' 37 3 = 0 ∧
    (∀ r, e.reg2 = some r → (e.bits n).extractLsb' 40 5 = r) ∧ (e.bits n).extractLsb' 45 19 = 0) ∧
  (∀ (reg : RegId) (m : Mem), (eiiOfInvalidation reg m).reg2 = some reg ∧
    (eiiOfInvalidation reg m).index = (formIndex m.form).map Index.id ∧
    (eiiOfInvalidation reg m).scale = (formIndex m.form).map Index.scale ∧
    (eiiOfInvalidation reg m).base = MemForm.baseId m.form ∧ (eiiOfInvalidation reg m).isReg = false) ∧
  (∀ (cr : BitVec 4) (g : RegId),
    (CrAccess.movTo cr g).qualification.extractLsb' 0 4 = cr ∧ (CrAccess.movTo cr g).qualification.extractLsb' 4 2 = 0 ∧
    (CrAccess.movTo cr g).qualification.extractLsb' 8 5 = g ∧
    (CrAccess.movFrom cr g).qualification.extractLsb' 0 4 = cr ∧
    (CrAccess.movFrom cr g).qualification.extractLsb' 4 2 = 1 ∧
    (CrAccess.movFrom cr g).qualification.extractLsb' 8 5 = g) ∧
  ∀ (dr : BitVec 3) (d : Bool) (g : RegId),
    (drQualification dr d g).extractLsb' 0 3 = dr ∧ (drQualification dr d g).getLsbD 4 = d ∧
    (drQualification dr d g).extractLsb' 8 5 = g

/-- With APX enabled, sources readable and a memory destination writable, each form goes on: the destination (the NDD
register when there is one) receives the sum, difference or logical result, with the carry flag for ADC and SBB, and
the flags are those of the operation unless NF is 1; the AF of a logical operation is unconstrained. (R180, R181,
R182, R183, R185, R187, R192, R193, R194, R195, R32) -/
def Obligations.EvexArithmeticAndLogic : Prop :=
  (∀ (s : State) (sz : OpSize) (rm : RM) (reg : RegId) (ndd : Option RegId),
    s.apxEnabled = true → rmReady s sz.bits rm → dstReady s sz.bits (dstRM rm ndd) →
    exec (.adcRmR sz rm reg ndd) s =
      .next (resultState s sz.bits (dstRM rm ndd) (addWith (rmValue s sz.bits rm) (s.readGpr sz.bits reg) s.flags.cf)
        false (addFlags (rmValue s sz.bits rm) (s.readGpr sz.bits reg) s.flags.cf))) ∧
  (∀ (s : State) (sz : OpSize) (reg : RegId) (rm : RM) (ndd : Option RegId),
    s.apxEnabled = true → rmReady s sz.bits rm →
    exec (.adcRRm sz reg rm ndd) s =
      .next (resultState s sz.bits (dstReg reg ndd) (addWith (s.readGpr sz.bits reg) (rmValue s sz.bits rm)
        s.flags.cf) false (addFlags (s.readGpr sz.bits reg) (rmValue s sz.bits rm) s.flags.cf))) ∧
  (∀ (s : State) (rm : RM) (imm : Imm) (ndd : Option RegId),
    s.apxEnabled = true → rmReady s imm.bits rm → dstReady s imm.bits (dstRM rm ndd) →
    exec (.adcRmImm rm imm ndd) s =
      .next (resultState s imm.bits (dstRM rm ndd) (addWith (rmValue s imm.bits rm) (imm.value.setWidth imm.bits)
        s.flags.cf) false (addFlags (rmValue s imm.bits rm) (imm.value.setWidth imm.bits) s.flags.cf))) ∧
  (∀ (s : State) (sz : OSize) (rm : RM) (imm : BitVec 8) (ndd : Option RegId),
    s.apxEnabled = true → rmReady s sz.bits rm → dstReady s sz.bits (dstRM rm ndd) →
    exec (.adcRmI8 sz rm imm ndd) s =
      .next (resultState s sz.bits (dstRM rm ndd) (addWith (rmValue s sz.bits rm) ((imm.signExtend 64).setWidth
        sz.bits) s.flags.cf) false (addFlags (rmValue s sz.bits rm) ((imm.signExtend 64).setWidth sz.bits)
        s.flags.cf))) ∧
  (∀ (s : State) (sz : OpSize) (rm : RM) (reg : RegId) (ndd : Option RegId) (nf : Bool),
    s.apxEnabled = true → rmReady s sz.bits rm → dstReady s sz.bits (dstRM rm ndd) →
    exec (.addRmR sz rm reg ndd nf) s =
      .next (resultState s sz.bits (dstRM rm ndd) (rmValue s sz.bits rm + s.readGpr sz.bits reg) nf (addFlags (rmValue
        s sz.bits rm) (s.readGpr sz.bits reg) false))) ∧
  (∀ (s : State) (sz : OpSize) (reg : RegId) (rm : RM) (ndd : Option RegId) (nf : Bool),
    s.apxEnabled = true → rmReady s sz.bits rm →
    exec (.addRRm sz reg rm ndd nf) s =
      .next (resultState s sz.bits (dstReg reg ndd) (s.readGpr sz.bits reg + rmValue s sz.bits rm) nf (addFlags
        (s.readGpr sz.bits reg) (rmValue s sz.bits rm) false))) ∧
  (∀ (s : State) (rm : RM) (imm : Imm) (ndd : Option RegId) (nf : Bool),
    s.apxEnabled = true → rmReady s imm.bits rm → dstReady s imm.bits (dstRM rm ndd) →
    exec (.addRmImm rm imm ndd nf) s =
      .next (resultState s imm.bits (dstRM rm ndd) (rmValue s imm.bits rm + imm.value.setWidth imm.bits) nf (addFlags
        (rmValue s imm.bits rm) (imm.value.setWidth imm.bits) false))) ∧
  (∀ (s : State) (sz : OSize) (rm : RM) (imm : BitVec 8) (ndd : Option RegId) (nf : Bool),
    s.apxEnabled = true → rmReady s sz.bits rm → dstReady s sz.bits (dstRM rm ndd) →
    exec (.addRmI8 sz rm imm ndd nf) s =
      .next (resultState s sz.bits (dstRM rm ndd) (rmValue s sz.bits rm + (imm.signExtend 64).setWidth sz.bits) nf
        (addFlags (rmValue s sz.bits rm) ((imm.signExtend 64).setWidth sz.bits) false))) ∧
  (∀ (s : State) (sz : OpSize) (rm : RM) (reg : RegId) (ndd : Option RegId) (nf : Bool),
    s.apxEnabled = true → rmReady s sz.bits rm → dstReady s sz.bits (dstRM rm ndd) →
    ∃ (af : Bool), exec (.andRmR sz rm reg ndd nf) s =
      .next (resultState s sz.bits (dstRM rm ndd) (rmValue s sz.bits rm &&& s.readGpr sz.bits reg) nf (logicFlags af
        (rmValue s sz.bits rm &&& s.readGpr sz.bits reg)))) ∧
  (∀ (s : State) (sz : OpSize) (reg : RegId) (rm : RM) (ndd : Option RegId) (nf : Bool),
    s.apxEnabled = true → rmReady s sz.bits rm →
    ∃ (af : Bool), exec (.andRRm sz reg rm ndd nf) s =
      .next (resultState s sz.bits (dstReg reg ndd) (s.readGpr sz.bits reg &&& rmValue s sz.bits rm) nf (logicFlags af
        (s.readGpr sz.bits reg &&& rmValue s sz.bits rm)))) ∧
  (∀ (s : State) (rm : RM) (imm : Imm) (ndd : Option RegId) (nf : Bool),
    s.apxEnabled = true → rmReady s imm.bits rm → dstReady s imm.bits (dstRM rm ndd) →
    ∃ (af : Bool), exec (.andRmImm rm imm ndd nf) s =
      .next (resultState s imm.bits (dstRM rm ndd) (rmValue s imm.bits rm &&& imm.value.setWidth imm.bits) nf
        (logicFlags af (rmValue s imm.bits rm &&& imm.value.setWidth imm.bits)))) ∧
  (∀ (s : State) (sz : OSize) (rm : RM) (imm : BitVec 8) (ndd : Option RegId) (nf : Bool),
    s.apxEnabled = true → rmReady s sz.bits rm → dstReady s sz.bits (dstRM rm ndd) →
    ∃ (af : Bool), exec (.andRmI8 sz rm imm ndd nf) s =
      .next (resultState s sz.bits (dstRM rm ndd) (rmValue s sz.bits rm &&& (imm.signExtend 64).setWidth sz.bits) nf
        (logicFlags af (rmValue s sz.bits rm &&& (imm.signExtend 64).setWidth sz.bits)))) ∧
  (∀ (s : State) (sz : OpSize) (reg : RegId) (rm : RM) (ndd : Option RegId) (nf : Bool),
    s.apxEnabled = true → rmReady s sz.bits rm →
    ∃ (af : Bool), exec (.orRRm sz reg rm ndd nf) s =
      .next (resultState s sz.bits (dstReg reg ndd) (s.readGpr sz.bits reg ||| rmValue s sz.bits rm) nf (logicFlags af
        (s.readGpr sz.bits reg ||| rmValue s sz.bits rm)))) ∧
  (∀ (s : State) (sz : OpSize) (rm : RM) (reg : RegId) (ndd : Option RegId) (nf : Bool),
    s.apxEnabled = true → rmReady s sz.bits rm → dstReady s sz.bits (dstRM rm ndd) →
    ∃ (af : Bool), exec (.orRmR sz rm reg ndd nf) s =
      .next (resultState s sz.bits (dstRM rm ndd) (rmValue s sz.bits rm ||| s.readGpr sz.bits reg) nf (logicFlags af
        (rmValue s sz.bits rm ||| s.readGpr sz.bits reg)))) ∧
  (∀ (s : State) (rm : RM) (imm : Imm) (ndd : Option RegId) (nf : Bool),
    s.apxEnabled = true → rmReady s imm.bits rm → dstReady s imm.bits (dstRM rm ndd) →
    ∃ (af : Bool), exec (.orRmImm rm imm ndd nf) s =
      .next (resultState s imm.bits (dstRM rm ndd) (rmValue s imm.bits rm ||| imm.value.setWidth imm.bits) nf
        (logicFlags af (rmValue s imm.bits rm ||| imm.value.setWidth imm.bits)))) ∧
  (∀ (s : State) (sz : OSize) (rm : RM) (imm : BitVec 8) (ndd : Option RegId) (nf : Bool),
    s.apxEnabled = true → rmReady s sz.bits rm → dstReady s sz.bits (dstRM rm ndd) →
    ∃ (af : Bool), exec (.orRmI8 sz rm imm ndd nf) s =
      .next (resultState s sz.bits (dstRM rm ndd) (rmValue s sz.bits rm ||| (imm.signExtend 64).setWidth sz.bits) nf
        (logicFlags af (rmValue s sz.bits rm ||| (imm.signExtend 64).setWidth sz.bits)))) ∧
  (∀ (s : State) (sz : OpSize) (rm : RM) (reg : RegId) (ndd : Option RegId),
    s.apxEnabled = true → rmReady s sz.bits rm → dstReady s sz.bits (dstRM rm ndd) →
    exec (.sbbRmR sz rm reg ndd) s =
      .next (resultState s sz.bits (dstRM rm ndd) (subWith (rmValue s sz.bits rm) (s.readGpr sz.bits reg) s.flags.cf)
        false (subFlags (rmValue s sz.bits rm) (s.readGpr sz.bits reg) s.flags.cf))) ∧
  (∀ (s : State) (sz : OpSize) (reg : RegId) (rm : RM) (ndd : Option RegId),
    s.apxEnabled = true → rmReady s sz.bits rm →
    exec (.sbbRRm sz reg rm ndd) s =
      .next (resultState s sz.bits (dstReg reg ndd) (subWith (s.readGpr sz.bits reg) (rmValue s sz.bits rm)
        s.flags.cf) false (subFlags (s.readGpr sz.bits reg) (rmValue s sz.bits rm) s.flags.cf))) ∧
  (∀ (s : State) (rm : RM) (imm : Imm) (ndd : Option RegId),
    s.apxEnabled = true → rmReady s imm.bits rm → dstReady s imm.bits (dstRM rm ndd) →
    exec (.sbbRmImm rm imm ndd) s =
      .next (resultState s imm.bits (dstRM rm ndd) (subWith (rmValue s imm.bits rm) (imm.value.setWidth imm.bits)
        s.flags.cf) false (subFlags (rmValue s imm.bits rm) (imm.value.setWidth imm.bits) s.flags.cf))) ∧
  (∀ (s : State) (sz : OSize) (rm : RM) (imm : BitVec 8) (ndd : Option RegId),
    s.apxEnabled = true → rmReady s sz.bits rm → dstReady s sz.bits (dstRM rm ndd) →
    exec (.sbbRmI8 sz rm imm ndd) s =
      .next (resultState s sz.bits (dstRM rm ndd) (subWith (rmValue s sz.bits rm) ((imm.signExtend 64).setWidth
        sz.bits) s.flags.cf) false (subFlags (rmValue s sz.bits rm) ((imm.signExtend 64).setWidth sz.bits)
        s.flags.cf))) ∧
  (∀ (s : State) (sz : OpSize) (rm : RM) (reg : RegId) (ndd : Option RegId) (nf : Bool),
    s.apxEnabled = true → rmReady s sz.bits rm → dstReady s sz.bits (dstRM rm ndd) →
    exec (.subRmR sz rm reg ndd nf) s =
      .next (resultState s sz.bits (dstRM rm ndd) (rmValue s sz.bits rm - s.readGpr sz.bits reg) nf (subFlags (rmValue
        s sz.bits rm) (s.readGpr sz.bits reg) false))) ∧
  (∀ (s : State) (sz : OpSize) (reg : RegId) (rm : RM) (ndd : Option RegId) (nf : Bool),
    s.apxEnabled = true → rmReady s sz.bits rm →
    exec (.subRRm sz reg rm ndd nf) s =
      .next (resultState s sz.bits (dstReg reg ndd) (s.readGpr sz.bits reg - rmValue s sz.bits rm) nf (subFlags
        (s.readGpr sz.bits reg) (rmValue s sz.bits rm) false))) ∧
  (∀ (s : State) (rm : RM) (imm : Imm) (ndd : Option RegId) (nf : Bool),
    s.apxEnabled = true → rmReady s imm.bits rm → dstReady s imm.bits (dstRM rm ndd) →
    exec (.subRmImm rm imm ndd nf) s =
      .next (resultState s imm.bits (dstRM rm ndd) (rmValue s imm.bits rm - imm.value.setWidth imm.bits) nf (subFlags
        (rmValue s imm.bits rm) (imm.value.setWidth imm.bits) false))) ∧
  (∀ (s : State) (sz : OSize) (rm : RM) (imm : BitVec 8) (ndd : Option RegId) (nf : Bool),
    s.apxEnabled = true → rmReady s sz.bits rm → dstReady s sz.bits (dstRM rm ndd) →
    exec (.subRmI8 sz rm imm ndd nf) s =
      .next (resultState s sz.bits (dstRM rm ndd) (rmValue s sz.bits rm - (imm.signExtend 64).setWidth sz.bits) nf
        (subFlags (rmValue s sz.bits rm) ((imm.signExtend 64).setWidth sz.bits) false))) ∧
  (∀ (s : State) (sz : OpSize) (rm : RM) (reg : RegId) (ndd : Option RegId) (nf : Bool),
    s.apxEnabled = true → rmReady s sz.bits rm → dstReady s sz.bits (dstRM rm ndd) →
    ∃ (af : Bool), exec (.xorRmR sz rm reg ndd nf) s =
      .next (resultState s sz.bits (dstRM rm ndd) (rmValue s sz.bits rm ^^^ s.readGpr sz.bits reg) nf (logicFlags af
        (rmValue s sz.bits rm ^^^ s.readGpr sz.bits reg)))) ∧
  (∀ (s : State) (sz : OpSize) (reg : RegId) (rm : RM) (ndd : Option RegId) (nf : Bool),
    s.apxEnabled = true → rmReady s sz.bits rm →
    ∃ (af : Bool), exec (.xorRRm sz reg rm ndd nf) s =
      .next (resultState s sz.bits (dstReg reg ndd) (s.readGpr sz.bits reg ^^^ rmValue s sz.bits rm) nf (logicFlags af
        (s.readGpr sz.bits reg ^^^ rmValue s sz.bits rm)))) ∧
  (∀ (s : State) (rm : RM) (imm : Imm) (ndd : Option RegId) (nf : Bool),
    s.apxEnabled = true → rmReady s imm.bits rm → dstReady s imm.bits (dstRM rm ndd) →
    ∃ (af : Bool), exec (.xorRmImm rm imm ndd nf) s =
      .next (resultState s imm.bits (dstRM rm ndd) (rmValue s imm.bits rm ^^^ imm.value.setWidth imm.bits) nf
        (logicFlags af (rmValue s imm.bits rm ^^^ imm.value.setWidth imm.bits)))) ∧
  (∀ (s : State) (sz : OSize) (rm : RM) (imm : BitVec 8) (ndd : Option RegId) (nf : Bool),
    s.apxEnabled = true → rmReady s sz.bits rm → dstReady s sz.bits (dstRM rm ndd) →
    ∃ (af : Bool), exec (.xorRmI8 sz rm imm ndd nf) s =
      .next (resultState s sz.bits (dstRM rm ndd) (rmValue s sz.bits rm ^^^ (imm.signExtend 64).setWidth sz.bits) nf
        (logicFlags af (rmValue s sz.bits rm ^^^ (imm.signExtend 64).setWidth sz.bits))))

/-- With APX enabled, sources readable and a memory destination writable, each REX2 form goes on with the result in its
destination (legacy upper-bit rule) and the flags of the operation; the AF of a logical operation is unconstrained.
(R377, R375, R181, 45_jmpabs_rex2.md section 4) -/
def Obligations.Rex2ArithmeticAndLogic : Prop :=
  (∀ (s : State) (sz : OpSize) (rm : RM) (reg : RegId),
    s.apxEnabled = true → rmReady s sz.bits rm → dstReady s sz.bits (dstRM rm none) →
    exec (.rex2AddRmR sz rm reg) s =
      .next (resultState s sz.bits (dstRM rm none) (rmValue s sz.bits rm + s.readGpr sz.bits reg) false (addFlags
        (rmValue s sz.bits rm) (s.readGpr sz.bits reg) false))) ∧
  (∀ (s : State) (sz : OpSize) (reg : RegId) (rm : RM),
    s.apxEnabled = true → rmReady s sz.bits rm →
    exec (.rex2AddRRm sz reg rm) s =
      .next (resultState s sz.bits (dstReg reg none) (s.readGpr sz.bits reg + rmValue s sz.bits rm) false (addFlags
        (s.readGpr sz.bits reg) (rmValue s sz.bits rm) false))) ∧
  (∀ (s : State) (rm : RM) (imm : Imm),
    s.apxEnabled = true → rmReady s imm.bits rm → dstReady s imm.bits (dstRM rm none) →
    exec (.rex2AddRmImm rm imm) s =
      .next (resultState s imm.bits (dstRM rm none) (rmValue s imm.bits rm + imm.value.setWidth imm.bits) false
        (addFlags (rmValue s imm.bits rm) (imm.value.setWidth imm.bits) false))) ∧
  (∀ (s : State) (sz : OSize) (rm : RM) (imm : BitVec 8),
    s.apxEnabled = true → rmReady s sz.bits rm → dstReady s sz.bits (dstRM rm none) →
    exec (.rex2AddRmI8 sz rm imm) s =
      .next (resultState s sz.bits (dstRM rm none) (rmValue s sz.bits rm + (imm.signExtend 64).setWidth sz.bits) false
        (addFlags (rmValue s sz.bits rm) ((imm.signExtend 64).setWidth sz.bits) false))) ∧
  (∀ (s : State) (sz : OpSize) (rm : RM) (reg : RegId),
    s.apxEnabled = true → rmReady s sz.bits rm → dstReady s sz.bits (dstRM rm none) →
    ∃ (af : Bool), exec (.rex2OrRmR sz rm reg) s =
      .next (resultState s sz.bits (dstRM rm none) (rmValue s sz.bits rm ||| s.readGpr sz.bits reg) false (logicFlags
        af (rmValue s sz.bits rm ||| s.readGpr sz.bits reg)))) ∧
  (∀ (s : State) (sz : OpSize) (reg : RegId) (rm : RM),
    s.apxEnabled = true → rmReady s sz.bits rm →
    ∃ (af : Bool), exec (.rex2OrRRm sz reg rm) s =
      .next (resultState s sz.bits (dstReg reg none) (s.readGpr sz.bits reg ||| rmValue s sz.bits rm) false
        (logicFlags af (s.readGpr sz.bits reg ||| rmValue s sz.bits rm)))) ∧
  (∀ (s : State) (rm : RM) (imm : Imm),
    s.apxEnabled = true → rmReady s imm.bits rm → dstReady s imm.bits (dstRM rm none) →
    ∃ (af : Bool), exec (.rex2OrRmImm rm imm) s =
      .next (resultState s imm.bits (dstRM rm none) (rmValue s imm.bits rm ||| imm.value.setWidth imm.bits) false
        (logicFlags af (rmValue s imm.bits rm ||| imm.value.setWidth imm.bits)))) ∧
  (∀ (s : State) (sz : OSize) (rm : RM) (imm : BitVec 8),
    s.apxEnabled = true → rmReady s sz.bits rm → dstReady s sz.bits (dstRM rm none) →
    ∃ (af : Bool), exec (.rex2OrRmI8 sz rm imm) s =
      .next (resultState s sz.bits (dstRM rm none) (rmValue s sz.bits rm ||| (imm.signExtend 64).setWidth sz.bits)
        false (logicFlags af (rmValue s sz.bits rm ||| (imm.signExtend 64).setWidth sz.bits)))) ∧
  (∀ (s : State) (sz : OpSize) (rm : RM) (reg : RegId),
    s.apxEnabled = true → rmReady s sz.bits rm → dstReady s sz.bits (dstRM rm none) →
    exec (.rex2AdcRmR sz rm reg) s =
      .next (resultState s sz.bits (dstRM rm none) (addWith (rmValue s sz.bits rm) (s.readGpr sz.bits reg) s.flags.cf)
        false (addFlags (rmValue s sz.bits rm) (s.readGpr sz.bits reg) s.flags.cf))) ∧
  (∀ (s : State) (sz : OpSize) (reg : RegId) (rm : RM),
    s.apxEnabled = true → rmReady s sz.bits rm →
    exec (.rex2AdcRRm sz reg rm) s =
      .next (resultState s sz.bits (dstReg reg none) (addWith (s.readGpr sz.bits reg) (rmValue s sz.bits rm)
        s.flags.cf) false (addFlags (s.readGpr sz.bits reg) (rmValue s sz.bits rm) s.flags.cf))) ∧
  (∀ (s : State) (rm : RM) (imm : Imm),
    s.apxEnabled = true → rmReady s imm.bits rm → dstReady s imm.bits (dstRM rm none) →
    exec (.rex2AdcRmImm rm imm) s =
      .next (resultState s imm.bits (dstRM rm none) (addWith (rmValue s imm.bits rm) (imm.value.setWidth imm.bits)
        s.flags.cf) false (addFlags (rmValue s imm.bits rm) (imm.value.setWidth imm.bits) s.flags.cf))) ∧
  (∀ (s : State) (sz : OSize) (rm : RM) (imm : BitVec 8),
    s.apxEnabled = true → rmReady s sz.bits rm → dstReady s sz.bits (dstRM rm none) →
    exec (.rex2AdcRmI8 sz rm imm) s =
      .next (resultState s sz.bits (dstRM rm none) (addWith (rmValue s sz.bits rm) ((imm.signExtend 64).setWidth
        sz.bits) s.flags.cf) false (addFlags (rmValue s sz.bits rm) ((imm.signExtend 64).setWidth sz.bits)
        s.flags.cf))) ∧
  (∀ (s : State) (sz : OpSize) (rm : RM) (reg : RegId),
    s.apxEnabled = true → rmReady s sz.bits rm → dstReady s sz.bits (dstRM rm none) →
    exec (.rex2SbbRmR sz rm reg) s =
      .next (resultState s sz.bits (dstRM rm none) (subWith (rmValue s sz.bits rm) (s.readGpr sz.bits reg) s.flags.cf)
        false (subFlags (rmValue s sz.bits rm) (s.readGpr sz.bits reg) s.flags.cf))) ∧
  (∀ (s : State) (sz : OpSize) (reg : RegId) (rm : RM),
    s.apxEnabled = true → rmReady s sz.bits rm →
    exec (.rex2SbbRRm sz reg rm) s =
      .next (resultState s sz.bits (dstReg reg none) (subWith (s.readGpr sz.bits reg) (rmValue s sz.bits rm)
        s.flags.cf) false (subFlags (s.readGpr sz.bits reg) (rmValue s sz.bits rm) s.flags.cf))) ∧
  (∀ (s : State) (rm : RM) (imm : Imm),
    s.apxEnabled = true → rmReady s imm.bits rm → dstReady s imm.bits (dstRM rm none) →
    exec (.rex2SbbRmImm rm imm) s =
      .next (resultState s imm.bits (dstRM rm none) (subWith (rmValue s imm.bits rm) (imm.value.setWidth imm.bits)
        s.flags.cf) false (subFlags (rmValue s imm.bits rm) (imm.value.setWidth imm.bits) s.flags.cf))) ∧
  (∀ (s : State) (sz : OSize) (rm : RM) (imm : BitVec 8),
    s.apxEnabled = true → rmReady s sz.bits rm → dstReady s sz.bits (dstRM rm none) →
    exec (.rex2SbbRmI8 sz rm imm) s =
      .next (resultState s sz.bits (dstRM rm none) (subWith (rmValue s sz.bits rm) ((imm.signExtend 64).setWidth
        sz.bits) s.flags.cf) false (subFlags (rmValue s sz.bits rm) ((imm.signExtend 64).setWidth sz.bits)
        s.flags.cf))) ∧
  (∀ (s : State) (sz : OpSize) (rm : RM) (reg : RegId),
    s.apxEnabled = true → rmReady s sz.bits rm → dstReady s sz.bits (dstRM rm none) →
    ∃ (af : Bool), exec (.rex2AndRmR sz rm reg) s =
      .next (resultState s sz.bits (dstRM rm none) (rmValue s sz.bits rm &&& s.readGpr sz.bits reg) false (logicFlags
        af (rmValue s sz.bits rm &&& s.readGpr sz.bits reg)))) ∧
  (∀ (s : State) (sz : OpSize) (reg : RegId) (rm : RM),
    s.apxEnabled = true → rmReady s sz.bits rm →
    ∃ (af : Bool), exec (.rex2AndRRm sz reg rm) s =
      .next (resultState s sz.bits (dstReg reg none) (s.readGpr sz.bits reg &&& rmValue s sz.bits rm) false
        (logicFlags af (s.readGpr sz.bits reg &&& rmValue s sz.bits rm)))) ∧
  (∀ (s : State) (rm : RM) (imm : Imm),
    s.apxEnabled = true → rmReady s imm.bits rm → dstReady s imm.bits (dstRM rm none) →
    ∃ (af : Bool), exec (.rex2AndRmImm rm imm) s =
      .next (resultState s imm.bits (dstRM rm none) (rmValue s imm.bits rm &&& imm.value.setWidth imm.bits) false
        (logicFlags af (rmValue s imm.bits rm &&& imm.value.setWidth imm.bits)))) ∧
  (∀ (s : State) (sz : OSize) (rm : RM) (imm : BitVec 8),
    s.apxEnabled = true → rmReady s sz.bits rm → dstReady s sz.bits (dstRM rm none) →
    ∃ (af : Bool), exec (.rex2AndRmI8 sz rm imm) s =
      .next (resultState s sz.bits (dstRM rm none) (rmValue s sz.bits rm &&& (imm.signExtend 64).setWidth sz.bits)
        false (logicFlags af (rmValue s sz.bits rm &&& (imm.signExtend 64).setWidth sz.bits)))) ∧
  (∀ (s : State) (sz : OpSize) (rm : RM) (reg : RegId),
    s.apxEnabled = true → rmReady s sz.bits rm → dstReady s sz.bits (dstRM rm none) →
    exec (.rex2SubRmR sz rm reg) s =
      .next (resultState s sz.bits (dstRM rm none) (rmValue s sz.bits rm - s.readGpr sz.bits reg) false (subFlags
        (rmValue s sz.bits rm) (s.readGpr sz.bits reg) false))) ∧
  (∀ (s : State) (sz : OpSize) (reg : RegId) (rm : RM),
    s.apxEnabled = true → rmReady s sz.bits rm →
    exec (.rex2SubRRm sz reg rm) s =
      .next (resultState s sz.bits (dstReg reg none) (s.readGpr sz.bits reg - rmValue s sz.bits rm) false (subFlags
        (s.readGpr sz.bits reg) (rmValue s sz.bits rm) false))) ∧
  (∀ (s : State) (rm : RM) (imm : Imm),
    s.apxEnabled = true → rmReady s imm.bits rm → dstReady s imm.bits (dstRM rm none) →
    exec (.rex2SubRmImm rm imm) s =
      .next (resultState s imm.bits (dstRM rm none) (rmValue s imm.bits rm - imm.value.setWidth imm.bits) false
        (subFlags (rmValue s imm.bits rm) (imm.value.setWidth imm.bits) false))) ∧
  (∀ (s : State) (sz : OSize) (rm : RM) (imm : BitVec 8),
    s.apxEnabled = true → rmReady s sz.bits rm → dstReady s sz.bits (dstRM rm none) →
    exec (.rex2SubRmI8 sz rm imm) s =
      .next (resultState s sz.bits (dstRM rm none) (rmValue s sz.bits rm - (imm.signExtend 64).setWidth sz.bits) false
        (subFlags (rmValue s sz.bits rm) ((imm.signExtend 64).setWidth sz.bits) false))) ∧
  (∀ (s : State) (sz : OpSize) (rm : RM) (reg : RegId),
    s.apxEnabled = true → rmReady s sz.bits rm → dstReady s sz.bits (dstRM rm none) →
    ∃ (af : Bool), exec (.rex2XorRmR sz rm reg) s =
      .next (resultState s sz.bits (dstRM rm none) (rmValue s sz.bits rm ^^^ s.readGpr sz.bits reg) false (logicFlags
        af (rmValue s sz.bits rm ^^^ s.readGpr sz.bits reg)))) ∧
  (∀ (s : State) (sz : OpSize) (reg : RegId) (rm : RM),
    s.apxEnabled = true → rmReady s sz.bits rm →
    ∃ (af : Bool), exec (.rex2XorRRm sz reg rm) s =
      .next (resultState s sz.bits (dstReg reg none) (s.readGpr sz.bits reg ^^^ rmValue s sz.bits rm) false
        (logicFlags af (s.readGpr sz.bits reg ^^^ rmValue s sz.bits rm)))) ∧
  (∀ (s : State) (rm : RM) (imm : Imm),
    s.apxEnabled = true → rmReady s imm.bits rm → dstReady s imm.bits (dstRM rm none) →
    ∃ (af : Bool), exec (.rex2XorRmImm rm imm) s =
      .next (resultState s imm.bits (dstRM rm none) (rmValue s imm.bits rm ^^^ imm.value.setWidth imm.bits) false
        (logicFlags af (rmValue s imm.bits rm ^^^ imm.value.setWidth imm.bits)))) ∧
  (∀ (s : State) (sz : OSize) (rm : RM) (imm : BitVec 8),
    s.apxEnabled = true → rmReady s sz.bits rm → dstReady s sz.bits (dstRM rm none) →
    ∃ (af : Bool), exec (.rex2XorRmI8 sz rm imm) s =
      .next (resultState s sz.bits (dstRM rm none) (rmValue s sz.bits rm ^^^ (imm.signExtend 64).setWidth sz.bits)
        false (logicFlags af (rmValue s sz.bits rm ^^^ (imm.signExtend 64).setWidth sz.bits))))

/-- With APX enabled and operands readable, REX2 CMP and TEST write the flags of the subtraction or conjunction; CCMPscc
and CTESTscc write them when the source condition holds and the default flags value when it does not. Nothing else
changes. The AF of a TEST is unconstrained. (R378, R379, R391, R392, R393, R394, R181) -/
def Obligations.CompareAndTest : Prop :=
  (∀ (s : State) (scc : Scc) (dfv : Dfv) (sz : OpSize) (rm : RM) (reg : RegId),
    s.apxEnabled = true → rmReady s sz.bits rm →
    exec (.ccmpRmR scc dfv sz rm reg) s =
      .next (s.setFlags (if s.flags.scc scc then subFlags (rmValue s sz.bits rm) (s.readGpr sz.bits reg) false else
        ⟨dfv.cf, dfv.cf, false, dfv.zf, dfv.sf, dfv.of⟩))) ∧
  (∀ (s : State) (scc : Scc) (dfv : Dfv) (sz : OpSize) (reg : RegId) (rm : RM),
    s.apxEnabled = true → rmReady s sz.bits rm →
    exec (.ccmpRRm scc dfv sz reg rm) s =
      .next (s.setFlags (if s.flags.scc scc then subFlags (s.readGpr sz.bits reg) (rmValue s sz.bits rm) false else
        ⟨dfv.cf, dfv.cf, false, dfv.zf, dfv.sf, dfv.of⟩))) ∧
  (∀ (s : State) (scc : Scc) (dfv : Dfv) (rm : RM) (imm : Imm),
    s.apxEnabled = true → rmReady s imm.bits rm →
    exec (.ccmpRmImm scc dfv rm imm) s =
      .next (s.setFlags (if s.flags.scc scc then subFlags (rmValue s imm.bits rm) (imm.value.setWidth imm.bits) false
        else ⟨dfv.cf, dfv.cf, false, dfv.zf, dfv.sf, dfv.of⟩))) ∧
  (∀ (s : State) (scc : Scc) (dfv : Dfv) (sz : OSize) (rm : RM) (imm : BitVec 8),
    s.apxEnabled = true → rmReady s sz.bits rm →
    exec (.ccmpRmI8 scc dfv sz rm imm) s =
      .next (s.setFlags (if s.flags.scc scc then subFlags (rmValue s sz.bits rm) ((imm.signExtend 64).setWidth
        sz.bits) false else ⟨dfv.cf, dfv.cf, false, dfv.zf, dfv.sf, dfv.of⟩))) ∧
  (∀ (s : State) (scc : Scc) (dfv : Dfv) (sz : OpSize) (rm : RM) (reg : RegId),
    s.apxEnabled = true → rmReady s sz.bits rm →
    ∃ (af : Bool), exec (.ctestRmR scc dfv sz rm reg) s =
      .next (s.setFlags (if s.flags.scc scc then logicFlags af (rmValue s sz.bits rm &&& s.readGpr sz.bits reg) else
        ⟨dfv.cf, dfv.cf, false, dfv.zf, dfv.sf, dfv.of⟩))) ∧
  (∀ (s : State) (scc : Scc) (dfv : Dfv) (alt : Bool) (rm : RM) (imm : Imm),
    s.apxEnabled = true → rmReady s imm.bits rm →
    ∃ (af : Bool), exec (.ctestRmImm scc dfv alt rm imm) s =
      .next (s.setFlags (if s.flags.scc scc then logicFlags af (rmValue s imm.bits rm &&& imm.value.setWidth imm.bits)
        else ⟨dfv.cf, dfv.cf, false, dfv.zf, dfv.sf, dfv.of⟩))) ∧
  (∀ (s : State) (sz : OpSize) (rm : RM) (reg : RegId),
    s.apxEnabled = true → rmReady s sz.bits rm →
    exec (.rex2CmpRmR sz rm reg) s =
      .next (s.setFlags (subFlags (rmValue s sz.bits rm) (s.readGpr sz.bits reg) false))) ∧
  (∀ (s : State) (sz : OpSize) (reg : RegId) (rm : RM),
    s.apxEnabled = true → rmReady s sz.bits rm →
    exec (.rex2CmpRRm sz reg rm) s =
      .next (s.setFlags (subFlags (s.readGpr sz.bits reg) (rmValue s sz.bits rm) false))) ∧
  (∀ (s : State) (rm : RM) (imm : Imm),
    s.apxEnabled = true → rmReady s imm.bits rm →
    exec (.rex2CmpRmImm rm imm) s =
      .next (s.setFlags (subFlags (rmValue s imm.bits rm) (imm.value.setWidth imm.bits) false))) ∧
  (∀ (s : State) (sz : OSize) (rm : RM) (imm : BitVec 8),
    s.apxEnabled = true → rmReady s sz.bits rm →
    exec (.rex2CmpRmI8 sz rm imm) s =
      .next (s.setFlags (subFlags (rmValue s sz.bits rm) ((imm.signExtend 64).setWidth sz.bits) false))) ∧
  (∀ (s : State) (sz : OpSize) (rm : RM) (reg : RegId),
    s.apxEnabled = true → rmReady s sz.bits rm →
    ∃ (af : Bool), exec (.rex2TestRmR sz rm reg) s =
      .next (s.setFlags (logicFlags af (rmValue s sz.bits rm &&& s.readGpr sz.bits reg)))) ∧
  (∀ (s : State) (alt : Bool) (rm : RM) (imm : Imm),
    s.apxEnabled = true → rmReady s imm.bits rm →
    ∃ (af : Bool), exec (.rex2TestRmImm alt rm imm) s =
      .next (s.setFlags (logicFlags af (rmValue s imm.bits rm &&& imm.value.setWidth imm.bits))))

/-- With APX enabled (ADX for ADCX and ADOX), the source readable and a memory destination writable: INC and DEC add or
subtract 1 and keep CF, NEG subtracts from 0, NOT complements and writes no flag; ADCX adds with CF and writes CF
alone, ADOX adds with OF and writes OF alone. (R184, R186, R188, R189, R190, R191, R385, R386, 40_alu.md section 2) -/
def Obligations.OneOperandAndCarryChains : Prop :=
  (∀ (s : State) (sz : YSize) (reg : RegId) (rm : RM) (ndd : Option RegId),
    s.apxEnabled = true → s.params.features.adx = true → rmReady s sz.bits rm →
    exec (.adcx sz reg rm ndd) s =
      .next (resultState s sz.bits (dstReg reg ndd) (addWith (s.readGpr sz.bits reg) (rmValue s sz.bits rm)
        s.flags.cf) false (s.flags.withCf (decide (2 ^ sz.bits ≤ (s.readGpr sz.bits reg).toNat + (rmValue s sz.bits
        rm).toNat + s.flags.cf.toNat))))) ∧
  (∀ (s : State) (sz : YSize) (reg : RegId) (rm : RM) (ndd : Option RegId),
    s.apxEnabled = true → s.params.features.adx = true → rmReady s sz.bits rm →
    exec (.adox sz reg rm ndd) s =
      .next (resultState s sz.bits (dstReg reg ndd) (addWith (s.readGpr sz.bits reg) (rmValue s sz.bits rm)
        s.flags.of) false (s.flags.withOf (decide (2 ^ sz.bits ≤ (s.readGpr sz.bits reg).toNat + (rmValue s sz.bits
        rm).toNat + s.flags.of.toNat))))) ∧
  (∀ (s : State) (sz : OpSize) (rm : RM) (ndd : Option RegId) (nf : Bool),
    s.apxEnabled = true → rmReady s sz.bits rm → dstReady s sz.bits (dstRM rm ndd) →
    exec (.decRm sz rm ndd nf) s =
      .next (resultState s sz.bits (dstRM rm ndd) (rmValue s sz.bits rm - (BitVec.ofNat sz.bits 1)) nf ((subFlags
        (rmValue s sz.bits rm) (BitVec.ofNat sz.bits 1) false).withCf s.flags.cf))) ∧
  (∀ (s : State) (sz : OpSize) (rm : RM) (ndd : Option RegId) (nf : Bool),
    s.apxEnabled = true → rmReady s sz.bits rm → dstReady s sz.bits (dstRM rm ndd) →
    exec (.incRm sz rm ndd nf) s =
      .next (resultState s sz.bits (dstRM rm ndd) (rmValue s sz.bits rm + (BitVec.ofNat sz.bits 1)) nf ((addFlags
        (rmValue s sz.bits rm) (BitVec.ofNat sz.bits 1) false).withCf s.flags.cf))) ∧
  (∀ (s : State) (sz : OpSize) (rm : RM) (ndd : Option RegId) (nf : Bool),
    s.apxEnabled = true → rmReady s sz.bits rm → dstReady s sz.bits (dstRM rm ndd) →
    exec (.negRm sz rm ndd nf) s =
      .next (resultState s sz.bits (dstRM rm ndd) (0 - rmValue s sz.bits rm) nf (subFlags 0 (rmValue s sz.bits rm)
        false))) ∧
  (∀ (s : State) (sz : OpSize) (rm : RM) (ndd : Option RegId),
    s.apxEnabled = true → rmReady s sz.bits rm → dstReady s sz.bits (dstRM rm ndd) →
    exec (.notRm sz rm ndd) s = .next (putDst s sz.bits (dstRM rm ndd) (~~~(rmValue s sz.bits rm)))) ∧
  (∀ (s : State) (sz : OpSize) (rm : RM),
    s.apxEnabled = true → rmReady s sz.bits rm → dstReady s sz.bits (dstRM rm none) →
    exec (.rex2NotRm sz rm) s = .next (putDst s sz.bits (dstRM rm none) (~~~(rmValue s sz.bits rm)))) ∧
  (∀ (s : State) (sz : OpSize) (rm : RM),
    s.apxEnabled = true → rmReady s sz.bits rm → dstReady s sz.bits (dstRM rm none) →
    exec (.rex2NegRm sz rm) s =
      .next (resultState s sz.bits (dstRM rm none) (0 - rmValue s sz.bits rm) false (subFlags 0 (rmValue s sz.bits rm)
        false))) ∧
  (∀ (s : State) (sz : OpSize) (rm : RM),
    s.apxEnabled = true → rmReady s sz.bits rm → dstReady s sz.bits (dstRM rm none) →
    exec (.rex2IncRm sz rm) s =
      .next (resultState s sz.bits (dstRM rm none) (rmValue s sz.bits rm + (BitVec.ofNat sz.bits 1)) false ((addFlags
        (rmValue s sz.bits rm) (BitVec.ofNat sz.bits 1) false).withCf s.flags.cf))) ∧
  (∀ (s : State) (sz : OpSize) (rm : RM),
    s.apxEnabled = true → rmReady s sz.bits rm → dstReady s sz.bits (dstRM rm none) →
    exec (.rex2DecRm sz rm) s =
      .next (resultState s sz.bits (dstRM rm none) (rmValue s sz.bits rm - (BitVec.ofNat sz.bits 1)) false ((subFlags
        (rmValue s sz.bits rm) (BitVec.ofNat sz.bits 1) false).withCf s.flags.cf)))

/-- With APX enabled, the source readable and a memory destination writable, each form goes on: the destination receives
the source shifted or rotated by the masked count, and unless NF is 1 the flags are those of the operation, none
when the masked count is 0; undefined flags are unconstrained. That a masked count of 0 still writes the destination
(zeroing bits 63..32 of a 32-bit register) is the choice of the spec (R221, D8), log entry 38. (R220, R221, R222,
R223, R224, R225, R226, R227, R229, notes/assumptions/38.md) -/
def Obligations.EvexShiftsAndRotates : Prop :=
  (∀ (s : State) (sz : OpSize) (rm : RM) (imm : BitVec 8) (ndd : Option RegId),
    s.apxEnabled = true → rmReady s sz.bits rm → dstReady s sz.bits (dstRM rm ndd) →
    ∃ (any : Nat → Bool), exec (.rclRmI8 sz rm imm ndd) s =
      .next (resultState s sz.bits (dstRM rm ndd) (ShiftOp.result .rcl s.flags.cf (rmValue s sz.bits rm) (maskedCount
        sz.bits imm.toNat)) false (shiftFlags .rcl s.flags any (rmValue s sz.bits rm) (maskedCount sz.bits
        imm.toNat)))) ∧
  (∀ (s : State) (sz : OpSize) (rm : RM) (ndd : Option RegId),
    s.apxEnabled = true → rmReady s sz.bits rm → dstReady s sz.bits (dstRM rm ndd) →
    ∃ (any : Nat → Bool), exec (.rclRmOne sz rm ndd) s =
      .next (resultState s sz.bits (dstRM rm ndd) (ShiftOp.result .rcl s.flags.cf (rmValue s sz.bits rm) (maskedCount
        sz.bits 1)) false (shiftFlags .rcl s.flags any (rmValue s sz.bits rm) (maskedCount sz.bits 1)))) ∧
  (∀ (s : State) (sz : OpSize) (rm : RM) (ndd : Option RegId),
    s.apxEnabled = true → rmReady s sz.bits rm → dstReady s sz.bits (dstRM rm ndd) →
    ∃ (any : Nat → Bool), exec (.rclRmCl sz rm ndd) s =
      .next (resultState s sz.bits (dstRM rm ndd) (ShiftOp.result .rcl s.flags.cf (rmValue s sz.bits rm) (maskedCount
        sz.bits (s.readGpr 8 1).toNat)) false (shiftFlags .rcl s.flags any (rmValue s sz.bits rm) (maskedCount sz.bits
        (s.readGpr 8 1).toNat)))) ∧
  (∀ (s : State) (sz : OpSize) (rm : RM) (imm : BitVec 8) (ndd : Option RegId),
    s.apxEnabled = true → rmReady s sz.bits rm → dstReady s sz.bits (dstRM rm ndd) →
    ∃ (any : Nat → Bool), exec (.rcrRmI8 sz rm imm ndd) s =
      .next (resultState s sz.bits (dstRM rm ndd) (ShiftOp.result .rcr s.flags.cf (rmValue s sz.bits rm) (maskedCount
        sz.bits imm.toNat)) false (shiftFlags .rcr s.flags any (rmValue s sz.bits rm) (maskedCount sz.bits
        imm.toNat)))) ∧
  (∀ (s : State) (sz : OpSize) (rm : RM) (ndd : Option RegId),
    s.apxEnabled = true → rmReady s sz.bits rm → dstReady s sz.bits (dstRM rm ndd) →
    ∃ (any : Nat → Bool), exec (.rcrRmOne sz rm ndd) s =
      .next (resultState s sz.bits (dstRM rm ndd) (ShiftOp.result .rcr s.flags.cf (rmValue s sz.bits rm) (maskedCount
        sz.bits 1)) false (shiftFlags .rcr s.flags any (rmValue s sz.bits rm) (maskedCount sz.bits 1)))) ∧
  (∀ (s : State) (sz : OpSize) (rm : RM) (ndd : Option RegId),
    s.apxEnabled = true → rmReady s sz.bits rm → dstReady s sz.bits (dstRM rm ndd) →
    ∃ (any : Nat → Bool), exec (.rcrRmCl sz rm ndd) s =
      .next (resultState s sz.bits (dstRM rm ndd) (ShiftOp.result .rcr s.flags.cf (rmValue s sz.bits rm) (maskedCount
        sz.bits (s.readGpr 8 1).toNat)) false (shiftFlags .rcr s.flags any (rmValue s sz.bits rm) (maskedCount sz.bits
        (s.readGpr 8 1).toNat)))) ∧
  (∀ (s : State) (sz : OpSize) (rm : RM) (imm : BitVec 8) (ndd : Option RegId) (nf : Bool),
    s.apxEnabled = true → rmReady s sz.bits rm → dstReady s sz.bits (dstRM rm ndd) →
    ∃ (any : Nat → Bool), exec (.rolRmI8 sz rm imm ndd nf) s =
      .next (resultState s sz.bits (dstRM rm ndd) ((rmValue s sz.bits rm).rotateLeft ((maskedCount sz.bits imm.toNat)
        % sz.bits)) nf (shiftFlags .rol s.flags any (rmValue s sz.bits rm) (maskedCount sz.bits imm.toNat)))) ∧
  (∀ (s : State) (sz : OpSize) (rm : RM) (ndd : Option RegId) (nf : Bool),
    s.apxEnabled = true → rmReady s sz.bits rm → dstReady s sz.bits (dstRM rm ndd) →
    ∃ (any : Nat → Bool), exec (.rolRmOne sz rm ndd nf) s =
      .next (resultState s sz.bits (dstRM rm ndd) ((rmValue s sz.bits rm).rotateLeft ((maskedCount sz.bits 1) %
        sz.bits)) nf (shiftFlags .rol s.flags any (rmValue s sz.bits rm) (maskedCount sz.bits 1)))) ∧
  (∀ (s : State) (sz : OpSize) (rm : RM) (ndd : Option RegId) (nf : Bool),
    s.apxEnabled = true → rmReady s sz.bits rm → dstReady s sz.bits (dstRM rm ndd) →
    ∃ (any : Nat → Bool), exec (.rolRmCl sz rm ndd nf) s =
      .next (resultState s sz.bits (dstRM rm ndd) ((rmValue s sz.bits rm).rotateLeft ((maskedCount sz.bits (s.readGpr
        8 1).toNat) % sz.bits)) nf (shiftFlags .rol s.flags any (rmValue s sz.bits rm) (maskedCount sz.bits (s.readGpr
        8 1).toNat)))) ∧
  (∀ (s : State) (sz : OpSize) (rm : RM) (imm : BitVec 8) (ndd : Option RegId) (nf : Bool),
    s.apxEnabled = true → rmReady s sz.bits rm → dstReady s sz.bits (dstRM rm ndd) →
    ∃ (any : Nat → Bool), exec (.rorRmI8 sz rm imm ndd nf) s =
      .next (resultState s sz.bits (dstRM rm ndd) ((rmValue s sz.bits rm).rotateRight ((maskedCount sz.bits imm.toNat)
        % sz.bits)) nf (shiftFlags .ror s.flags any (rmValue s sz.bits rm) (maskedCount sz.bits imm.toNat)))) ∧
  (∀ (s : State) (sz : OpSize) (rm : RM) (ndd : Option RegId) (nf : Bool),
    s.apxEnabled = true → rmReady s sz.bits rm → dstReady s sz.bits (dstRM rm ndd) →
    ∃ (any : Nat → Bool), exec (.rorRmOne sz rm ndd nf) s =
      .next (resultState s sz.bits (dstRM rm ndd) ((rmValue s sz.bits rm).rotateRight ((maskedCount sz.bits 1) %
        sz.bits)) nf (shiftFlags .ror s.flags any (rmValue s sz.bits rm) (maskedCount sz.bits 1)))) ∧
  (∀ (s : State) (sz : OpSize) (rm : RM) (ndd : Option RegId) (nf : Bool),
    s.apxEnabled = true → rmReady s sz.bits rm → dstReady s sz.bits (dstRM rm ndd) →
    ∃ (any : Nat → Bool), exec (.rorRmCl sz rm ndd nf) s =
      .next (resultState s sz.bits (dstRM rm ndd) ((rmValue s sz.bits rm).rotateRight ((maskedCount sz.bits (s.readGpr
        8 1).toNat) % sz.bits)) nf (shiftFlags .ror s.flags any (rmValue s sz.bits rm) (maskedCount sz.bits (s.readGpr
        8 1).toNat)))) ∧
  (∀ (s : State) (sz : OpSize) (rm : RM) (imm : BitVec 8) (ndd : Option RegId) (nf : Bool),
    s.apxEnabled = true → rmReady s sz.bits rm → dstReady s sz.bits (dstRM rm ndd) →
    ∃ (any : Nat → Bool), exec (.sarRmI8 sz rm imm ndd nf) s =
      .next (resultState s sz.bits (dstRM rm ndd) ((rmValue s sz.bits rm).sshiftRight (maskedCount sz.bits imm.toNat))
        nf (shiftFlags .sar s.flags any (rmValue s sz.bits rm) (maskedCount sz.bits imm.toNat)))) ∧
  (∀ (s : State) (sz : OpSize) (rm : RM) (ndd : Option RegId) (nf : Bool),
    s.apxEnabled = true → rmReady s sz.bits rm → dstReady s sz.bits (dstRM rm ndd) →
    ∃ (any : Nat → Bool), exec (.sarRmOne sz rm ndd nf) s =
      .next (resultState s sz.bits (dstRM rm ndd) ((rmValue s sz.bits rm).sshiftRight (maskedCount sz.bits 1)) nf
        (shiftFlags .sar s.flags any (rmValue s sz.bits rm) (maskedCount sz.bits 1)))) ∧
  (∀ (s : State) (sz : OpSize) (rm : RM) (ndd : Option RegId) (nf : Bool),
    s.apxEnabled = true → rmReady s sz.bits rm → dstReady s sz.bits (dstRM rm ndd) →
    ∃ (any : Nat → Bool), exec (.sarRmCl sz rm ndd nf) s =
      .next (resultState s sz.bits (dstRM rm ndd) ((rmValue s sz.bits rm).sshiftRight (maskedCount sz.bits (s.readGpr
        8 1).toNat)) nf (shiftFlags .sar s.flags any (rmValue s sz.bits rm) (maskedCount sz.bits (s.readGpr 8
        1).toNat)))) ∧
  (∀ (s : State) (alt : Bool) (sz : OpSize) (rm : RM) (imm : BitVec 8) (ndd : Option RegId) (nf : Bool),
    s.apxEnabled = true → rmReady s sz.bits rm → dstReady s sz.bits (dstRM rm ndd) →
    ∃ (any : Nat → Bool), exec (.shlRmI8 alt sz rm imm ndd nf) s =
      .next (resultState s sz.bits (dstRM rm ndd) (rmValue s sz.bits rm <<< (maskedCount sz.bits imm.toNat)) nf
        (shiftFlags .shl s.flags any (rmValue s sz.bits rm) (maskedCount sz.bits imm.toNat)))) ∧
  (∀ (s : State) (alt : Bool) (sz : OpSize) (rm : RM) (ndd : Option RegId) (nf : Bool),
    s.apxEnabled = true → rmReady s sz.bits rm → dstReady s sz.bits (dstRM rm ndd) →
    ∃ (any : Nat → Bool), exec (.shlRmOne alt sz rm ndd nf) s =
      .next (resultState s sz.bits (dstRM rm ndd) (rmValue s sz.bits rm <<< (maskedCount sz.bits 1)) nf (shiftFlags
        .shl s.flags any (rmValue s sz.bits rm) (maskedCount sz.bits 1)))) ∧
  (∀ (s : State) (alt : Bool) (sz : OpSize) (rm : RM) (ndd : Option RegId) (nf : Bool),
    s.apxEnabled = true → rmReady s sz.bits rm → dstReady s sz.bits (dstRM rm ndd) →
    ∃ (any : Nat → Bool), exec (.shlRmCl alt sz rm ndd nf) s =
      .next (resultState s sz.bits (dstRM rm ndd) (rmValue s sz.bits rm <<< (maskedCount sz.bits (s.readGpr 8
        1).toNat)) nf (shiftFlags .shl s.flags any (rmValue s sz.bits rm) (maskedCount sz.bits (s.readGpr 8
        1).toNat)))) ∧
  (∀ (s : State) (sz : OpSize) (rm : RM) (imm : BitVec 8) (ndd : Option RegId) (nf : Bool),
    s.apxEnabled = true → rmReady s sz.bits rm → dstReady s sz.bits (dstRM rm ndd) →
    ∃ (any : Nat → Bool), exec (.shrRmI8 sz rm imm ndd nf) s =
      .next (resultState s sz.bits (dstRM rm ndd) (rmValue s sz.bits rm >>> (maskedCount sz.bits imm.toNat)) nf
        (shiftFlags .shr s.flags any (rmValue s sz.bits rm) (maskedCount sz.bits imm.toNat)))) ∧
  (∀ (s : State) (sz : OpSize) (rm : RM) (ndd : Option RegId) (nf : Bool),
    s.apxEnabled = true → rmReady s sz.bits rm → dstReady s sz.bits (dstRM rm ndd) →
    ∃ (any : Nat → Bool), exec (.shrRmOne sz rm ndd nf) s =
      .next (resultState s sz.bits (dstRM rm ndd) (rmValue s sz.bits rm >>> (maskedCount sz.bits 1)) nf (shiftFlags
        .shr s.flags any (rmValue s sz.bits rm) (maskedCount sz.bits 1)))) ∧
  (∀ (s : State) (sz : OpSize) (rm : RM) (ndd : Option RegId) (nf : Bool),
    s.apxEnabled = true → rmReady s sz.bits rm → dstReady s sz.bits (dstRM rm ndd) →
    ∃ (any : Nat → Bool), exec (.shrRmCl sz rm ndd nf) s =
      .next (resultState s sz.bits (dstRM rm ndd) (rmValue s sz.bits rm >>> (maskedCount sz.bits (s.readGpr 8
        1).toNat)) nf (shiftFlags .shr s.flags any (rmValue s sz.bits rm) (maskedCount sz.bits (s.readGpr 8
        1).toNat))))

/-- With APX enabled, the source readable and a memory destination writable, each REX2 form goes on: the destination
receives the source shifted or rotated by the masked count, and the flags are those of the operation; undefined
flags are unconstrained. That a masked count of 0 still writes the destination (zeroing bits 63..32 of a 32-bit
register) is the choice of the spec (R221, R384, D8), log entry 38. (R384, R221, 45_jmpabs_rex2.md section 4,
41_shift_rotate.md, notes/assumptions/38.md) -/
def Obligations.Rex2ShiftsAndRotates : Prop :=
  (∀ (s : State) (sz : OpSize) (rm : RM) (imm : BitVec 8),
    s.apxEnabled = true → rmReady s sz.bits rm → dstReady s sz.bits (dstRM rm none) →
    ∃ (any : Nat → Bool), exec (.rex2RolRmI8 sz rm imm) s =
      .next (resultState s sz.bits (dstRM rm none) ((rmValue s sz.bits rm).rotateLeft ((maskedCount sz.bits imm.toNat)
        % sz.bits)) false (shiftFlags .rol s.flags any (rmValue s sz.bits rm) (maskedCount sz.bits imm.toNat)))) ∧
  (∀ (s : State) (sz : OpSize) (rm : RM) (imm : BitVec 8),
    s.apxEnabled = true → rmReady s sz.bits rm → dstReady s sz.bits (dstRM rm none) →
    ∃ (any : Nat → Bool), exec (.rex2RorRmI8 sz rm imm) s =
      .next (resultState s sz.bits (dstRM rm none) ((rmValue s sz.bits rm).rotateRight ((maskedCount sz.bits
        imm.toNat) % sz.bits)) false (shiftFlags .ror s.flags any (rmValue s sz.bits rm) (maskedCount sz.bits
        imm.toNat)))) ∧
  (∀ (s : State) (sz : OpSize) (rm : RM) (imm : BitVec 8),
    s.apxEnabled = true → rmReady s sz.bits rm → dstReady s sz.bits (dstRM rm none) →
    ∃ (any : Nat → Bool), exec (.rex2RclRmI8 sz rm imm) s =
      .next (resultState s sz.bits (dstRM rm none) (ShiftOp.result .rcl s.flags.cf (rmValue s sz.bits rm) (maskedCount
        sz.bits imm.toNat)) false (shiftFlags .rcl s.flags any (rmValue s sz.bits rm) (maskedCount sz.bits
        imm.toNat)))) ∧
  (∀ (s : State) (sz : OpSize) (rm : RM) (imm : BitVec 8),
    s.apxEnabled = true → rmReady s sz.bits rm → dstReady s sz.bits (dstRM rm none) →
    ∃ (any : Nat → Bool), exec (.rex2RcrRmI8 sz rm imm) s =
      .next (resultState s sz.bits (dstRM rm none) (ShiftOp.result .rcr s.flags.cf (rmValue s sz.bits rm) (maskedCount
        sz.bits imm.toNat)) false (shiftFlags .rcr s.flags any (rmValue s sz.bits rm) (maskedCount sz.bits
        imm.toNat)))) ∧
  (∀ (s : State) (alt : Bool) (sz : OpSize) (rm : RM) (imm : BitVec 8),
    s.apxEnabled = true → rmReady s sz.bits rm → dstReady s sz.bits (dstRM rm none) →
    ∃ (any : Nat → Bool), exec (.rex2ShlRmI8 alt sz rm imm) s =
      .next (resultState s sz.bits (dstRM rm none) (rmValue s sz.bits rm <<< (maskedCount sz.bits imm.toNat)) false
        (shiftFlags .shl s.flags any (rmValue s sz.bits rm) (maskedCount sz.bits imm.toNat)))) ∧
  (∀ (s : State) (sz : OpSize) (rm : RM) (imm : BitVec 8),
    s.apxEnabled = true → rmReady s sz.bits rm → dstReady s sz.bits (dstRM rm none) →
    ∃ (any : Nat → Bool), exec (.rex2ShrRmI8 sz rm imm) s =
      .next (resultState s sz.bits (dstRM rm none) (rmValue s sz.bits rm >>> (maskedCount sz.bits imm.toNat)) false
        (shiftFlags .shr s.flags any (rmValue s sz.bits rm) (maskedCount sz.bits imm.toNat)))) ∧
  (∀ (s : State) (sz : OpSize) (rm : RM) (imm : BitVec 8),
    s.apxEnabled = true → rmReady s sz.bits rm → dstReady s sz.bits (dstRM rm none) →
    ∃ (any : Nat → Bool), exec (.rex2SarRmI8 sz rm imm) s =
      .next (resultState s sz.bits (dstRM rm none) ((rmValue s sz.bits rm).sshiftRight (maskedCount sz.bits
        imm.toNat)) false (shiftFlags .sar s.flags any (rmValue s sz.bits rm) (maskedCount sz.bits imm.toNat)))) ∧
  (∀ (s : State) (sz : OpSize) (rm : RM),
    s.apxEnabled = true → rmReady s sz.bits rm → dstReady s sz.bits (dstRM rm none) →
    ∃ (any : Nat → Bool), exec (.rex2RolRmOne sz rm) s =
      .next (resultState s sz.bits (dstRM rm none) ((rmValue s sz.bits rm).rotateLeft ((maskedCount sz.bits 1) %
        sz.bits)) false (shiftFlags .rol s.flags any (rmValue s sz.bits rm) (maskedCount sz.bits 1)))) ∧
  (∀ (s : State) (sz : OpSize) (rm : RM),
    s.apxEnabled = true → rmReady s sz.bits rm → dstReady s sz.bits (dstRM rm none) →
    ∃ (any : Nat → Bool), exec (.rex2RorRmOne sz rm) s =
      .next (resultState s sz.bits (dstRM rm none) ((rmValue s sz.bits rm).rotateRight ((maskedCount sz.bits 1) %
        sz.bits)) false (shiftFlags .ror s.flags any (rmValue s sz.bits rm) (maskedCount sz.bits 1)))) ∧
  (∀ (s : State) (sz : OpSize) (rm : RM),
    s.apxEnabled = true → rmReady s sz.bits rm → dstReady s sz.bits (dstRM rm none) →
    ∃ (any : Nat → Bool), exec (.rex2RclRmOne sz rm) s =
      .next (resultState s sz.bits (dstRM rm none) (ShiftOp.result .rcl s.flags.cf (rmValue s sz.bits rm) (maskedCount
        sz.bits 1)) false (shiftFlags .rcl s.flags any (rmValue s sz.bits rm) (maskedCount sz.bits 1)))) ∧
  (∀ (s : State) (sz : OpSize) (rm : RM),
    s.apxEnabled = true → rmReady s sz.bits rm → dstReady s sz.bits (dstRM rm none) →
    ∃ (any : Nat → Bool), exec (.rex2RcrRmOne sz rm) s =
      .next (resultState s sz.bits (dstRM rm none) (ShiftOp.result .rcr s.flags.cf (rmValue s sz.bits rm) (maskedCount
        sz.bits 1)) false (shiftFlags .rcr s.flags any (rmValue s sz.bits rm) (maskedCount sz.bits 1)))) ∧
  (∀ (s : State) (alt : Bool) (sz : OpSize) (rm : RM),
    s.apxEnabled = true → rmReady s sz.bits rm → dstReady s sz.bits (dstRM rm none) →
    ∃ (any : Nat → Bool), exec (.rex2ShlRmOne alt sz rm) s =
      .next (resultState s sz.bits (dstRM rm none) (rmValue s sz.bits rm <<< (maskedCount sz.bits 1)) false
        (shiftFlags .shl s.flags any (rmValue s sz.bits rm) (maskedCount sz.bits 1)))) ∧
  (∀ (s : State) (sz : OpSize) (rm : RM),
    s.apxEnabled = true → rmReady s sz.bits rm → dstReady s sz.bits (dstRM rm none) →
    ∃ (any : Nat → Bool), exec (.rex2ShrRmOne sz rm) s =
      .next (resultState s sz.bits (dstRM rm none) (rmValue s sz.bits rm >>> (maskedCount sz.bits 1)) false
        (shiftFlags .shr s.flags any (rmValue s sz.bits rm) (maskedCount sz.bits 1)))) ∧
  (∀ (s : State) (sz : OpSize) (rm : RM),
    s.apxEnabled = true → rmReady s sz.bits rm → dstReady s sz.bits (dstRM rm none) →
    ∃ (any : Nat → Bool), exec (.rex2SarRmOne sz rm) s =
      .next (resultState s sz.bits (dstRM rm none) ((rmValue s sz.bits rm).sshiftRight (maskedCount sz.bits 1)) false
        (shiftFlags .sar s.flags any (rmValue s sz.bits rm) (maskedCount sz.bits 1)))) ∧
  (∀ (s : State) (sz : OpSize) (rm : RM),
    s.apxEnabled = true → rmReady s sz.bits rm → dstReady s sz.bits (dstRM rm none) →
    ∃ (any : Nat → Bool), exec (.rex2RolRmCl sz rm) s =
      .next (resultState s sz.bits (dstRM rm none) ((rmValue s sz.bits rm).rotateLeft ((maskedCount sz.bits (s.readGpr
        8 1).toNat) % sz.bits)) false (shiftFlags .rol s.flags any (rmValue s sz.bits rm) (maskedCount sz.bits
        (s.readGpr 8 1).toNat)))) ∧
  (∀ (s : State) (sz : OpSize) (rm : RM),
    s.apxEnabled = true → rmReady s sz.bits rm → dstReady s sz.bits (dstRM rm none) →
    ∃ (any : Nat → Bool), exec (.rex2RorRmCl sz rm) s =
      .next (resultState s sz.bits (dstRM rm none) ((rmValue s sz.bits rm).rotateRight ((maskedCount sz.bits
        (s.readGpr 8 1).toNat) % sz.bits)) false (shiftFlags .ror s.flags any (rmValue s sz.bits rm) (maskedCount
        sz.bits (s.readGpr 8 1).toNat)))) ∧
  (∀ (s : State) (sz : OpSize) (rm : RM),
    s.apxEnabled = true → rmReady s sz.bits rm → dstReady s sz.bits (dstRM rm none) →
    ∃ (any : Nat → Bool), exec (.rex2RclRmCl sz rm) s =
      .next (resultState s sz.bits (dstRM rm none) (ShiftOp.result .rcl s.flags.cf (rmValue s sz.bits rm) (maskedCount
        sz.bits (s.readGpr 8 1).toNat)) false (shiftFlags .rcl s.flags any (rmValue s sz.bits rm) (maskedCount sz.bits
        (s.readGpr 8 1).toNat)))) ∧
  (∀ (s : State) (sz : OpSize) (rm : RM),
    s.apxEnabled = true → rmReady s sz.bits rm → dstReady s sz.bits (dstRM rm none) →
    ∃ (any : Nat → Bool), exec (.rex2RcrRmCl sz rm) s =
      .next (resultState s sz.bits (dstRM rm none) (ShiftOp.result .rcr s.flags.cf (rmValue s sz.bits rm) (maskedCount
        sz.bits (s.readGpr 8 1).toNat)) false (shiftFlags .rcr s.flags any (rmValue s sz.bits rm) (maskedCount sz.bits
        (s.readGpr 8 1).toNat)))) ∧
  (∀ (s : State) (alt : Bool) (sz : OpSize) (rm : RM),
    s.apxEnabled = true → rmReady s sz.bits rm → dstReady s sz.bits (dstRM rm none) →
    ∃ (any : Nat → Bool), exec (.rex2ShlRmCl alt sz rm) s =
      .next (resultState s sz.bits (dstRM rm none) (rmValue s sz.bits rm <<< (maskedCount sz.bits (s.readGpr 8
        1).toNat)) false (shiftFlags .shl s.flags any (rmValue s sz.bits rm) (maskedCount sz.bits (s.readGpr 8
        1).toNat)))) ∧
  (∀ (s : State) (sz : OpSize) (rm : RM),
    s.apxEnabled = true → rmReady s sz.bits rm → dstReady s sz.bits (dstRM rm none) →
    ∃ (any : Nat → Bool), exec (.rex2ShrRmCl sz rm) s =
      .next (resultState s sz.bits (dstRM rm none) (rmValue s sz.bits rm >>> (maskedCount sz.bits (s.readGpr 8
        1).toNat)) false (shiftFlags .shr s.flags any (rmValue s sz.bits rm) (maskedCount sz.bits (s.readGpr 8
        1).toNat)))) ∧
  (∀ (s : State) (sz : OpSize) (rm : RM),
    s.apxEnabled = true → rmReady s sz.bits rm → dstReady s sz.bits (dstRM rm none) →
    ∃ (any : Nat → Bool), exec (.rex2SarRmCl sz rm) s =
      .next (resultState s sz.bits (dstRM rm none) ((rmValue s sz.bits rm).sshiftRight (maskedCount sz.bits (s.readGpr
        8 1).toNat)) false (shiftFlags .sar s.flags any (rmValue s sz.bits rm) (maskedCount sz.bits (s.readGpr 8
        1).toNat))))

/-- With APX enabled, the source readable and a memory destination writable, each form goes on: the destination receives
the double-precision shift by the masked count, or an unconstrained value when the count exceeds the width, and the
flags those of the operation; undefined flags are unconstrained. For a masked count c from 1 to N, SHLD fills the c
low places with the top bits of the second operand and SHRD the c high places with its low bits; CF is the last bit
shifted out, OF for c = 1 says that the top bit changed, SF, ZF and PF are those of the result. A masked count of 0
gives the operand and keeps the flags; that it still writes the destination, which the source marks as conditionally
written, is the choice of the spec (R221, R228, D8), log entry 38. (R228, R230, R384, R221, 41_shift_rotate.md
section 2, notes/assumptions/38.md) -/
def Obligations.DoubleShifts : Prop :=
  (∀ (s : State) (sz : OSize) (rm : RM) (reg : RegId) (imm : BitVec 8) (ndd : Option RegId) (nf : Bool),
    s.apxEnabled = true → rmReady s sz.bits rm → dstReady s sz.bits (dstRM rm ndd) →
    ∃ (any : Nat → Bool) (w : Word), exec (.shldRmRI8 sz rm reg imm ndd nf) s =
      .next (resultState s sz.bits (dstRM rm ndd) (doubleResult true w (rmValue s sz.bits rm) (s.readGpr sz.bits reg)
        (maskedCount sz.bits imm.toNat)) nf (doubleFlags true s.flags any w (rmValue s sz.bits rm) (s.readGpr sz.bits
        reg) (maskedCount sz.bits imm.toNat)))) ∧
  (∀ (s : State) (sz : OSize) (rm : RM) (reg : RegId) (ndd : Option RegId) (nf : Bool),
    s.apxEnabled = true → rmReady s sz.bits rm → dstReady s sz.bits (dstRM rm ndd) →
    ∃ (any : Nat → Bool) (w : Word), exec (.shldRmRCl sz rm reg ndd nf) s =
      .next (resultState s sz.bits (dstRM rm ndd) (doubleResult true w (rmValue s sz.bits rm) (s.readGpr sz.bits reg)
        (maskedCount sz.bits (s.readGpr 8 1).toNat)) nf (doubleFlags true s.flags any w (rmValue s sz.bits rm)
        (s.readGpr sz.bits reg) (maskedCount sz.bits (s.readGpr 8 1).toNat)))) ∧
  (∀ (s : State) (sz : OSize) (rm : RM) (reg : RegId) (imm : BitVec 8) (ndd : Option RegId) (nf : Bool),
    s.apxEnabled = true → rmReady s sz.bits rm → dstReady s sz.bits (dstRM rm ndd) →
    ∃ (any : Nat → Bool) (w : Word), exec (.shrdRmRI8 sz rm reg imm ndd nf) s =
      .next (resultState s sz.bits (dstRM rm ndd) (doubleResult false w (rmValue s sz.bits rm) (s.readGpr sz.bits reg)
        (maskedCount sz.bits imm.toNat)) nf (doubleFlags false s.flags any w (rmValue s sz.bits rm) (s.readGpr sz.bits
        reg) (maskedCount sz.bits imm.toNat)))) ∧
  (∀ (s : State) (sz : OSize) (rm : RM) (reg : RegId) (ndd : Option RegId) (nf : Bool),
    s.apxEnabled = true → rmReady s sz.bits rm → dstReady s sz.bits (dstRM rm ndd) →
    ∃ (any : Nat → Bool) (w : Word), exec (.shrdRmRCl sz rm reg ndd nf) s =
      .next (resultState s sz.bits (dstRM rm ndd) (doubleResult false w (rmValue s sz.bits rm) (s.readGpr sz.bits reg)
        (maskedCount sz.bits (s.readGpr 8 1).toNat)) nf (doubleFlags false s.flags any w (rmValue s sz.bits rm)
        (s.readGpr sz.bits reg) (maskedCount sz.bits (s.readGpr 8 1).toNat)))) ∧
  (∀ (s : State) (sz : OSize) (rm : RM) (reg : RegId) (imm : BitVec 8),
    s.apxEnabled = true → rmReady s sz.bits rm → dstReady s sz.bits (dstRM rm none) →
    ∃ (any : Nat → Bool) (w : Word), exec (.rex2ShldRmRI8 sz rm reg imm) s =
      .next (resultState s sz.bits (dstRM rm none) (doubleResult true w (rmValue s sz.bits rm) (s.readGpr sz.bits reg)
        (maskedCount sz.bits imm.toNat)) false (doubleFlags true s.flags any w (rmValue s sz.bits rm) (s.readGpr
        sz.bits reg) (maskedCount sz.bits imm.toNat)))) ∧
  (∀ (s : State) (sz : OSize) (rm : RM) (reg : RegId),
    s.apxEnabled = true → rmReady s sz.bits rm → dstReady s sz.bits (dstRM rm none) →
    ∃ (any : Nat → Bool) (w : Word), exec (.rex2ShldRmRCl sz rm reg) s =
      .next (resultState s sz.bits (dstRM rm none) (doubleResult true w (rmValue s sz.bits rm) (s.readGpr sz.bits reg)
        (maskedCount sz.bits (s.readGpr 8 1).toNat)) false (doubleFlags true s.flags any w (rmValue s sz.bits rm)
        (s.readGpr sz.bits reg) (maskedCount sz.bits (s.readGpr 8 1).toNat)))) ∧
  (∀ (s : State) (sz : OSize) (rm : RM) (reg : RegId) (imm : BitVec 8),
    s.apxEnabled = true → rmReady s sz.bits rm → dstReady s sz.bits (dstRM rm none) →
    ∃ (any : Nat → Bool) (w : Word), exec (.rex2ShrdRmRI8 sz rm reg imm) s =
      .next (resultState s sz.bits (dstRM rm none) (doubleResult false w (rmValue s sz.bits rm) (s.readGpr sz.bits
        reg) (maskedCount sz.bits imm.toNat)) false (doubleFlags false s.flags any w (rmValue s sz.bits rm) (s.readGpr
        sz.bits reg) (maskedCount sz.bits imm.toNat)))) ∧
  (∀ (s : State) (sz : OSize) (rm : RM) (reg : RegId),
    s.apxEnabled = true → rmReady s sz.bits rm → dstReady s sz.bits (dstRM rm none) →
    ∃ (any : Nat → Bool) (w : Word), exec (.rex2ShrdRmRCl sz rm reg) s =
      .next (resultState s sz.bits (dstRM rm none) (doubleResult false w (rmValue s sz.bits rm) (s.readGpr sz.bits
        reg) (maskedCount sz.bits (s.readGpr 8 1).toNat)) false (doubleFlags false s.flags any w (rmValue s sz.bits
        rm) (s.readGpr sz.bits reg) (maskedCount sz.bits (s.readGpr 8 1).toNat)))) ∧
  (∀ (N : Nat) (a b : BitVec N) (c : Nat) (w : Word) (old : Flags) (any : Nat → Bool) (left : Bool), 0 < N →
    doubleResult left w a b 0 = a ∧ doubleFlags left old any w a b 0 = old ∧     (c ≠ 0 → c ≤ N →       (∀ i < N,
    (doubleResult true w a b c).getLsbD i = if i < c then b.getLsbD (N - c + i) else a.getLsbD (i - c)) ∧       (∀ i <
    N, (doubleResult false w a b c).getLsbD i =         if i + c < N then a.getLsbD (i + c) else b.getLsbD (i + c -
    N)) ∧       (doubleFlags true old any w a b c).cf = a.getLsbD (N - c) ∧       (doubleFlags false old any w a b
    c).cf = a.getLsbD (c - 1) ∧       (c = 1 → (doubleFlags left old any w a b c).of = ((doubleResult left w a b
    c).msb ^^ a.msb)) ∧       (doubleFlags left old any w a b c).tellsOf (doubleResult left w a b c)) ∧     (N < c →
    doubleResult left w a b c = w.setWidth N ∧       doubleFlags left old any w a b c = ⟨any 0, any 1, any 2, any 3,
    any 4, any 5⟩))

/-- With APX enabled (BMI2 for MULX), the source readable: IMUL with a destination receives the truncated product, the
one-operand forms write AX or RDX:RAX, with CF = OF saying that the product does not fit and the other flags
unconstrained; MULX writes the low half, then the high half, and no flag. (R255, R260, R303, R383, R385,
42_muldiv_misc.md section 2) -/
def Obligations.Multiplications : Prop :=
  (∀ (s : State) (reg : RegId) (rm : RM) (imm : ImmZ) (zu nf : Bool),
    s.apxEnabled = true → rmReady s imm.bits rm →
    ∃ (any : Nat → Bool), exec (.imulRRmIz reg rm imm zu nf) s =
      .next (resultState s imm.bits (.reg reg zu) (rmValue s imm.bits rm * imm.value.setWidth imm.bits) nf (mulFlags
        any (imulOverflow (rmValue s imm.bits rm) (imm.value.setWidth imm.bits))))) ∧
  (∀ (s : State) (sz : OSize) (reg : RegId) (rm : RM) (imm : BitVec 8) (zu nf : Bool),
    s.apxEnabled = true → rmReady s sz.bits rm →
    ∃ (any : Nat → Bool), exec (.imulRRmI8 sz reg rm imm zu nf) s =
      .next (resultState s sz.bits (.reg reg zu) (rmValue s sz.bits rm * (imm.signExtend 64).setWidth sz.bits) nf
        (mulFlags any (imulOverflow (rmValue s sz.bits rm) ((imm.signExtend 64).setWidth sz.bits))))) ∧
  (∀ (s : State) (sz : OSize) (reg : RegId) (rm : RM) (ndd : Option RegId) (nf : Bool),
    s.apxEnabled = true → rmReady s sz.bits rm →
    ∃ (any : Nat → Bool), exec (.imulRRm sz reg rm ndd nf) s =
      .next (resultState s sz.bits (dstReg reg ndd) (s.readGpr sz.bits reg * rmValue s sz.bits rm) nf (mulFlags any
        (imulOverflow (s.readGpr sz.bits reg) (rmValue s sz.bits rm))))) ∧
  (∀ (s : State) (sz : OpSize) (rm : RM) (nf : Bool),
    s.apxEnabled = true → rmReady s sz.bits rm →
    ∃ (any : Nat → Bool), exec (.imulRm sz rm nf) s =
      .next ((writeWide sz.bits s (productLow true (s.readGpr sz.bits 0) (rmValue s sz.bits rm)) (productHigh true
        (s.readGpr sz.bits 0) (rmValue s sz.bits rm))).setFlagsUnless nf (mulFlags any (wideOverflow true (s.readGpr
        sz.bits 0) (rmValue s sz.bits rm))))) ∧
  (∀ (s : State) (sz : OpSize) (rm : RM) (nf : Bool),
    s.apxEnabled = true → rmReady s sz.bits rm →
    ∃ (any : Nat → Bool), exec (.mulRm sz rm nf) s =
      .next ((writeWide sz.bits s (productLow false (s.readGpr sz.bits 0) (rmValue s sz.bits rm)) (productHigh false
        (s.readGpr sz.bits 0) (rmValue s sz.bits rm))).setFlagsUnless nf (mulFlags any (wideOverflow false (s.readGpr
        sz.bits 0) (rmValue s sz.bits rm))))) ∧
  (∀ (s : State) (sz : YSize) (reg v : RegId) (rm : RM),
    s.apxEnabled = true → s.params.features.bmi2 = true → rmReady s sz.bits rm →
    exec (.mulx sz reg v rm) s =
      .next ((s.writeGpr sz.bits v (productLow false (s.readGpr sz.bits 2) (rmValue s sz.bits rm)) false).writeGpr
        sz.bits reg (productHigh false (s.readGpr sz.bits 2) (rmValue s sz.bits rm)) false)) ∧
  (∀ (s : State) (reg : RegId) (rm : RM) (imm : ImmZ),
    s.apxEnabled = true → rmReady s imm.bits rm →
    ∃ (any : Nat → Bool), exec (.rex2ImulRRmIz reg rm imm) s =
      .next (resultState s imm.bits (.reg reg false) (rmValue s imm.bits rm * imm.value.setWidth imm.bits) false
        (mulFlags any (imulOverflow (rmValue s imm.bits rm) (imm.value.setWidth imm.bits))))) ∧
  (∀ (s : State) (sz : OSize) (reg : RegId) (rm : RM) (imm : BitVec 8),
    s.apxEnabled = true → rmReady s sz.bits rm →
    ∃ (any : Nat → Bool), exec (.rex2ImulRRmI8 sz reg rm imm) s =
      .next (resultState s sz.bits (.reg reg false) (rmValue s sz.bits rm * (imm.signExtend 64).setWidth sz.bits)
        false (mulFlags any (imulOverflow (rmValue s sz.bits rm) ((imm.signExtend 64).setWidth sz.bits))))) ∧
  (∀ (s : State) (sz : OSize) (reg : RegId) (rm : RM),
    s.apxEnabled = true → rmReady s sz.bits rm →
    ∃ (any : Nat → Bool), exec (.rex2ImulRRm sz reg rm) s =
      .next (resultState s sz.bits (.reg reg false) (s.readGpr sz.bits reg * rmValue s sz.bits rm) false (mulFlags any
        (imulOverflow (s.readGpr sz.bits reg) (rmValue s sz.bits rm))))) ∧
  (∀ (s : State) (sz : OpSize) (rm : RM),
    s.apxEnabled = true → rmReady s sz.bits rm →
    ∃ (any : Nat → Bool), exec (.rex2MulRm sz rm) s =
      .next ((writeWide sz.bits s (productLow false (s.readGpr sz.bits 0) (rmValue s sz.bits rm)) (productHigh false
        (s.readGpr sz.bits 0) (rmValue s sz.bits rm))).setFlagsUnless false (mulFlags any (wideOverflow false
        (s.readGpr sz.bits 0) (rmValue s sz.bits rm))))) ∧
  (∀ (s : State) (sz : OpSize) (rm : RM),
    s.apxEnabled = true → rmReady s sz.bits rm →
    ∃ (any : Nat → Bool), exec (.rex2ImulRm sz rm) s =
      .next ((writeWide sz.bits s (productLow true (s.readGpr sz.bits 0) (rmValue s sz.bits rm)) (productHigh true
        (s.readGpr sz.bits 0) (rmValue s sz.bits rm))).setFlagsUnless false (mulFlags any (wideOverflow true
        (s.readGpr sz.bits 0) (rmValue s sz.bits rm)))))

/-- With APX enabled and the source readable: when quotient and remainder exist, they go to AL and AH or to RAX and RDX,
and the flags are unconstrained (kept when NF is 1); when the divisor is 0 or the quotient does not fit, #DE is
raised. (R253, R254, R385, R450, 42_muldiv_misc.md section 2) -/
def Obligations.Divisions : Prop :=
  (∀ (s : State) (sz : OpSize) (rm : RM) (nf : Bool) (q r : BitVec sz.bits),
    s.apxEnabled = true → rmReady s sz.bits rm → divide false (dividend sz.bits s) (rmValue s sz.bits rm) = some (q,
      r) →
    ∃ (f : Flags), exec (.divRm sz rm nf) s = .next ((writeWide sz.bits s q r).setFlagsUnless nf f)) ∧
  (∀ (s : State) (sz : OpSize) (rm : RM) (nf : Bool) (q r : BitVec sz.bits),
    s.apxEnabled = true → rmReady s sz.bits rm → divide true (dividend sz.bits s) (rmValue s sz.bits rm) = some (q, r)
      →
    ∃ (f : Flags), exec (.idivRm sz rm nf) s = .next ((writeWide sz.bits s q r).setFlagsUnless nf f)) ∧
  (∀ (s : State) (sz : OpSize) (rm : RM) (q r : BitVec sz.bits),
    s.apxEnabled = true → rmReady s sz.bits rm → divide false (dividend sz.bits s) (rmValue s sz.bits rm) = some (q,
      r) →
    ∃ (f : Flags), exec (.rex2DivRm sz rm) s = .next ((writeWide sz.bits s q r).setFlagsUnless false f)) ∧
  (∀ (s : State) (sz : OpSize) (rm : RM) (q r : BitVec sz.bits),
    s.apxEnabled = true → rmReady s sz.bits rm → divide true (dividend sz.bits s) (rmValue s sz.bits rm) = some (q, r)
      →
    ∃ (f : Flags), exec (.rex2IdivRm sz rm) s = .next ((writeWide sz.bits s q r).setFlagsUnless false f)) ∧
  (∀ (s : State) (sz : OpSize) (rm : RM) (nf : Bool),
    s.apxEnabled = true → rmReady s sz.bits rm → (rmValue s sz.bits rm = 0 ∨ 2 ^ sz.bits ≤ (dividend sz.bits s).toNat
      / (rmValue s sz.bits rm).toNat) →
    exec (.divRm sz rm nf) s = takeException .de) ∧
  (∀ (s : State) (sz : OpSize) (rm : RM) (nf : Bool),
    s.apxEnabled = true → rmReady s sz.bits rm → (rmValue s sz.bits rm = 0 ∨ (dividend sz.bits s).toInt.tdiv (rmValue
      s sz.bits rm).toInt < -(2 ^ (sz.bits - 1) : Int) ∨ (2 ^ (sz.bits - 1) : Int) ≤ (dividend sz.bits s).toInt.tdiv
      (rmValue s sz.bits rm).toInt) →
    exec (.idivRm sz rm nf) s = takeException .de) ∧
  (∀ (s : State) (sz : OpSize) (rm : RM),
    s.apxEnabled = true → rmReady s sz.bits rm → (rmValue s sz.bits rm = 0 ∨ 2 ^ sz.bits ≤ (dividend sz.bits s).toNat
      / (rmValue s sz.bits rm).toNat) →
    exec (.rex2DivRm sz rm) s = takeException .de) ∧
  (∀ (s : State) (sz : OpSize) (rm : RM),
    s.apxEnabled = true → rmReady s sz.bits rm → (rmValue s sz.bits rm = 0 ∨ (dividend sz.bits s).toInt.tdiv (rmValue
      s sz.bits rm).toInt < -(2 ^ (sz.bits - 1) : Int) ∨ (2 ^ (sz.bits - 1) : Int) ≤ (dividend sz.bits s).toInt.tdiv
      (rmValue s sz.bits rm).toInt) →
    exec (.rex2IdivRm sz rm) s = takeException .de)

/-- With APX and the feature enabled, the source readable and a memory destination writable: the counts go to the
destination register with their flags (undefined ones unconstrained, none when NF is 1), CRC32 updates the low 32
bits of the destination and clears the rest, MOVBE moves the reversed bytes. (R252, R256, R257, R261, R262,
42_muldiv_misc.md section 2) -/
def Obligations.CountsChecksumsAndByteSwaps : Prop :=
  (∀ (s : State) (sz : YSize) (reg : RegId) (rm : RM),
    s.apxEnabled = true → rmReady s 8 rm →
    exec (.crc32Rm8 sz reg rm) s =
      .next (s.writeGpr 32 reg (crcBytes (s.readGpr 32 reg) (leBytes (8 / 8) ((rmValue s 8 rm)).toNat)) false)) ∧
  (∀ (s : State) (sz : OSize) (reg : RegId) (rm : RM),
    s.apxEnabled = true → rmReady s sz.bits rm →
    exec (.crc32Rm sz reg rm) s =
      .next (s.writeGpr 32 reg (crcBytes (s.readGpr 32 reg) (leBytes (sz.bits / 8) ((rmValue s sz.bits rm)).toNat))
        false)) ∧
  (∀ (s : State) (sz : OSize) (reg : RegId) (rm : RM) (nf : Bool),
    s.apxEnabled = true → s.params.features.lzcnt = true → rmReady s sz.bits rm →
    ∃ (any : Nat → Bool), exec (.lzcnt sz reg rm nf) s =
      .next ((s.writeGpr sz.bits reg (BitVec.ofNat sz.bits (CountOp.count .lzcnt (rmValue s sz.bits rm)))
        false).setFlagsUnless nf (CountOp.flags .lzcnt any (rmValue s sz.bits rm)))) ∧
  (∀ (s : State) (sz : OSize) (reg : RegId) (rm : RM),
    s.apxEnabled = true → s.params.features.movbe = true → rmReady s sz.bits rm →
    exec (.movbeRRm sz reg rm) s =
      .next (putDst s sz.bits (dstReg reg none) (byteReverse ((rmValue s sz.bits rm))))) ∧
  (∀ (s : State) (sz : OSize) (rm : RM) (reg : RegId),
    s.apxEnabled = true → s.params.features.movbe = true → dstReady s sz.bits (dstRM rm none) →
    exec (.movbeRmR sz rm reg) s = .next (putDst s sz.bits (dstRM rm none) (byteReverse ((s.readGpr sz.bits reg))))) ∧
  (∀ (s : State) (sz : OSize) (reg : RegId) (rm : RM) (nf : Bool),
    s.apxEnabled = true → rmReady s sz.bits rm →
    ∃ (any : Nat → Bool), exec (.popcnt sz reg rm nf) s =
      .next ((s.writeGpr sz.bits reg (BitVec.ofNat sz.bits (CountOp.count .popcnt (rmValue s sz.bits rm)))
        false).setFlagsUnless nf (CountOp.flags .popcnt any (rmValue s sz.bits rm)))) ∧
  (∀ (s : State) (sz : OSize) (reg : RegId) (rm : RM) (nf : Bool),
    s.apxEnabled = true → s.params.features.bmi1 = true → rmReady s sz.bits rm →
    ∃ (any : Nat → Bool), exec (.tzcnt sz reg rm nf) s =
      .next ((s.writeGpr sz.bits reg (BitVec.ofNat sz.bits (CountOp.count .tzcnt (rmValue s sz.bits rm)))
        false).setFlagsUnless nf (CountOp.flags .tzcnt any (rmValue s sz.bits rm))))

/-- With APX and BMI1 or BMI2 enabled and the source readable, each instruction writes its result to its destination;
the first six write their flags unless NF is 1 (undefined ones unconstrained), the other six write none. (R291,
R292, R293, R294, R295, R296, R304, R305, R306, R307, R308, R309) -/
def Obligations.BitManipulation : Prop :=
  (∀ (s : State) (sz : YSize) (reg v : RegId) (rm : RM) (nf : Bool),
    s.apxEnabled = true → s.params.features.bmi1 = true → rmReady s sz.bits rm →
    ∃ (any : Nat → Bool), exec (.andn sz reg v rm nf) s =
      .next ((s.writeGpr sz.bits reg ((~~~(s.readGpr sz.bits v) &&& rmValue s sz.bits rm)) false).setFlagsUnless nf
        ⟨false, any 0, any 1, (~~~(s.readGpr sz.bits v) &&& rmValue s sz.bits rm) == 0, ((~~~(s.readGpr sz.bits v) &&&
        rmValue s sz.bits rm)).msb, false⟩)) ∧
  (∀ (s : State) (sz : YSize) (reg : RegId) (rm : RM) (v : RegId) (nf : Bool),
    s.apxEnabled = true → s.params.features.bmi1 = true → rmReady s sz.bits rm →
    ∃ (any : Nat → Bool), exec (.bextr sz reg rm v nf) s =
      .next ((s.writeGpr sz.bits reg ((bitField (rmValue s sz.bits rm) ((s.getGpr v).toNat % 256) ((s.getGpr v).toNat
        / 256 % 256))) false).setFlagsUnless nf ⟨false, any 0, any 1, (bitField (rmValue s sz.bits rm) ((s.getGpr
        v).toNat % 256) ((s.getGpr v).toNat / 256 % 256)) == 0, any 2, false⟩)) ∧
  (∀ (s : State) (sz : YSize) (v : RegId) (rm : RM) (nf : Bool),
    s.apxEnabled = true → s.params.features.bmi1 = true → rmReady s sz.bits rm →
    ∃ (any : Nat → Bool), exec (.blsi sz v rm nf) s =
      .next ((s.writeGpr sz.bits v (((0 - rmValue s sz.bits rm) &&& rmValue s sz.bits rm)) false).setFlagsUnless nf
        ⟨rmValue s sz.bits rm != 0, any 0, any 1, ((0 - rmValue s sz.bits rm) &&& rmValue s sz.bits rm) == 0, (((0 -
        rmValue s sz.bits rm) &&& rmValue s sz.bits rm)).msb, false⟩)) ∧
  (∀ (s : State) (sz : YSize) (v : RegId) (rm : RM) (nf : Bool),
    s.apxEnabled = true → s.params.features.bmi1 = true → rmReady s sz.bits rm →
    ∃ (any : Nat → Bool), exec (.blsmsk sz v rm nf) s =
      .next ((s.writeGpr sz.bits v (((rmValue s sz.bits rm - BitVec.ofNat sz.bits 1) ^^^ rmValue s sz.bits rm))
        false).setFlagsUnless nf ⟨rmValue s sz.bits rm == 0, any 0, any 1, false, (((rmValue s sz.bits rm -
        BitVec.ofNat sz.bits 1) ^^^ rmValue s sz.bits rm)).msb, false⟩)) ∧
  (∀ (s : State) (sz : YSize) (v : RegId) (rm : RM) (nf : Bool),
    s.apxEnabled = true → s.params.features.bmi1 = true → rmReady s sz.bits rm →
    ∃ (any : Nat → Bool), exec (.blsr sz v rm nf) s =
      .next ((s.writeGpr sz.bits v (((rmValue s sz.bits rm - BitVec.ofNat sz.bits 1) &&& rmValue s sz.bits rm))
        false).setFlagsUnless nf ⟨rmValue s sz.bits rm == 0, any 0, any 1, ((rmValue s sz.bits rm - BitVec.ofNat
        sz.bits 1) &&& rmValue s sz.bits rm) == 0, (((rmValue s sz.bits rm - BitVec.ofNat sz.bits 1) &&& rmValue s
        sz.bits rm)).msb, false⟩)) ∧
  (∀ (s : State) (sz : YSize) (reg : RegId) (rm : RM) (v : RegId) (nf : Bool),
    s.apxEnabled = true → s.params.features.bmi2 = true → rmReady s sz.bits rm →
    ∃ (any : Nat → Bool), exec (.bzhi sz reg rm v nf) s =
      .next ((s.writeGpr sz.bits reg ((if (s.getGpr v).toNat % 256 < sz.bits then rmValue s sz.bits rm &&&
        BitVec.ofNat sz.bits (2 ^ ((s.getGpr v).toNat % 256) - 1) else rmValue s sz.bits rm)) false).setFlagsUnless nf
        ⟨decide (sz.bits - 1 < (s.getGpr v).toNat % 256), any 0, any 1, (if (s.getGpr v).toNat % 256 < sz.bits then
        rmValue s sz.bits rm &&& BitVec.ofNat sz.bits (2 ^ ((s.getGpr v).toNat % 256) - 1) else rmValue s sz.bits rm)
        == 0, ((if (s.getGpr v).toNat % 256 < sz.bits then rmValue s sz.bits rm &&& BitVec.ofNat sz.bits (2 ^
        ((s.getGpr v).toNat % 256) - 1) else rmValue s sz.bits rm)).msb, false⟩)) ∧
  (∀ (s : State) (sz : YSize) (reg v : RegId) (rm : RM),
    s.apxEnabled = true → s.params.features.bmi2 = true → rmReady s sz.bits rm →
    exec (.pdep sz reg v rm) s =
      .next (s.writeGpr sz.bits reg (BitVec.ofNat sz.bits (depositBits (s.readGpr sz.bits v) (rmValue s sz.bits rm) 0
        0 sz.bits)) false)) ∧
  (∀ (s : State) (sz : YSize) (reg v : RegId) (rm : RM),
    s.apxEnabled = true → s.params.features.bmi2 = true → rmReady s sz.bits rm →
    exec (.pext sz reg v rm) s =
      .next (s.writeGpr sz.bits reg (BitVec.ofNat sz.bits (extractBits (s.readGpr sz.bits v) (rmValue s sz.bits rm) 0
        sz.bits)) false)) ∧
  (∀ (s : State) (sz : YSize) (reg : RegId) (rm : RM) (imm : BitVec 8),
    s.apxEnabled = true → s.params.features.bmi2 = true → rmReady s sz.bits rm →
    exec (.rorx sz reg rm imm) s =
      .next (s.writeGpr sz.bits reg ((rmValue s sz.bits rm).rotateRight (imm.toNat % sz.bits)) false)) ∧
  (∀ (s : State) (sz : YSize) (reg : RegId) (rm : RM) (v : RegId),
    s.apxEnabled = true → s.params.features.bmi2 = true → rmReady s sz.bits rm →
    exec (.sarx sz reg rm v) s =
      .next (s.writeGpr sz.bits reg ((rmValue s sz.bits rm).sshiftRight ((s.readGpr sz.bits v).toNat % sz.bits))
        false)) ∧
  (∀ (s : State) (sz : YSize) (reg : RegId) (rm : RM) (v : RegId),
    s.apxEnabled = true → s.params.features.bmi2 = true → rmReady s sz.bits rm →
    exec (.shlx sz reg rm v) s =
      .next (s.writeGpr sz.bits reg (rmValue s sz.bits rm <<< ((s.readGpr sz.bits v).toNat % sz.bits)) false)) ∧
  (∀ (s : State) (sz : YSize) (reg : RegId) (rm : RM) (v : RegId),
    s.apxEnabled = true → s.params.features.bmi2 = true → rmReady s sz.bits rm →
    exec (.shrx sz reg rm v) s =
      .next (s.writeGpr sz.bits reg (rmValue s sz.bits rm >>> ((s.readGpr sz.bits v).toNat % sz.bits)) false))

/-- With APX enabled: CMOVcc needs its source readable whatever the condition; CFCMOVcc needs its memory operand only
when the condition holds, and otherwise writes 0, the register operand, or nothing; SETcc writes one byte of 0 or 1,
or the whole register in the zero-upper form. (R251, R374, R387, R395, R396, R397, R398, R400, R74) -/
def Obligations.ConditionalMovesAndSetByte : Prop :=
  (∀ (s : State) (cc : Cond) (sz : OSize) (v reg : RegId) (rm : RM),
    s.apxEnabled = true → rmReady s sz.bits rm →
    exec (.cmov cc sz v reg rm) s =
      .next (s.writeGpr sz.bits v (if s.flags.cond cc then rmValue s sz.bits rm else s.readGpr sz.bits reg) true)) ∧
  (∀ (s : State) (cc : Cond) (sz : OSize) (reg : RegId) (rm : RM),
    s.apxEnabled = true → (s.flags.cond cc = true → rmReady s sz.bits rm) →
    exec (.cfcmovLoad cc sz reg rm) s =
      .next (s.writeGpr sz.bits reg (if s.flags.cond cc then rmValue s sz.bits rm else 0) true)) ∧
  (∀ (s : State) (cc : Cond) (sz : OSize) (b reg : RegId),
    s.apxEnabled = true →
    exec (.cfcmovReg cc sz b reg) s =
      .next (s.writeGpr sz.bits b (if s.flags.cond cc then s.readGpr sz.bits reg else 0) true)) ∧
  (∀ (s : State) (cc : Cond) (sz : OSize) (m : Mem) (reg : RegId),
    s.apxEnabled = true → (s.flags.cond cc = true → dstReady s sz.bits (.mem m)) →
    exec (.cfcmovStore cc sz m reg) s =
      .next (if s.flags.cond cc then putDst s sz.bits (.mem m) (s.readGpr sz.bits reg) else s)) ∧
  (∀ (s : State) (cc : Cond) (sz : OSize) (v reg : RegId) (rm : RM),
    s.apxEnabled = true → (s.flags.cond cc = true → rmReady s sz.bits rm) →
    exec (.cfcmovNdd cc sz v reg rm) s =
      .next (s.writeGpr sz.bits v (if s.flags.cond cc then rmValue s sz.bits rm else s.readGpr sz.bits reg) true)) ∧
  (∀ (s : State) (cc : Cond) (i : RegId) (zu : Bool),
    s.apxEnabled = true →
    exec (.setcc cc (.reg i) zu) s = .next (s.writeGpr 8 i (if s.flags.cond cc then 1 else 0) zu)) ∧
  (∀ (s : State) (cc : Cond) (m : Mem) (zu : Bool),
    s.apxEnabled = true → dstReady s 8 (.mem m) →
    exec (.setcc cc (.mem m) zu) s = .next (putDst s 8 (.mem m) (if s.flags.cond cc then 1 else 0))) ∧
  (∀ (s : State) (cc : Cond) (sz : OSize) (reg : RegId) (rm : RM),
    s.apxEnabled = true → rmReady s sz.bits rm →
    exec (.rex2Cmov cc sz reg rm) s =
      .next (if s.flags.cond cc then s.writeGpr sz.bits reg (rmValue s sz.bits rm) false else if sz.bits = 32 then
        s.writeGpr 32 reg (s.readGpr 32 reg) false else s)) ∧
  (∀ (s : State) (cc : Cond) (i : RegId),
    s.apxEnabled = true →
    exec (.rex2Setcc cc (.reg i)) s = .next (s.writeGpr 8 i (if s.flags.cond cc then 1 else 0) false)) ∧
  (∀ (s : State) (cc : Cond) (m : Mem),
    s.apxEnabled = true → dstReady s 8 (.mem m) →
    exec (.rex2Setcc cc (.mem m)) s = .next (putDst s 8 (.mem m) (if s.flags.cond cc then 1 else 0)))

/-- With APX and CMPCCXADD enabled and the naturally aligned operand readable (and writable when the condition holds on
the comparison with the old value): reg receives the old value, memory the sum when the condition holds, the flags
are those of the comparison. A canonical address that is not naturally aligned raises #GP(0). (R297, R448,
43_promoted_vex.md section 2) -/
def Obligations.CompareAndAdd : Prop :=
  (∀ (s : State) (cc : Cond) (sz : YSize) (m : Mem) (reg v : RegId),
    s.apxEnabled = true → s.params.features.cmpccxadd = true → accessOk s (cmpxaddAccess s sz.bits m .read) →
      ((subFlags (memValue s sz.bits (linAddr s m)) (s.readGpr sz.bits reg) false).cond cc = true → accessOk s
      (cmpxaddAccess s sz.bits m .write)) →
    exec (.cmpccxadd cc sz m reg v) s =
      .next (((if (subFlags (memValue s sz.bits (linAddr s m)) (s.readGpr sz.bits reg) false).cond cc then s.poke
        (linAddr s m) (sz.bits / 8) ((memValue s sz.bits (linAddr s m)) + s.readGpr sz.bits v).toNat else s).writeGpr
        sz.bits reg (memValue s sz.bits (linAddr s m)) false).setFlags (subFlags (memValue s sz.bits (linAddr s m))
        (s.readGpr sz.bits reg) false))) ∧
  (∀ (s : State) (cc : Cond) (sz : YSize) (m : Mem) (reg v : RegId),
    s.apxEnabled = true → s.params.features.cmpccxadd = true → (cmpxaddAccess s sz.bits m .read).canonicalOk
      s.params.laWidth = true → (linAddr s m).toNat % (sz.bits / 8) ≠ 0 →
    exec (.cmpccxadd cc sz m reg v) s = takeException .gp)

/-- With APX and the feature enabled, accepted mask ids, CR0.TS = 0 and the memory operand accessible, each form moves
8, 16, 32 or 64 bits between an opmask register and an opmask register, memory or GPR, zero-extended in a register.
(R298, R299, R300, R301, R314, R455) -/
def Obligations.OpmaskMoves : Prop :=
  (∀ (s : State) (k i : ShortId),
    s.apxEnabled = true → kmovbOk s.params.features = true → shortIdOk s.params k = true → shortIdOk s.params i = true
      → s.ctrl.cr0Ts = false →
    exec (.kmovbKKm k (.k i)) s = .next (s.setK k.id (((s.getK i.id).setWidth 8).setWidth 64))) ∧
  (∀ (s : State) (k : ShortId) (m : Mem),
    s.apxEnabled = true → kmovbOk s.params.features = true → shortIdOk s.params k = true → s.ctrl.cr0Ts = false →
      rmReady s 8 (.mem m) →
    exec (.kmovbKKm k (.mem m)) s = .next (s.setK k.id ((memValue s 8 (linAddr s m)).setWidth 64))) ∧
  (∀ (s : State) (k : ShortId) (b : RegId),
    s.apxEnabled = true → kmovbOk s.params.features = true → shortIdOk s.params k = true → s.ctrl.cr0Ts = false →
    exec (.kmovbKR k b) s = .next (s.setK k.id ((s.readGpr 8 b).setWidth 64))) ∧
  (∀ (s : State) (reg : RegId) (k : ShortId),
    s.apxEnabled = true → kmovbOk s.params.features = true → shortIdOk s.params k = true → s.ctrl.cr0Ts = false →
    exec (.kmovbRK reg k) s = .next (s.writeGpr 64 reg (((s.getK k.id).setWidth 8).setWidth 64) false)) ∧
  (∀ (s : State) (m : Mem) (k : ShortId),
    s.apxEnabled = true → kmovbOk s.params.features = true → shortIdOk s.params k = true → s.ctrl.cr0Ts = false →
      dstReady s 8 (.mem m) →
    exec (.kmovbMK m k) s = .next (putDst s 8 (.mem m) ((s.getK k.id).setWidth 8))) ∧
  (∀ (s : State) (reg : RegId) (k : ShortId),
    s.apxEnabled = true → kmovdqOk s.params.features = true → shortIdOk s.params k = true → s.ctrl.cr0Ts = false →
    exec (.kmovdRK reg k) s = .next (s.writeGpr 64 reg (((s.getK k.id).setWidth 32).setWidth 64) false)) ∧
  (∀ (s : State) (k i : ShortId),
    s.apxEnabled = true → kmovdqOk s.params.features = true → shortIdOk s.params k = true → shortIdOk s.params i =
      true → s.ctrl.cr0Ts = false →
    exec (.kmovdKKm k (.k i)) s = .next (s.setK k.id (((s.getK i.id).setWidth 32).setWidth 64))) ∧
  (∀ (s : State) (k : ShortId) (m : Mem),
    s.apxEnabled = true → kmovdqOk s.params.features = true → shortIdOk s.params k = true → s.ctrl.cr0Ts = false →
      rmReady s 32 (.mem m) →
    exec (.kmovdKKm k (.mem m)) s = .next (s.setK k.id ((memValue s 32 (linAddr s m)).setWidth 64))) ∧
  (∀ (s : State) (k : ShortId) (b : RegId),
    s.apxEnabled = true → kmovdqOk s.params.features = true → shortIdOk s.params k = true → s.ctrl.cr0Ts = false →
    exec (.kmovdKR k b) s = .next (s.setK k.id ((s.readGpr 32 b).setWidth 64))) ∧
  (∀ (s : State) (m : Mem) (k : ShortId),
    s.apxEnabled = true → kmovdqOk s.params.features = true → shortIdOk s.params k = true → s.ctrl.cr0Ts = false →
      dstReady s 32 (.mem m) →
    exec (.kmovdMK m k) s = .next (putDst s 32 (.mem m) ((s.getK k.id).setWidth 32))) ∧
  (∀ (s : State) (k i : ShortId),
    s.apxEnabled = true → kmovdqOk s.params.features = true → shortIdOk s.params k = true → shortIdOk s.params i =
      true → s.ctrl.cr0Ts = false →
    exec (.kmovqKKm k (.k i)) s = .next (s.setK k.id (((s.getK i.id).setWidth 64).setWidth 64))) ∧
  (∀ (s : State) (k : ShortId) (m : Mem),
    s.apxEnabled = true → kmovdqOk s.params.features = true → shortIdOk s.params k = true → s.ctrl.cr0Ts = false →
      rmReady s 64 (.mem m) →
    exec (.kmovqKKm k (.mem m)) s = .next (s.setK k.id ((memValue s 64 (linAddr s m)).setWidth 64))) ∧
  (∀ (s : State) (k : ShortId) (b : RegId),
    s.apxEnabled = true → kmovdqOk s.params.features = true → shortIdOk s.params k = true → s.ctrl.cr0Ts = false →
    exec (.kmovqKR k b) s = .next (s.setK k.id ((s.readGpr 64 b).setWidth 64))) ∧
  (∀ (s : State) (reg : RegId) (k : ShortId),
    s.apxEnabled = true → kmovdqOk s.params.features = true → shortIdOk s.params k = true → s.ctrl.cr0Ts = false →
    exec (.kmovqRK reg k) s = .next (s.writeGpr 64 reg (((s.getK k.id).setWidth 64).setWidth 64) false)) ∧
  (∀ (s : State) (m : Mem) (k : ShortId),
    s.apxEnabled = true → kmovdqOk s.params.features = true → shortIdOk s.params k = true → s.ctrl.cr0Ts = false →
      dstReady s 64 (.mem m) →
    exec (.kmovqMK m k) s = .next (putDst s 64 (.mem m) ((s.getK k.id).setWidth 64))) ∧
  (∀ (s : State) (k i : ShortId),
    s.apxEnabled = true → kmovwOk s.params.features = true → shortIdOk s.params k = true → shortIdOk s.params i = true
      → s.ctrl.cr0Ts = false →
    exec (.kmovwKKm k (.k i)) s = .next (s.setK k.id (((s.getK i.id).setWidth 16).setWidth 64))) ∧
  (∀ (s : State) (k : ShortId) (m : Mem),
    s.apxEnabled = true → kmovwOk s.params.features = true → shortIdOk s.params k = true → s.ctrl.cr0Ts = false →
      rmReady s 16 (.mem m) →
    exec (.kmovwKKm k (.mem m)) s = .next (s.setK k.id ((memValue s 16 (linAddr s m)).setWidth 64))) ∧
  (∀ (s : State) (k : ShortId) (b : RegId),
    s.apxEnabled = true → kmovwOk s.params.features = true → shortIdOk s.params k = true → s.ctrl.cr0Ts = false →
    exec (.kmovwKR k b) s = .next (s.setK k.id ((s.readGpr 16 b).setWidth 64))) ∧
  (∀ (s : State) (reg : RegId) (k : ShortId),
    s.apxEnabled = true → kmovwOk s.params.features = true → shortIdOk s.params k = true → s.ctrl.cr0Ts = false →
    exec (.kmovwRK reg k) s = .next (s.writeGpr 64 reg (((s.getK k.id).setWidth 16).setWidth 64) false)) ∧
  (∀ (s : State) (m : Mem) (k : ShortId),
    s.apxEnabled = true → kmovwOk s.params.features = true → shortIdOk s.params k = true → s.ctrl.cr0Ts = false →
      dstReady s 16 (.mem m) →
    exec (.kmovwMK m k) s = .next (putDst s 16 (.mem m) ((s.getK k.id).setWidth 16)))

/-- With APX and AMX enabled and every byte accessible: LDTILECFG takes an accepted configuration from memory, STTILECFG
stores it, the tile loads read the rows that base, displacement and scaled index address, and TILESTORED stores
them; tile contents are opaque. The row access pattern, the tile shapes, the list of rejected configurations and the
opaque configuration after a load are the model's choice, log entry 10. (R302, R310, R311, R312, R313, R320, R440,
R441, R442, notes/assumptions/10.md) -/
def Obligations.TileInstructions : Prop :=
  (∀ (s : State) (m : Mem),
    s.apxEnabled = true → s.params.features.amxTile = true → accessOk s (memAccess s m 64 .read false 1) → (memValue s
      512 (linAddr s m)) ∉ s.params.tileCfgRejected →
    exec (.ldtilecfg m) s = .next (s.withTile (Config.loadTileCfg s.tile (memValue s 512 (linAddr s m))))) ∧
  (∀ (s : State) (m : Mem),
    s.apxEnabled = true → s.params.features.amxTile = true → accessOk s (memAccess s m 64 .write false 1) →
    exec (.sttilecfg m) s = .next (s.poke (linAddr s m) 64 (Config.tileCfgBytes s.tile).toNat)) ∧
  (∀ (s : State) (t : ShortId) (m : Mem),
    s.apxEnabled = true → tileReady s t → hasSib m.form = true → rowsReady s m (s.tileShape t.id).colsb .read 0
      (s.tileShape t.id).rows →
    exec (.tileloadd t m) s =
      .next (s.withTile (tileWithContents s.tile (Config.tileLoad s.tile.contents t.id.toNat (tileRows s m
        (s.tileShape t.id).colsb 0 (s.tileShape t.id).rows))))) ∧
  (∀ (s : State) (t : ShortId) (m : Mem),
    s.apxEnabled = true → tileReady s t → hasSib m.form = true → rowsReady s m (s.tileShape t.id).colsb .read 0
      (s.tileShape t.id).rows →
    exec (.tileloaddt1 t m) s =
      .next (s.withTile (tileWithContents s.tile (Config.tileLoad s.tile.contents t.id.toNat (tileRows s m
        (s.tileShape t.id).colsb 0 (s.tileShape t.id).rows))))) ∧
  (∀ (s : State) (m : Mem) (t : ShortId),
    s.apxEnabled = true → tileReady s t → hasSib m.form = true → rowsReady s m (s.tileShape t.id).colsb .write 0
      (s.tileShape t.id).rows →
    exec (.tilestored m t) s =
      .next (s.withMem (writeRows s m t.id (s.tileShape t.id).colsb 0 s.mem (s.tileShape t.id).rows)))

/-- With APX, the feature and its control bits enabled and the memory operand accessible (16-byte aligned for SHA): AES
instructions write their result only when the handle is accepted and report it in ZF; ENCODEKEY writes the handle
and leaves xmm4..xmm6 unconstrained; SHA instructions write their destination from their inputs. The cipher
functions are opaque. That the AES instructions set ZF for a handle failure and clear the other five flags is the
choice of conflict C13, log entry 17: the pages say N/A. (R331, R332, R335, R339, R340, R347, R349, R454, R457,
44_promoted_system_crypto.md section 2, 44_promoted_system_crypto.md section 3, notes/assumptions/17.md) -/
def Obligations.KeyLockerAndSha : Prop :=
  (∀ (s : State) (x : BitVec 4) (m : Mem),
    s.apxEnabled = true → klReady s s.params.features.keylocker → accessOk s (memAccess s m (384 / 8) .read false 1) →
    exec (.aesdec128kl x m) s =
      .next ((s.withXmm (if (Config.klAesDec128 (memValue s 384 (linAddr s m)) (s.getXmm x) s.iwkey).1 = true then
        s.xmm.set x.toNat (Config.klAesDec128 (memValue s 384 (linAddr s m)) (s.getXmm x) s.iwkey).2 else
        s.xmm)).setFlags ⟨false, false, false, !(Config.klAesDec128 (memValue s 384 (linAddr s m)) (s.getXmm x)
        s.iwkey).1, false, false⟩)) ∧
  (∀ (s : State) (x : BitVec 4) (m : Mem),
    s.apxEnabled = true → klReady s s.params.features.keylocker → accessOk s (memAccess s m (512 / 8) .read false 1) →
    exec (.aesdec256kl x m) s =
      .next ((s.withXmm (if (Config.klAesDec256 (memValue s 512 (linAddr s m)) (s.getXmm x) s.iwkey).1 = true then
        s.xmm.set x.toNat (Config.klAesDec256 (memValue s 512 (linAddr s m)) (s.getXmm x) s.iwkey).2 else
        s.xmm)).setFlags ⟨false, false, false, !(Config.klAesDec256 (memValue s 512 (linAddr s m)) (s.getXmm x)
        s.iwkey).1, false, false⟩)) ∧
  (∀ (s : State) (m : Mem),
    s.apxEnabled = true → klReady s s.params.features.keylockerWide → accessOk s (memAccess s m (384 / 8) .read false
      1) →
    exec (.aesdecwide128kl m) s =
      .next ((s.withXmm (if (Config.klAesDecWide128 (memValue s 384 (linAddr s m)) s.lowXmm s.iwkey).1 = true then
        setLowXmm s.xmm (Config.klAesDecWide128 (memValue s 384 (linAddr s m)) s.lowXmm s.iwkey).2 else
        s.xmm)).setFlags ⟨false, false, false, !(Config.klAesDecWide128 (memValue s 384 (linAddr s m)) s.lowXmm
        s.iwkey).1, false, false⟩)) ∧
  (∀ (s : State) (m : Mem),
    s.apxEnabled = true → klReady s s.params.features.keylockerWide → accessOk s (memAccess s m (512 / 8) .read false
      1) →
    exec (.aesdecwide256kl m) s =
      .next ((s.withXmm (if (Config.klAesDecWide256 (memValue s 512 (linAddr s m)) s.lowXmm s.iwkey).1 = true then
        setLowXmm s.xmm (Config.klAesDecWide256 (memValue s 512 (linAddr s m)) s.lowXmm s.iwkey).2 else
        s.xmm)).setFlags ⟨false, false, false, !(Config.klAesDecWide256 (memValue s 512 (linAddr s m)) s.lowXmm
        s.iwkey).1, false, false⟩)) ∧
  (∀ (s : State) (x : BitVec 4) (m : Mem),
    s.apxEnabled = true → klReady s s.params.features.keylocker → accessOk s (memAccess s m (384 / 8) .read false 1) →
    exec (.aesenc128kl x m) s =
      .next ((s.withXmm (if (Config.klAesEnc128 (memValue s 384 (linAddr s m)) (s.getXmm x) s.iwkey).1 = true then
        s.xmm.set x.toNat (Config.klAesEnc128 (memValue s 384 (linAddr s m)) (s.getXmm x) s.iwkey).2 else
        s.xmm)).setFlags ⟨false, false, false, !(Config.klAesEnc128 (memValue s 384 (linAddr s m)) (s.getXmm x)
        s.iwkey).1, false, false⟩)) ∧
  (∀ (s : State) (x : BitVec 4) (m : Mem),
    s.apxEnabled = true → klReady s s.params.features.keylocker → accessOk s (memAccess s m (512 / 8) .read false 1) →
    exec (.aesenc256kl x m) s =
      .next ((s.withXmm (if (Config.klAesEnc256 (memValue s 512 (linAddr s m)) (s.getXmm x) s.iwkey).1 = true then
        s.xmm.set x.toNat (Config.klAesEnc256 (memValue s 512 (linAddr s m)) (s.getXmm x) s.iwkey).2 else
        s.xmm)).setFlags ⟨false, false, false, !(Config.klAesEnc256 (memValue s 512 (linAddr s m)) (s.getXmm x)
        s.iwkey).1, false, false⟩)) ∧
  (∀ (s : State) (m : Mem),
    s.apxEnabled = true → klReady s s.params.features.keylockerWide → accessOk s (memAccess s m (384 / 8) .read false
      1) →
    exec (.aesencwide128kl m) s =
      .next ((s.withXmm (if (Config.klAesEncWide128 (memValue s 384 (linAddr s m)) s.lowXmm s.iwkey).1 = true then
        setLowXmm s.xmm (Config.klAesEncWide128 (memValue s 384 (linAddr s m)) s.lowXmm s.iwkey).2 else
        s.xmm)).setFlags ⟨false, false, false, !(Config.klAesEncWide128 (memValue s 384 (linAddr s m)) s.lowXmm
        s.iwkey).1, false, false⟩)) ∧
  (∀ (s : State) (m : Mem),
    s.apxEnabled = true → klReady s s.params.features.keylockerWide → accessOk s (memAccess s m (512 / 8) .read false
      1) →
    exec (.aesencwide256kl m) s =
      .next ((s.withXmm (if (Config.klAesEncWide256 (memValue s 512 (linAddr s m)) s.lowXmm s.iwkey).1 = true then
        setLowXmm s.xmm (Config.klAesEncWide256 (memValue s 512 (linAddr s m)) s.lowXmm s.iwkey).2 else
        s.xmm)).setFlags ⟨false, false, false, !(Config.klAesEncWide256 (memValue s 512 (linAddr s m)) s.lowXmm
        s.iwkey).1, false, false⟩)) ∧
  (∀ (s : State) (reg b : RegId),
    s.apxEnabled = true → klReady s s.params.features.keylocker →
    ∃ (x4 x5 x6 : Xmm), exec (.encodekey128 reg b) s =
      .next (((((((s.setXmm 0 (xmmPart (Config.klEncodeKey128 (s.readGpr 32 b) (s.getXmm 0) s.iwkey).1 0)).setXmm 1
        (xmmPart (Config.klEncodeKey128 (s.readGpr 32 b) (s.getXmm 0) s.iwkey).1 1)).setXmm 2 (xmmPart
        (Config.klEncodeKey128 (s.readGpr 32 b) (s.getXmm 0) s.iwkey).1 2)) |>.setXmm 4 x4 |>.setXmm 5 x5 |>.setXmm 6
        x6).writeGpr 32 reg (Config.klEncodeKey128 (s.readGpr 32 b) (s.getXmm 0) s.iwkey).2 false)).setFlags
        Flags.clear)) ∧
  (∀ (s : State) (reg b : RegId),
    s.apxEnabled = true → klReady s s.params.features.keylocker →
    ∃ (x4 x5 x6 : Xmm), exec (.encodekey256 reg b) s =
      .next ((((((((s.setXmm 0 (xmmPart (Config.klEncodeKey256 (s.readGpr 32 b) (s.getXmm 1 ++ s.getXmm 0) s.iwkey).1
        0)).setXmm 1 (xmmPart (Config.klEncodeKey256 (s.readGpr 32 b) (s.getXmm 1 ++ s.getXmm 0) s.iwkey).1 1)).setXmm
        2 (xmmPart (Config.klEncodeKey256 (s.readGpr 32 b) (s.getXmm 1 ++ s.getXmm 0) s.iwkey).1 2)).setXmm 3 (xmmPart
        (Config.klEncodeKey256 (s.readGpr 32 b) (s.getXmm 1 ++ s.getXmm 0) s.iwkey).1 3)) |>.setXmm 4 x4 |>.setXmm 5
        x5 |>.setXmm 6 x6).writeGpr 32 reg (Config.klEncodeKey256 (s.readGpr 32 b) (s.getXmm 1 ++ s.getXmm 0)
        s.iwkey).2 false)).setFlags Flags.clear)) ∧
  (∀ (s : State) (x : BitVec 4) (src : XRM),
    s.apxEnabled = true → shaReady s → xrmReady s src →
    exec (.sha1msg1 x src) s = .next (s.setXmm x (Config.sha1Msg1 (s.getXmm x) (xrmValue s src)))) ∧
  (∀ (s : State) (x : BitVec 4) (src : XRM),
    s.apxEnabled = true → shaReady s → xrmReady s src →
    exec (.sha1msg2 x src) s = .next (s.setXmm x (Config.sha1Msg2 (s.getXmm x) (xrmValue s src)))) ∧
  (∀ (s : State) (x : BitVec 4) (src : XRM),
    s.apxEnabled = true → shaReady s → xrmReady s src →
    exec (.sha1nexte x src) s = .next (s.setXmm x (Config.sha1NextE (s.getXmm x) (xrmValue s src)))) ∧
  (∀ (s : State) (x : BitVec 4) (src : XRM) (imm : BitVec 8),
    s.apxEnabled = true → shaReady s → xrmReady s src →
    exec (.sha1rnds4 x src imm) s =
      .next (s.setXmm x ((fun a c => Config.sha1Rnds4 a c imm) (s.getXmm x) (xrmValue s src)))) ∧
  (∀ (s : State) (x : BitVec 4) (src : XRM),
    s.apxEnabled = true → shaReady s → xrmReady s src →
    exec (.sha256msg1 x src) s = .next (s.setXmm x (Config.sha256Msg1 (s.getXmm x) (xrmValue s src)))) ∧
  (∀ (s : State) (x : BitVec 4) (src : XRM),
    s.apxEnabled = true → shaReady s → xrmReady s src →
    exec (.sha256msg2 x src) s = .next (s.setXmm x (Config.sha256Msg2 (s.getXmm x) (xrmValue s src)))) ∧
  (∀ (s : State) (x : BitVec 4) (src : XRM),
    s.apxEnabled = true → shaReady s → xrmReady s src →
    exec (.sha256rnds2 x src) s =
      .next (s.setXmm x ((fun a c => Config.sha256Rnds2 a c (s.getXmm 0)) (s.getXmm x) (xrmValue s src))))

/-- At CPL 0 with the features and controls they need, a readable descriptor and, for INVPCID, a valid type and
descriptor, the invalidations go on with no effect on modelled state but unconstrained flags for INVEPT and INVVPID;
the shadow-stack writes store their register at an accessible, 4-byte aligned address. (R350, R351, R352, R353,
R354, R355, R356, R445, R446, R451, R452, R453) -/
def Obligations.InvalidationsAndShadowStackWrites : Prop :=
  (∀ (s : State) (reg : RegId) (m : Mem),
    s.apxEnabled = true → s.params.features.vmx = true → s.ctrl.inVmxOperation = true → s.ctrl.eptSupported = true →
      s.ctrl.inveptSupported = true → s.cpl = 0 → accessOk s (memAccess s m 16 .read false 1) →
    ∃ (f : Flags), exec (.invept reg m) s = .next (s.setFlags f)) ∧
  (∀ (s : State) (reg : RegId) (m : Mem),
    s.apxEnabled = true → s.params.features.invpcid = true → s.cpl = 0 → (s.getGpr reg).toNat ≤ 3 → accessOk s
      (memAccess s m 16 .read false 1) → invpcidDescOk s (s.getGpr reg) (memValue s 128 (linAddr s m)) = true →
    exec (.invpcid reg m) s = .next s) ∧
  (∀ (s : State) (reg : RegId) (m : Mem),
    s.apxEnabled = true → s.params.features.vmx = true → s.ctrl.inVmxOperation = true → s.ctrl.vpidSupported = true →
      s.ctrl.invvpidSupported = true → s.cpl = 0 → accessOk s (memAccess s m 16 .read false 1) →
    ∃ (f : Flags), exec (.invvpid reg m) s = .next (s.setFlags f)) ∧
  (∀ (s : State) (m : Mem) (reg : RegId),
    s.apxEnabled = true → s.params.features.cet = true → s.ctrl.cr4Cet = true → wrssEnabled s = true → accessOk s
      (shadowAccess s m (32 / 8) (if s.cpl = 3 then .shadowUser else .shadowSupervisor)) →
    exec (.wrssd m reg) s = .next (s.poke (linAddr s m) (32 / 8) (s.readGpr 32 reg).toNat)) ∧
  (∀ (s : State) (m : Mem) (reg : RegId),
    s.apxEnabled = true → s.params.features.cet = true → s.ctrl.cr4Cet = true → wrssEnabled s = true → accessOk s
      (shadowAccess s m (64 / 8) (if s.cpl = 3 then .shadowUser else .shadowSupervisor)) →
    exec (.wrssq m reg) s = .next (s.poke (linAddr s m) (64 / 8) (s.readGpr 64 reg).toNat)) ∧
  (∀ (s : State) (m : Mem) (reg : RegId),
    s.apxEnabled = true → s.params.features.cet = true → s.ctrl.cr4Cet = true → s.cpl = 0 → accessOk s (shadowAccess s
      m (32 / 8) .shadowUser) →
    exec (.wrussd m reg) s = .next (s.poke (linAddr s m) (32 / 8) (s.readGpr 32 reg).toNat)) ∧
  (∀ (s : State) (m : Mem) (reg : RegId),
    s.apxEnabled = true → s.params.features.cet = true → s.ctrl.cr4Cet = true → s.cpl = 0 → accessOk s (shadowAccess s
      m (64 / 8) .shadowUser) →
    exec (.wrussq m reg) s = .next (s.poke (linAddr s m) (64 / 8) (s.readGpr 64 reg).toNat))

/-- With APX and the feature enabled and memory accessible: MOVDIRI stores its register, MOVDIR64B copies 64 bytes to
the 64-byte aligned address in its register, ENQCMD and ENQCMDS set ZF to the device's answer and clear the other
flags when their command has the reserved bits 0. That an empty list of device answers means accepted, and that the
destination need not be canonical, is the model's choice, log entry 20. (R258, R259, R274, R275, R276, R449,
42_muldiv_misc.md section 3, notes/assumptions/20.md) -/
def Obligations.DirectStoresAndEnqueues : Prop :=
  (∀ (s : State) (reg : RegId) (m : Mem),
    s.apxEnabled = true → s.params.features.enqcmd = true → aligned64 (addrReg s m.a32 reg) = true → s.ctrl.pasidValid
      = true → accessOk s (memAccess s m 64 .read false 1) → (memValue s 512 (linAddr s m)).setWidth 31 = (0 : BitVec
      31) →
    exec (.enqcmd reg m) s = .next s.enqueued) ∧
  (∀ (s : State) (reg : RegId) (m : Mem),
    s.apxEnabled = true → s.params.features.enqcmd = true → s.cpl = 0 → aligned64 (addrReg s m.a32 reg) = true →
      accessOk s (memAccess s m 64 .read false 1) → ((memValue s 512 (linAddr s m)) >>> 20).setWidth 11 = (0 : BitVec
      11) →
    exec (.enqcmds reg m) s = .next s.enqueued) ∧
  (∀ (s : State) (reg : RegId) (m : Mem),
    s.apxEnabled = true → s.params.features.movdir = true → aligned64 (addrReg s m.a32 reg) = true → accessOk s
      (memAccess s m 64 .read true 1) → accessOk s (movdir64bAccess s m.a32 reg) →
    exec (.movdir64b reg m) s = .next (s.poke (addrReg s m.a32 reg) 64 (memValue s 512 (linAddr s m)).toNat)) ∧
  (∀ (s : State) (sz : YSize) (m : Mem) (reg : RegId),
    s.apxEnabled = true → s.params.features.movdir = true → dstReady s sz.bits (.mem m) →
    exec (.movdiri sz m reg) s = .next (putDst s sz.bits (.mem m) (s.readGpr sz.bits reg)))

/-- With APX enabled, the source readable and a memory destination writable: MOV copies its source, LEA writes the
effective address without any segment base, MOVSXD and MOVSX sign-extend and MOVZX zero-extends. (R380, R381, R382,
R375, 45_jmpabs_rex2.md section 4) -/
def Obligations.Rex2DataMoves : Prop :=
  (∀ (s : State) (sz : OpSize) (rm : RM) (reg : RegId),
    s.apxEnabled = true → dstReady s sz.bits (dstRM rm none) →
    exec (.rex2MovRmR sz rm reg) s = .next (putDst s sz.bits (dstRM rm none) ((s.readGpr sz.bits reg)))) ∧
  (∀ (s : State) (sz : OpSize) (reg : RegId) (rm : RM),
    s.apxEnabled = true → rmReady s sz.bits rm →
    exec (.rex2MovRRm sz reg rm) s = .next (putDst s sz.bits (dstReg reg none) ((rmValue s sz.bits rm)))) ∧
  (∀ (s : State) (rm : RM) (imm : Imm),
    s.apxEnabled = true → dstReady s imm.bits (dstRM rm none) →
    exec (.rex2MovRmImm rm imm) s = .next (putDst s imm.bits (dstRM rm none) ((imm.value.setWidth imm.bits)))) ∧
  (∀ (s : State) (b : RegId) (imm : MovImm),
    s.apxEnabled = true →
    exec (.rex2MovRImm b imm) s = .next (putDst s imm.bits (.reg b false) ((imm.value.setWidth imm.bits)))) ∧
  (∀ (s : State) (sz : OSize) (reg : RegId) (m : Mem),
    s.apxEnabled = true →
    exec (.rex2Lea sz reg m) s = .next (s.writeGpr sz.bits reg ((effAddr s m).setWidth sz.bits) false)) ∧
  (∀ (s : State) (sz : YSize) (reg : RegId) (rm : RM),
    s.apxEnabled = true → rmReady s 32 rm →
    exec (.rex2Movsxd sz reg rm) s =
      .next (s.writeGpr sz.bits reg (if true then ((rmValue s 32 rm)).signExtend sz.bits else ((rmValue s 32
        rm)).setWidth sz.bits) false)) ∧
  (∀ (s : State) (sz : OSize) (src : SrcSize) (reg : RegId) (rm : RM),
    s.apxEnabled = true → rmReady s src.bits rm →
    exec (.rex2Movzx sz src reg rm) s =
      .next (s.writeGpr sz.bits reg (if false then ((rmValue s src.bits rm)).signExtend sz.bits else ((rmValue s
        src.bits rm)).setWidth sz.bits) false)) ∧
  (∀ (s : State) (sz : OSize) (src : SrcSize) (reg : RegId) (rm : RM),
    s.apxEnabled = true → rmReady s src.bits rm →
    exec (.rex2Movsx sz src reg rm) s =
      .next (s.writeGpr sz.bits reg (if true then ((rmValue s src.bits rm)).signExtend sz.bits else ((rmValue s
        src.bits rm)).setWidth sz.bits) false))

/-- With APX enabled and the stack and operands accessible: a push stores the value its source had before RSP moved at
RSP - 8 and lowers RSP by 8; a pop reads 8 bytes at RSP, raises RSP by 8 before a memory destination is addressed,
and then writes the destination, so that POP RSP keeps the popped value. (R372, R373, R388, R75, 45_jmpabs_rex2.md
sections 3 and 4) -/
def Obligations.PushAndPop : Prop :=
  (∀ (s : State) (rm : RM),
    s.apxEnabled = true → rmReady s 64 rm → accessOk s (stackAccess (s.rsp - 8) 8 .write true) →
    exec (.rex2PushRm rm) s = .next ((s.poke (s.rsp - 8) 8 ((rmValue s 64 rm)).toNat).setGpr 4 (s.rsp - 8))) ∧
  (∀ (s : State) (rm : RM),
    s.apxEnabled = true → accessOk s (stackAccess s.rsp 8 .read true) → dstReady (s.setGpr 4 (s.rsp + 8)) 64 (dstRM rm
      none) →
    exec (.rex2PopRm rm) s = .next (putDst (s.setGpr 4 (s.rsp + 8)) 64 (dstRM rm none) (memValue s 64 s.rsp))) ∧
  (∀ (s : State) (b : RegId),
    s.apxEnabled = true → accessOk s (stackAccess (s.rsp - 8) 8 .write true) →
    exec (.rex2PushR b) s = .next ((s.poke (s.rsp - 8) 8 ((s.readGpr 64 b)).toNat).setGpr 4 (s.rsp - 8))) ∧
  (∀ (s : State) (b : RegId),
    s.apxEnabled = true → accessOk s (stackAccess (s.rsp - 8) 8 .write true) →
    exec (.rex2Pushp b) s = .next ((s.poke (s.rsp - 8) 8 ((s.readGpr 64 b)).toNat).setGpr 4 (s.rsp - 8))) ∧
  (∀ (s : State) (b : RegId),
    s.apxEnabled = true → accessOk s (stackAccess s.rsp 8 .read true) →
    exec (.rex2PopR b) s = .next (putDst (s.setGpr 4 (s.rsp + 8)) 64 (.reg b false) (memValue s 64 s.rsp))) ∧
  (∀ (s : State) (b : RegId),
    s.apxEnabled = true → accessOk s (stackAccess s.rsp 8 .read true) →
    exec (.rex2Popp b) s = .next (putDst (s.setGpr 4 (s.rsp + 8)) 64 (.reg b false) (memValue s 64 s.rsp)))

/-- With APX enabled, RSP 16-byte aligned, the sixteen bytes accessible and operands other than RSP (and, for POP2,
different): PUSH2 stores V at RSP - 8 and B at RSP - 16, POP2 reads V at RSP and B at RSP + 8, and RSP moves by 16.
RSP as an operand, or equal operands of POP2, raise #UD; else a misaligned RSP raises #GP(0). The order of these
checks is the choice of the spec (R420, D12), log entries 6 and 31. (R420, R421, R422, R423, R424, R456, R69,
notes/assumptions/6.md, notes/assumptions/31.md) -/
def Obligations.PushAndPopPairs : Prop :=
  (∀ (s : State) (v b : RegId),
    s.apxEnabled = true → v ≠ 4 → b ≠ 4 → s.rsp.toNat % 16 = 0 → accessOk s (stackAccess (s.rsp - 16) 16 .write false)
      →
    exec (.push2 v b) s =
      .next (((s.poke (s.rsp - 8) 8 (s.getGpr v).toNat).poke (s.rsp - 16) 8 (s.getGpr b).toNat).setGpr 4 (s.rsp -
        16))) ∧
  (∀ (s : State) (v b : RegId),
    s.apxEnabled = true → v ≠ 4 → b ≠ 4 → s.rsp.toNat % 16 = 0 → accessOk s (stackAccess (s.rsp - 16) 16 .write false)
      →
    exec (.push2p v b) s =
      .next (((s.poke (s.rsp - 8) 8 (s.getGpr v).toNat).poke (s.rsp - 16) 8 (s.getGpr b).toNat).setGpr 4 (s.rsp -
        16))) ∧
  (∀ (s : State) (v b : RegId),
    s.apxEnabled = true → v ≠ 4 → b ≠ 4 → v ≠ b → s.rsp.toNat % 16 = 0 → accessOk s (stackAccess s.rsp 16 .read false)
      →
    exec (.pop2 v b) s =
      .next (((s.setGpr v (memValue s 64 s.rsp)).setGpr b (memValue s 64 (s.rsp + 8))).setGpr 4 (s.rsp + 16))) ∧
  (∀ (s : State) (v b : RegId),
    s.apxEnabled = true → v ≠ 4 → b ≠ 4 → v ≠ b → s.rsp.toNat % 16 = 0 → accessOk s (stackAccess s.rsp 16 .read false)
      →
    exec (.pop2p v b) s =
      .next (((s.setGpr v (memValue s 64 s.rsp)).setGpr b (memValue s 64 (s.rsp + 8))).setGpr 4 (s.rsp + 16))) ∧
  (∀ (s : State) (v b : RegId),
    s.apxEnabled = true → (v = 4 ∨ b = 4) →
    exec (.push2 v b) s = takeException .ud) ∧
  (∀ (s : State) (v b : RegId),
    s.apxEnabled = true → v ≠ 4 → b ≠ 4 → s.rsp.toNat % 16 ≠ 0 →
    exec (.push2 v b) s = takeException .gp) ∧
  (∀ (s : State) (v b : RegId),
    s.apxEnabled = true → (v = 4 ∨ b = 4) →
    exec (.push2p v b) s = takeException .ud) ∧
  (∀ (s : State) (v b : RegId),
    s.apxEnabled = true → v ≠ 4 → b ≠ 4 → s.rsp.toNat % 16 ≠ 0 →
    exec (.push2p v b) s = takeException .gp) ∧
  (∀ (s : State) (v b : RegId),
    s.apxEnabled = true → (v = 4 ∨ b = 4 ∨ v = b) →
    exec (.pop2 v b) s = takeException .ud) ∧
  (∀ (s : State) (v b : RegId),
    s.apxEnabled = true → v ≠ 4 → b ≠ 4 → v ≠ b → s.rsp.toNat % 16 ≠ 0 →
    exec (.pop2 v b) s = takeException .gp) ∧
  (∀ (s : State) (v b : RegId),
    s.apxEnabled = true → (v = 4 ∨ b = 4 ∨ v = b) →
    exec (.pop2p v b) s = takeException .ud) ∧
  (∀ (s : State) (v b : RegId),
    s.apxEnabled = true → v ≠ 4 → b ≠ 4 → v ≠ b → s.rsp.toNat % 16 ≠ 0 →
    exec (.pop2p v b) s = takeException .gp)

/-- From a state whose memory is in its canonical form: when PUSH2 v,b goes on and then POP2 b,v goes on, v, b, RSP and
every other register hold what they held before. (R421, R423, 47_push2_pop2.md section 2) -/
def Obligations.PopPairUndoesPushPair : Prop :=
  ∀ (s t u : State) (v b : RegId), s.memOk → exec (.push2 v b) s = .next t → exec (.pop2 b v) t = .next u →
    ∀ r : RegId, u.getGpr r = s.getGpr r

/-- With APX enabled, a canonical target becomes RIP and nothing else changes; a target that is not canonical raises
#GP(0). (R370, R458, 45_jmpabs_rex2.md section 1) -/
def Obligations.AbsoluteJump : Prop :=
  (∀ (s : State) (target : Word),
    s.apxEnabled = true → canonical s.params.laWidth target = true →
    exec (.jmpabs target) s = .next (s.withRip target)) ∧
  (∀ (s : State) (target : Word),
    s.apxEnabled = true → canonical s.params.laWidth target = false →
    exec (.jmpabs target) s = takeException .gp)

/-- With APX enabled, when a check of the access to the memory operand fails with e, every CCMPscc and CTESTscc form
with that operand, the EVEX CMOVcc and the REX2 CMOVcc raise e, whether or not the condition holds. Every other
instruction with a memory access raises e too when a check of that access fails with e, provided the controls it
needs are on and, for a second access, the first one succeeds: the read of an r/m source, the write of an r/m
destination, the stack accesses, descriptors, handles, tile configurations and rows, the aligned operands of SHA and
CMPccXADD, shadow-stack and direct stores; CFCMOVcc and the write of CMPccXADD only when the condition holds. That
checks of enabling, privilege and operands come before memory is the order of R432, a choice of the spec (D12), log
entry 6. The rows that the tile loads and TILESTORED access, their shapes and their order are the model's choice,
log entry 10: R311, R313 and R442 give one access for each row. That both accesses of a read-modify-write are
checked is R73, that no state is kept R431, the class of CCMPscc and CTESTscc R444. (R70, R74, R251, R311, R313,
R374, R393, R394, R432, R442, notes/assumptions/6.md, notes/assumptions/10.md) -/
def Obligations.FaultsNotSuppressedByAFalseCondition : Prop :=
  (∀ (s : State) (scc : Scc) (dfv : Dfv) (sz : OpSize) (reg : RegId) (m : Mem) (e : Exc),
    s.apxEnabled = true → checkAccess s (memAccess s m (sz.bits / 8) .read true 1) = .error e →
    exec (.ccmpRmR scc dfv sz (.mem m) reg) s = takeException e) ∧
  (∀ (s : State) (scc : Scc) (dfv : Dfv) (sz : OpSize) (reg : RegId) (m : Mem) (e : Exc),
    s.apxEnabled = true → checkAccess s (memAccess s m (sz.bits / 8) .read true 1) = .error e →
    exec (.ccmpRRm scc dfv sz reg (.mem m)) s = takeException e) ∧
  (∀ (s : State) (scc : Scc) (dfv : Dfv) (imm : Imm) (m : Mem) (e : Exc),
    s.apxEnabled = true → checkAccess s (memAccess s m (imm.bits / 8) .read true 1) = .error e →
    exec (.ccmpRmImm scc dfv (.mem m) imm) s = takeException e) ∧
  (∀ (s : State) (scc : Scc) (dfv : Dfv) (sz : OSize) (imm : BitVec 8) (m : Mem) (e : Exc),
    s.apxEnabled = true → checkAccess s (memAccess s m (sz.bits / 8) .read true 1) = .error e →
    exec (.ccmpRmI8 scc dfv sz (.mem m) imm) s = takeException e) ∧
  (∀ (s : State) (scc : Scc) (dfv : Dfv) (sz : OpSize) (reg : RegId) (m : Mem) (e : Exc),
    s.apxEnabled = true → checkAccess s (memAccess s m (sz.bits / 8) .read true 1) = .error e →
    exec (.ctestRmR scc dfv sz (.mem m) reg) s = takeException e) ∧
  (∀ (s : State) (scc : Scc) (dfv : Dfv) (alt : Bool) (imm : Imm) (m : Mem) (e : Exc),
    s.apxEnabled = true → checkAccess s (memAccess s m (imm.bits / 8) .read true 1) = .error e →
    exec (.ctestRmImm scc dfv alt (.mem m) imm) s = takeException e) ∧
  (∀ (s : State) (cc : Cond) (sz : OSize) (v reg : RegId) (m : Mem) (e : Exc),
    s.apxEnabled = true → checkAccess s (memAccess s m (sz.bits / 8) .read true 1) = .error e →
    exec (.cmov cc sz v reg (.mem m)) s = takeException e) ∧
  (∀ (s : State) (cc : Cond) (sz : OSize) (reg : RegId) (m : Mem) (e : Exc),
    s.apxEnabled = true → checkAccess s (memAccess s m (sz.bits / 8) .read true 1) = .error e →
    exec (.rex2Cmov cc sz reg (.mem m)) s = takeException e) ∧
  (∀ (s : State) (sz : OpSize) (rm : RM) (reg : RegId) (ndd : Option RegId) (e : Exc),
    s.apxEnabled = true → rmFails s sz.bits rm e →
    ∀ i ∈ ([.adcRmR sz rm reg ndd, .sbbRmR sz rm reg ndd] : List Instr), exec i s = takeException e) ∧
  (∀ (s : State) (sz : OpSize) (rm : RM) (reg : RegId) (ndd : Option RegId) (e : Exc),
    s.apxEnabled = true → rmReady s sz.bits rm → dstFails s sz.bits (dstRM rm ndd) e →
    ∀ i ∈ ([.adcRmR sz rm reg ndd, .sbbRmR sz rm reg ndd] : List Instr), exec i s = takeException e) ∧
  (∀ (s : State) (sz : OpSize) (reg : RegId) (rm : RM) (ndd : Option RegId) (e : Exc),
    s.apxEnabled = true → rmFails s sz.bits rm e →
    ∀ i ∈ ([.adcRRm sz reg rm ndd, .sbbRRm sz reg rm ndd] : List Instr), exec i s = takeException e) ∧
  (∀ (s : State) (rm : RM) (imm : Imm) (ndd : Option RegId) (e : Exc),
    s.apxEnabled = true → rmFails s imm.bits rm e →
    ∀ i ∈ ([.adcRmImm rm imm ndd, .sbbRmImm rm imm ndd] : List Instr), exec i s = takeException e) ∧
  (∀ (s : State) (rm : RM) (imm : Imm) (ndd : Option RegId) (e : Exc),
    s.apxEnabled = true → rmReady s imm.bits rm → dstFails s imm.bits (dstRM rm ndd) e →
    ∀ i ∈ ([.adcRmImm rm imm ndd, .sbbRmImm rm imm ndd] : List Instr), exec i s = takeException e) ∧
  (∀ (s : State) (sz : OSize) (rm : RM) (imm : BitVec 8) (ndd : Option RegId) (e : Exc),
    s.apxEnabled = true → rmFails s sz.bits rm e →
    ∀ i ∈ ([.adcRmI8 sz rm imm ndd, .sbbRmI8 sz rm imm ndd] : List Instr), exec i s = takeException e) ∧
  (∀ (s : State) (sz : OSize) (rm : RM) (imm : BitVec 8) (ndd : Option RegId) (e : Exc),
    s.apxEnabled = true → rmReady s sz.bits rm → dstFails s sz.bits (dstRM rm ndd) e →
    ∀ i ∈ ([.adcRmI8 sz rm imm ndd, .sbbRmI8 sz rm imm ndd] : List Instr), exec i s = takeException e) ∧
  (∀ (s : State) (sz : YSize) (reg : RegId) (rm : RM) (ndd : Option RegId) (e : Exc),
    s.apxEnabled = true → s.params.features.adx = true → rmFails s sz.bits rm e →
    ∀ i ∈ ([.adcx sz reg rm ndd, .adox sz reg rm ndd] : List Instr), exec i s = takeException e) ∧
  (∀ (s : State) (sz : OpSize) (rm : RM) (reg : RegId) (ndd : Option RegId) (nf : Bool) (e : Exc),
    s.apxEnabled = true → rmFails s sz.bits rm e →
    ∀ i ∈ ([.addRmR sz rm reg ndd nf, .andRmR sz rm reg ndd nf, .orRmR sz rm reg ndd nf, .subRmR sz rm reg ndd nf,
      .xorRmR sz rm reg ndd nf] : List Instr), exec i s = takeException e) ∧
  (∀ (s : State) (sz : OpSize) (rm : RM) (reg : RegId) (ndd : Option RegId) (nf : Bool) (e : Exc),
    s.apxEnabled = true → rmReady s sz.bits rm → dstFails s sz.bits (dstRM rm ndd) e →
    ∀ i ∈ ([.addRmR sz rm reg ndd nf, .andRmR sz rm reg ndd nf, .orRmR sz rm reg ndd nf, .subRmR sz rm reg ndd nf,
      .xorRmR sz rm reg ndd nf] : List Instr), exec i s = takeException e) ∧
  (∀ (s : State) (sz : OpSize) (reg : RegId) (rm : RM) (ndd : Option RegId) (nf : Bool) (e : Exc),
    s.apxEnabled = true → rmFails s sz.bits rm e →
    ∀ i ∈ ([.addRRm sz reg rm ndd nf, .andRRm sz reg rm ndd nf, .orRRm sz reg rm ndd nf, .subRRm sz reg rm ndd nf,
      .xorRRm sz reg rm ndd nf] : List Instr), exec i s = takeException e) ∧
  (∀ (s : State) (rm : RM) (imm : Imm) (ndd : Option RegId) (nf : Bool) (e : Exc),
    s.apxEnabled = true → rmFails s imm.bits rm e →
    ∀ i ∈ ([.addRmImm rm imm ndd nf, .andRmImm rm imm ndd nf, .orRmImm rm imm ndd nf, .subRmImm rm imm ndd nf,
      .xorRmImm rm imm ndd nf] : List Instr), exec i s = takeException e) ∧
  (∀ (s : State) (rm : RM) (imm : Imm) (ndd : Option RegId) (nf : Bool) (e : Exc),
    s.apxEnabled = true → rmReady s imm.bits rm → dstFails s imm.bits (dstRM rm ndd) e →
    ∀ i ∈ ([.addRmImm rm imm ndd nf, .andRmImm rm imm ndd nf, .orRmImm rm imm ndd nf, .subRmImm rm imm ndd nf,
      .xorRmImm rm imm ndd nf] : List Instr), exec i s = takeException e) ∧
  (∀ (s : State) (sz : OSize) (rm : RM) (imm : BitVec 8) (ndd : Option RegId) (nf : Bool) (e : Exc),
    s.apxEnabled = true → rmFails s sz.bits rm e →
    ∀ i ∈ ([.addRmI8 sz rm imm ndd nf, .andRmI8 sz rm imm ndd nf, .orRmI8 sz rm imm ndd nf, .subRmI8 sz rm imm ndd nf,
      .xorRmI8 sz rm imm ndd nf] : List Instr), exec i s = takeException e) ∧
  (∀ (s : State) (sz : OSize) (rm : RM) (imm : BitVec 8) (ndd : Option RegId) (nf : Bool) (e : Exc),
    s.apxEnabled = true → rmReady s sz.bits rm → dstFails s sz.bits (dstRM rm ndd) e →
    ∀ i ∈ ([.addRmI8 sz rm imm ndd nf, .andRmI8 sz rm imm ndd nf, .orRmI8 sz rm imm ndd nf, .subRmI8 sz rm imm ndd nf,
      .xorRmI8 sz rm imm ndd nf] : List Instr), exec i s = takeException e) ∧
  (∀ (s : State) (x : BitVec 4) (m : Mem) (e : Exc),
    s.apxEnabled = true → klReady s s.params.features.keylocker → checkAccess s (memAccess s m (384 / 8) .read false
      1) = .error e →
    ∀ i ∈ ([.aesdec128kl x m, .aesenc128kl x m] : List Instr), exec i s = takeException e) ∧
  (∀ (s : State) (x : BitVec 4) (m : Mem) (e : Exc),
    s.apxEnabled = true → klReady s s.params.features.keylocker → checkAccess s (memAccess s m (512 / 8) .read false
      1) = .error e →
    ∀ i ∈ ([.aesdec256kl x m, .aesenc256kl x m] : List Instr), exec i s = takeException e) ∧
  (∀ (s : State) (m : Mem) (e : Exc),
    s.apxEnabled = true → klReady s s.params.features.keylockerWide → checkAccess s (memAccess s m (384 / 8) .read
      false 1) = .error e →
    ∀ i ∈ ([.aesdecwide128kl m, .aesencwide128kl m] : List Instr), exec i s = takeException e) ∧
  (∀ (s : State) (m : Mem) (e : Exc),
    s.apxEnabled = true → klReady s s.params.features.keylockerWide → checkAccess s (memAccess s m (512 / 8) .read
      false 1) = .error e →
    ∀ i ∈ ([.aesdecwide256kl m, .aesencwide256kl m] : List Instr), exec i s = takeException e) ∧
  (∀ (s : State) (sz : YSize) (reg v : RegId) (rm : RM) (nf : Bool) (e : Exc),
    s.apxEnabled = true → s.params.features.bmi1 = true → rmFails s sz.bits rm e →
    exec (.andn sz reg v rm nf) s = takeException e) ∧
  (∀ (s : State) (sz : YSize) (reg : RegId) (rm : RM) (v : RegId) (nf : Bool) (e : Exc),
    s.apxEnabled = true → s.params.features.bmi1 = true → rmFails s sz.bits rm e →
    exec (.bextr sz reg rm v nf) s = takeException e) ∧
  (∀ (s : State) (sz : YSize) (v : RegId) (rm : RM) (nf : Bool) (e : Exc),
    s.apxEnabled = true → s.params.features.bmi1 = true → rmFails s sz.bits rm e →
    ∀ i ∈ ([.blsi sz v rm nf, .blsmsk sz v rm nf, .blsr sz v rm nf] : List Instr), exec i s = takeException e) ∧
  (∀ (s : State) (sz : YSize) (reg : RegId) (rm : RM) (v : RegId) (nf : Bool) (e : Exc),
    s.apxEnabled = true → s.params.features.bmi2 = true → rmFails s sz.bits rm e →
    exec (.bzhi sz reg rm v nf) s = takeException e) ∧
  (∀ (s : State) (cc : Cond) (sz : YSize) (m : Mem) (reg v : RegId) (e : Exc),
    s.apxEnabled = true → s.params.features.cmpccxadd = true → checkAccess s (cmpxaddAccess s sz.bits m .read) =
      .error e →
    exec (.cmpccxadd cc sz m reg v) s = takeException e) ∧
  (∀ (s : State) (cc : Cond) (sz : YSize) (m : Mem) (reg v : RegId) (e : Exc),
    s.apxEnabled = true → s.params.features.cmpccxadd = true → accessOk s (cmpxaddAccess s sz.bits m .read) →
      (subFlags (memValue s sz.bits (linAddr s m)) (s.readGpr sz.bits reg) false).cond cc = true → checkAccess s
      (cmpxaddAccess s sz.bits m .write) = .error e →
    exec (.cmpccxadd cc sz m reg v) s = takeException e) ∧
  (∀ (s : State) (sz : YSize) (reg : RegId) (rm : RM) (e : Exc),
    s.apxEnabled = true → rmFails s 8 rm e →
    exec (.crc32Rm8 sz reg rm) s = takeException e) ∧
  (∀ (s : State) (sz : OSize) (reg : RegId) (rm : RM) (e : Exc),
    s.apxEnabled = true → rmFails s sz.bits rm e →
    ∀ i ∈ ([.crc32Rm sz reg rm, .rex2ImulRRm sz reg rm] : List Instr), exec i s = takeException e) ∧
  (∀ (s : State) (sz : OpSize) (rm : RM) (ndd : Option RegId) (nf : Bool) (e : Exc),
    s.apxEnabled = true → rmFails s sz.bits rm e →
    ∀ i ∈ ([.decRm sz rm ndd nf, .incRm sz rm ndd nf, .negRm sz rm ndd nf, .rolRmOne sz rm ndd nf, .rolRmCl sz rm ndd
      nf, .rorRmOne sz rm ndd nf, .rorRmCl sz rm ndd nf, .sarRmOne sz rm ndd nf, .sarRmCl sz rm ndd nf, .shrRmOne sz
      rm ndd nf, .shrRmCl sz rm ndd nf] : List Instr), exec i s = takeException e) ∧
  (∀ (s : State) (sz : OpSize) (rm : RM) (ndd : Option RegId) (nf : Bool) (e : Exc),
    s.apxEnabled = true → rmReady s sz.bits rm → dstFails s sz.bits (dstRM rm ndd) e →
    ∀ i ∈ ([.decRm sz rm ndd nf, .incRm sz rm ndd nf, .negRm sz rm ndd nf, .rolRmOne sz rm ndd nf, .rolRmCl sz rm ndd
      nf, .rorRmOne sz rm ndd nf, .rorRmCl sz rm ndd nf, .sarRmOne sz rm ndd nf, .sarRmCl sz rm ndd nf, .shrRmOne sz
      rm ndd nf, .shrRmCl sz rm ndd nf] : List Instr), exec i s = takeException e) ∧
  (∀ (s : State) (sz : OpSize) (rm : RM) (nf : Bool) (e : Exc),
    s.apxEnabled = true → rmFails s sz.bits rm e →
    ∀ i ∈ ([.divRm sz rm nf, .idivRm sz rm nf, .imulRm sz rm nf, .mulRm sz rm nf] : List Instr), exec i s =
      takeException e) ∧
  (∀ (s : State) (reg : RegId) (m : Mem) (e : Exc),
    s.apxEnabled = true → s.params.features.enqcmd = true → aligned64 (addrReg s m.a32 reg) = true → s.ctrl.pasidValid
      = true → checkAccess s (memAccess s m 64 .read false 1) = .error e →
    exec (.enqcmd reg m) s = takeException e) ∧
  (∀ (s : State) (reg : RegId) (m : Mem) (e : Exc),
    s.apxEnabled = true → s.params.features.enqcmd = true → s.cpl = 0 → aligned64 (addrReg s m.a32 reg) = true →
      checkAccess s (memAccess s m 64 .read false 1) = .error e →
    exec (.enqcmds reg m) s = takeException e) ∧
  (∀ (s : State) (reg : RegId) (rm : RM) (imm : ImmZ) (zu nf : Bool) (e : Exc),
    s.apxEnabled = true → rmFails s imm.bits rm e →
    exec (.imulRRmIz reg rm imm zu nf) s = takeException e) ∧
  (∀ (s : State) (sz : OSize) (reg : RegId) (rm : RM) (imm : BitVec 8) (zu nf : Bool) (e : Exc),
    s.apxEnabled = true → rmFails s sz.bits rm e →
    exec (.imulRRmI8 sz reg rm imm zu nf) s = takeException e) ∧
  (∀ (s : State) (sz : OSize) (reg : RegId) (rm : RM) (ndd : Option RegId) (nf : Bool) (e : Exc),
    s.apxEnabled = true → rmFails s sz.bits rm e →
    exec (.imulRRm sz reg rm ndd nf) s = takeException e) ∧
  (∀ (s : State) (reg : RegId) (m : Mem) (e : Exc),
    s.apxEnabled = true → s.params.features.vmx = true → s.ctrl.inVmxOperation = true → s.ctrl.eptSupported = true →
      s.ctrl.inveptSupported = true → s.cpl = 0 → checkAccess s (memAccess s m 16 .read false 1) = .error e →
    exec (.invept reg m) s = takeException e) ∧
  (∀ (s : State) (reg : RegId) (m : Mem) (e : Exc),
    s.apxEnabled = true → s.params.features.invpcid = true → s.cpl = 0 → (s.getGpr reg).toNat ≤ 3 → checkAccess s
      (memAccess s m 16 .read false 1) = .error e →
    exec (.invpcid reg m) s = takeException e) ∧
  (∀ (s : State) (reg : RegId) (m : Mem) (e : Exc),
    s.apxEnabled = true → s.params.features.vmx = true → s.ctrl.inVmxOperation = true → s.ctrl.vpidSupported = true →
      s.ctrl.invvpidSupported = true → s.cpl = 0 → checkAccess s (memAccess s m 16 .read false 1) = .error e →
    exec (.invvpid reg m) s = takeException e) ∧
  (∀ (s : State) (k : ShortId) (m : Mem) (e : Exc),
    s.apxEnabled = true → kmovbOk s.params.features = true → shortIdOk s.params k = true → s.ctrl.cr0Ts = false →
      rmFails s 8 (.mem m) e →
    exec (.kmovbKKm k (.mem m)) s = takeException e) ∧
  (∀ (s : State) (m : Mem) (k : ShortId) (e : Exc),
    s.apxEnabled = true → kmovbOk s.params.features = true → shortIdOk s.params k = true → s.ctrl.cr0Ts = false →
      dstFails s 8 (.mem m) e →
    exec (.kmovbMK m k) s = takeException e) ∧
  (∀ (s : State) (k : ShortId) (m : Mem) (e : Exc),
    s.apxEnabled = true → kmovdqOk s.params.features = true → shortIdOk s.params k = true → s.ctrl.cr0Ts = false →
      rmFails s 32 (.mem m) e →
    exec (.kmovdKKm k (.mem m)) s = takeException e) ∧
  (∀ (s : State) (m : Mem) (k : ShortId) (e : Exc),
    s.apxEnabled = true → kmovdqOk s.params.features = true → shortIdOk s.params k = true → s.ctrl.cr0Ts = false →
      dstFails s 32 (.mem m) e →
    exec (.kmovdMK m k) s = takeException e) ∧
  (∀ (s : State) (k : ShortId) (m : Mem) (e : Exc),
    s.apxEnabled = true → kmovdqOk s.params.features = true → shortIdOk s.params k = true → s.ctrl.cr0Ts = false →
      rmFails s 64 (.mem m) e →
    exec (.kmovqKKm k (.mem m)) s = takeException e) ∧
  (∀ (s : State) (m : Mem) (k : ShortId) (e : Exc),
    s.apxEnabled = true → kmovdqOk s.params.features = true → shortIdOk s.params k = true → s.ctrl.cr0Ts = false →
      dstFails s 64 (.mem m) e →
    exec (.kmovqMK m k) s = takeException e) ∧
  (∀ (s : State) (k : ShortId) (m : Mem) (e : Exc),
    s.apxEnabled = true → kmovwOk s.params.features = true → shortIdOk s.params k = true → s.ctrl.cr0Ts = false →
      rmFails s 16 (.mem m) e →
    exec (.kmovwKKm k (.mem m)) s = takeException e) ∧
  (∀ (s : State) (m : Mem) (k : ShortId) (e : Exc),
    s.apxEnabled = true → kmovwOk s.params.features = true → shortIdOk s.params k = true → s.ctrl.cr0Ts = false →
      dstFails s 16 (.mem m) e →
    exec (.kmovwMK m k) s = takeException e) ∧
  (∀ (s : State) (m : Mem) (e : Exc),
    s.apxEnabled = true → s.params.features.amxTile = true → checkAccess s (memAccess s m 64 .read false 1) = .error e
      →
    exec (.ldtilecfg m) s = takeException e) ∧
  (∀ (s : State) (sz : OSize) (reg : RegId) (rm : RM) (nf : Bool) (e : Exc),
    s.apxEnabled = true → s.params.features.lzcnt = true → rmFails s sz.bits rm e →
    exec (.lzcnt sz reg rm nf) s = takeException e) ∧
  (∀ (s : State) (sz : OSize) (reg : RegId) (rm : RM) (e : Exc),
    s.apxEnabled = true → s.params.features.movbe = true → rmFails s sz.bits rm e →
    exec (.movbeRRm sz reg rm) s = takeException e) ∧
  (∀ (s : State) (sz : OSize) (rm : RM) (reg : RegId) (e : Exc),
    s.apxEnabled = true → s.params.features.movbe = true → dstFails s sz.bits (dstRM rm none) e →
    exec (.movbeRmR sz rm reg) s = takeException e) ∧
  (∀ (s : State) (reg : RegId) (m : Mem) (e : Exc),
    s.apxEnabled = true → s.params.features.movdir = true → aligned64 (addrReg s m.a32 reg) = true → checkAccess s
      (memAccess s m 64 .read true 1) = .error e →
    exec (.movdir64b reg m) s = takeException e) ∧
  (∀ (s : State) (reg : RegId) (m : Mem) (e : Exc),
    s.apxEnabled = true → s.params.features.movdir = true → aligned64 (addrReg s m.a32 reg) = true → accessOk s
      (memAccess s m 64 .read true 1) → checkAccess s (movdir64bAccess s m.a32 reg) = .error e →
    exec (.movdir64b reg m) s = takeException e) ∧
  (∀ (s : State) (sz : YSize) (m : Mem) (reg : RegId) (e : Exc),
    s.apxEnabled = true → s.params.features.movdir = true → dstFails s sz.bits (.mem m) e →
    exec (.movdiri sz m reg) s = takeException e) ∧
  (∀ (s : State) (sz : YSize) (reg v : RegId) (rm : RM) (e : Exc),
    s.apxEnabled = true → s.params.features.bmi2 = true → rmFails s sz.bits rm e →
    ∀ i ∈ ([.mulx sz reg v rm, .pdep sz reg v rm, .pext sz reg v rm] : List Instr), exec i s = takeException e) ∧
  (∀ (s : State) (sz : OpSize) (rm : RM) (ndd : Option RegId) (e : Exc),
    s.apxEnabled = true → rmFails s sz.bits rm e →
    ∀ i ∈ ([.notRm sz rm ndd, .rclRmOne sz rm ndd, .rclRmCl sz rm ndd, .rcrRmOne sz rm ndd, .rcrRmCl sz rm ndd] : List
      Instr), exec i s = takeException e) ∧
  (∀ (s : State) (sz : OpSize) (rm : RM) (ndd : Option RegId) (e : Exc),
    s.apxEnabled = true → rmReady s sz.bits rm → dstFails s sz.bits (dstRM rm ndd) e →
    ∀ i ∈ ([.notRm sz rm ndd, .rclRmOne sz rm ndd, .rclRmCl sz rm ndd, .rcrRmOne sz rm ndd, .rcrRmCl sz rm ndd] : List
      Instr), exec i s = takeException e) ∧
  (∀ (s : State) (sz : OSize) (reg : RegId) (rm : RM) (nf : Bool) (e : Exc),
    s.apxEnabled = true → rmFails s sz.bits rm e →
    exec (.popcnt sz reg rm nf) s = takeException e) ∧
  (∀ (s : State) (sz : OpSize) (rm : RM) (imm : BitVec 8) (ndd : Option RegId) (e : Exc),
    s.apxEnabled = true → rmFails s sz.bits rm e →
    ∀ i ∈ ([.rclRmI8 sz rm imm ndd, .rcrRmI8 sz rm imm ndd] : List Instr), exec i s = takeException e) ∧
  (∀ (s : State) (sz : OpSize) (rm : RM) (imm : BitVec 8) (ndd : Option RegId) (e : Exc),
    s.apxEnabled = true → rmReady s sz.bits rm → dstFails s sz.bits (dstRM rm ndd) e →
    ∀ i ∈ ([.rclRmI8 sz rm imm ndd, .rcrRmI8 sz rm imm ndd] : List Instr), exec i s = takeException e) ∧
  (∀ (s : State) (sz : OpSize) (rm : RM) (imm : BitVec 8) (ndd : Option RegId) (nf : Bool) (e : Exc),
    s.apxEnabled = true → rmFails s sz.bits rm e →
    ∀ i ∈ ([.rolRmI8 sz rm imm ndd nf, .rorRmI8 sz rm imm ndd nf, .sarRmI8 sz rm imm ndd nf, .shrRmI8 sz rm imm ndd
      nf] : List Instr), exec i s = takeException e) ∧
  (∀ (s : State) (sz : OpSize) (rm : RM) (imm : BitVec 8) (ndd : Option RegId) (nf : Bool) (e : Exc),
    s.apxEnabled = true → rmReady s sz.bits rm → dstFails s sz.bits (dstRM rm ndd) e →
    ∀ i ∈ ([.rolRmI8 sz rm imm ndd nf, .rorRmI8 sz rm imm ndd nf, .sarRmI8 sz rm imm ndd nf, .shrRmI8 sz rm imm ndd
      nf] : List Instr), exec i s = takeException e) ∧
  (∀ (s : State) (sz : YSize) (reg : RegId) (rm : RM) (imm : BitVec 8) (e : Exc),
    s.apxEnabled = true → s.params.features.bmi2 = true → rmFails s sz.bits rm e →
    exec (.rorx sz reg rm imm) s = takeException e) ∧
  (∀ (s : State) (sz : YSize) (reg : RegId) (rm : RM) (v : RegId) (e : Exc),
    s.apxEnabled = true → s.params.features.bmi2 = true → rmFails s sz.bits rm e →
    ∀ i ∈ ([.sarx sz reg rm v, .shlx sz reg rm v, .shrx sz reg rm v] : List Instr), exec i s = takeException e) ∧
  (∀ (s : State) (x : BitVec 4) (src : XRM) (e : Exc),
    s.apxEnabled = true → shaReady s → xrmFails s src e →
    ∀ i ∈ ([.sha1msg1 x src, .sha1msg2 x src, .sha1nexte x src, .sha256msg1 x src, .sha256msg2 x src, .sha256rnds2 x
      src] : List Instr), exec i s = takeException e) ∧
  (∀ (s : State) (x : BitVec 4) (src : XRM) (imm : BitVec 8) (e : Exc),
    s.apxEnabled = true → shaReady s → xrmFails s src e →
    exec (.sha1rnds4 x src imm) s = takeException e) ∧
  (∀ (s : State) (alt : Bool) (sz : OpSize) (rm : RM) (imm : BitVec 8) (ndd : Option RegId) (nf : Bool) (e : Exc),
    s.apxEnabled = true → rmFails s sz.bits rm e →
    exec (.shlRmI8 alt sz rm imm ndd nf) s = takeException e) ∧
  (∀ (s : State) (alt : Bool) (sz : OpSize) (rm : RM) (imm : BitVec 8) (ndd : Option RegId) (nf : Bool) (e : Exc),
    s.apxEnabled = true → rmReady s sz.bits rm → dstFails s sz.bits (dstRM rm ndd) e →
    exec (.shlRmI8 alt sz rm imm ndd nf) s = takeException e) ∧
  (∀ (s : State) (alt : Bool) (sz : OpSize) (rm : RM) (ndd : Option RegId) (nf : Bool) (e : Exc),
    s.apxEnabled = true → rmFails s sz.bits rm e →
    ∀ i ∈ ([.shlRmOne alt sz rm ndd nf, .shlRmCl alt sz rm ndd nf] : List Instr), exec i s = takeException e) ∧
  (∀ (s : State) (alt : Bool) (sz : OpSize) (rm : RM) (ndd : Option RegId) (nf : Bool) (e : Exc),
    s.apxEnabled = true → rmReady s sz.bits rm → dstFails s sz.bits (dstRM rm ndd) e →
    ∀ i ∈ ([.shlRmOne alt sz rm ndd nf, .shlRmCl alt sz rm ndd nf] : List Instr), exec i s = takeException e) ∧
  (∀ (s : State) (sz : OSize) (rm : RM) (reg : RegId) (imm : BitVec 8) (ndd : Option RegId) (nf : Bool) (e : Exc),
    s.apxEnabled = true → rmFails s sz.bits rm e →
    ∀ i ∈ ([.shldRmRI8 sz rm reg imm ndd nf, .shrdRmRI8 sz rm reg imm ndd nf] : List Instr), exec i s = takeException
      e) ∧
  (∀ (s : State) (sz : OSize) (rm : RM) (reg : RegId) (imm : BitVec 8) (ndd : Option RegId) (nf : Bool) (e : Exc),
    s.apxEnabled = true → rmReady s sz.bits rm → dstFails s sz.bits (dstRM rm ndd) e →
    ∀ i ∈ ([.shldRmRI8 sz rm reg imm ndd nf, .shrdRmRI8 sz rm reg imm ndd nf] : List Instr), exec i s = takeException
      e) ∧
  (∀ (s : State) (sz : OSize) (rm : RM) (reg : RegId) (ndd : Option RegId) (nf : Bool) (e : Exc),
    s.apxEnabled = true → rmFails s sz.bits rm e →
    ∀ i ∈ ([.shldRmRCl sz rm reg ndd nf, .shrdRmRCl sz rm reg ndd nf] : List Instr), exec i s = takeException e) ∧
  (∀ (s : State) (sz : OSize) (rm : RM) (reg : RegId) (ndd : Option RegId) (nf : Bool) (e : Exc),
    s.apxEnabled = true → rmReady s sz.bits rm → dstFails s sz.bits (dstRM rm ndd) e →
    ∀ i ∈ ([.shldRmRCl sz rm reg ndd nf, .shrdRmRCl sz rm reg ndd nf] : List Instr), exec i s = takeException e) ∧
  (∀ (s : State) (m : Mem) (e : Exc),
    s.apxEnabled = true → s.params.features.amxTile = true → checkAccess s (memAccess s m 64 .write false 1) = .error
      e →
    exec (.sttilecfg m) s = takeException e) ∧
  (∀ (s : State) (t : ShortId) (m : Mem) (e : Exc),
    s.apxEnabled = true → tileReady s t → hasSib m.form = true → rowsFail s m (s.tileShape t.id).colsb .read 0
      (s.tileShape t.id).rows e →
    ∀ i ∈ ([.tileloadd t m, .tileloaddt1 t m] : List Instr), exec i s = takeException e) ∧
  (∀ (s : State) (m : Mem) (t : ShortId) (e : Exc),
    s.apxEnabled = true → tileReady s t → hasSib m.form = true → rowsFail s m (s.tileShape t.id).colsb .write 0
      (s.tileShape t.id).rows e →
    exec (.tilestored m t) s = takeException e) ∧
  (∀ (s : State) (sz : OSize) (reg : RegId) (rm : RM) (nf : Bool) (e : Exc),
    s.apxEnabled = true → s.params.features.bmi1 = true → rmFails s sz.bits rm e →
    exec (.tzcnt sz reg rm nf) s = takeException e) ∧
  (∀ (s : State) (m : Mem) (reg : RegId) (e : Exc),
    s.apxEnabled = true → s.params.features.cet = true → s.ctrl.cr4Cet = true → wrssEnabled s = true → checkAccess s
      (shadowAccess s m (32 / 8) (if s.cpl = 3 then .shadowUser else .shadowSupervisor)) = .error e →
    exec (.wrssd m reg) s = takeException e) ∧
  (∀ (s : State) (m : Mem) (reg : RegId) (e : Exc),
    s.apxEnabled = true → s.params.features.cet = true → s.ctrl.cr4Cet = true → wrssEnabled s = true → checkAccess s
      (shadowAccess s m (64 / 8) (if s.cpl = 3 then .shadowUser else .shadowSupervisor)) = .error e →
    exec (.wrssq m reg) s = takeException e) ∧
  (∀ (s : State) (m : Mem) (reg : RegId) (e : Exc),
    s.apxEnabled = true → s.params.features.cet = true → s.ctrl.cr4Cet = true → s.cpl = 0 → checkAccess s
      (shadowAccess s m (32 / 8) .shadowUser) = .error e →
    exec (.wrussd m reg) s = takeException e) ∧
  (∀ (s : State) (m : Mem) (reg : RegId) (e : Exc),
    s.apxEnabled = true → s.params.features.cet = true → s.ctrl.cr4Cet = true → s.cpl = 0 → checkAccess s
      (shadowAccess s m (64 / 8) .shadowUser) = .error e →
    exec (.wrussq m reg) s = takeException e) ∧
  (∀ (s : State) (cc : Cond) (sz : OSize) (reg : RegId) (rm : RM) (e : Exc),
    s.apxEnabled = true → s.flags.cond cc = true → rmFails s sz.bits rm e →
    exec (.cfcmovLoad cc sz reg rm) s = takeException e) ∧
  (∀ (s : State) (cc : Cond) (sz : OSize) (m : Mem) (reg : RegId) (e : Exc),
    s.apxEnabled = true → s.flags.cond cc = true → dstFails s sz.bits (.mem m) e →
    exec (.cfcmovStore cc sz m reg) s = takeException e) ∧
  (∀ (s : State) (cc : Cond) (sz : OSize) (v reg : RegId) (rm : RM) (e : Exc),
    s.apxEnabled = true → s.flags.cond cc = true → rmFails s sz.bits rm e →
    exec (.cfcmovNdd cc sz v reg rm) s = takeException e) ∧
  (∀ (s : State) (cc : Cond) (rm : RM) (zu : Bool) (e : Exc),
    s.apxEnabled = true → dstFails s 8 (dstRM rm none) e →
    exec (.setcc cc rm zu) s = takeException e) ∧
  (∀ (s : State) (v b : RegId) (e : Exc),
    s.apxEnabled = true → v ≠ 4 → b ≠ 4 → v ≠ b → s.rsp.toNat % 16 = 0 → checkAccess s (stackAccess s.rsp 16 .read
      false) = .error e →
    ∀ i ∈ ([.pop2 v b, .pop2p v b] : List Instr), exec i s = takeException e) ∧
  (∀ (s : State) (v b : RegId) (e : Exc),
    s.apxEnabled = true → v ≠ 4 → b ≠ 4 → s.rsp.toNat % 16 = 0 → checkAccess s (stackAccess (s.rsp - 16) 16 .write
      false) = .error e →
    ∀ i ∈ ([.push2 v b, .push2p v b] : List Instr), exec i s = takeException e) ∧
  (∀ (s : State) (sz : OpSize) (rm : RM) (reg : RegId) (e : Exc),
    s.apxEnabled = true → rmFails s sz.bits rm e →
    ∀ i ∈ ([.rex2AddRmR sz rm reg, .rex2OrRmR sz rm reg, .rex2AdcRmR sz rm reg, .rex2SbbRmR sz rm reg, .rex2AndRmR sz
      rm reg, .rex2SubRmR sz rm reg, .rex2XorRmR sz rm reg, .rex2CmpRmR sz rm reg, .rex2TestRmR sz rm reg] : List
      Instr), exec i s = takeException e) ∧
  (∀ (s : State) (sz : OpSize) (rm : RM) (reg : RegId) (e : Exc),
    s.apxEnabled = true → rmReady s sz.bits rm → dstFails s sz.bits (dstRM rm none) e →
    ∀ i ∈ ([.rex2AddRmR sz rm reg, .rex2OrRmR sz rm reg, .rex2AdcRmR sz rm reg, .rex2SbbRmR sz rm reg, .rex2AndRmR sz
      rm reg, .rex2SubRmR sz rm reg, .rex2XorRmR sz rm reg] : List Instr), exec i s = takeException e) ∧
  (∀ (s : State) (sz : OpSize) (reg : RegId) (rm : RM) (e : Exc),
    s.apxEnabled = true → rmFails s sz.bits rm e →
    ∀ i ∈ ([.rex2AddRRm sz reg rm, .rex2OrRRm sz reg rm, .rex2AdcRRm sz reg rm, .rex2SbbRRm sz reg rm, .rex2AndRRm sz
      reg rm, .rex2SubRRm sz reg rm, .rex2XorRRm sz reg rm, .rex2CmpRRm sz reg rm, .rex2MovRRm sz reg rm] : List
      Instr), exec i s = takeException e) ∧
  (∀ (s : State) (rm : RM) (imm : Imm) (e : Exc),
    s.apxEnabled = true → rmFails s imm.bits rm e →
    ∀ i ∈ ([.rex2AddRmImm rm imm, .rex2OrRmImm rm imm, .rex2AdcRmImm rm imm, .rex2SbbRmImm rm imm, .rex2AndRmImm rm
      imm, .rex2SubRmImm rm imm, .rex2XorRmImm rm imm, .rex2CmpRmImm rm imm] : List Instr), exec i s = takeException
      e) ∧
  (∀ (s : State) (rm : RM) (imm : Imm) (e : Exc),
    s.apxEnabled = true → rmReady s imm.bits rm → dstFails s imm.bits (dstRM rm none) e →
    ∀ i ∈ ([.rex2AddRmImm rm imm, .rex2OrRmImm rm imm, .rex2AdcRmImm rm imm, .rex2SbbRmImm rm imm, .rex2AndRmImm rm
      imm, .rex2SubRmImm rm imm, .rex2XorRmImm rm imm] : List Instr), exec i s = takeException e) ∧
  (∀ (s : State) (sz : OSize) (rm : RM) (imm : BitVec 8) (e : Exc),
    s.apxEnabled = true → rmFails s sz.bits rm e →
    ∀ i ∈ ([.rex2AddRmI8 sz rm imm, .rex2OrRmI8 sz rm imm, .rex2AdcRmI8 sz rm imm, .rex2SbbRmI8 sz rm imm,
      .rex2AndRmI8 sz rm imm, .rex2SubRmI8 sz rm imm, .rex2XorRmI8 sz rm imm, .rex2CmpRmI8 sz rm imm] : List Instr),
      exec i s = takeException e) ∧
  (∀ (s : State) (sz : OSize) (rm : RM) (imm : BitVec 8) (e : Exc),
    s.apxEnabled = true → rmReady s sz.bits rm → dstFails s sz.bits (dstRM rm none) e →
    ∀ i ∈ ([.rex2AddRmI8 sz rm imm, .rex2OrRmI8 sz rm imm, .rex2AdcRmI8 sz rm imm, .rex2SbbRmI8 sz rm imm,
      .rex2AndRmI8 sz rm imm, .rex2SubRmI8 sz rm imm, .rex2XorRmI8 sz rm imm] : List Instr), exec i s = takeException
      e) ∧
  (∀ (s : State) (alt : Bool) (rm : RM) (imm : Imm) (e : Exc),
    s.apxEnabled = true → rmFails s imm.bits rm e →
    exec (.rex2TestRmImm alt rm imm) s = takeException e) ∧
  (∀ (s : State) (sz : OpSize) (rm : RM) (reg : RegId) (e : Exc),
    s.apxEnabled = true → dstFails s sz.bits (dstRM rm none) e →
    exec (.rex2MovRmR sz rm reg) s = takeException e) ∧
  (∀ (s : State) (rm : RM) (imm : Imm) (e : Exc),
    s.apxEnabled = true → dstFails s imm.bits (dstRM rm none) e →
    exec (.rex2MovRmImm rm imm) s = takeException e) ∧
  (∀ (s : State) (sz : YSize) (reg : RegId) (rm : RM) (e : Exc),
    s.apxEnabled = true → rmFails s 32 rm e →
    exec (.rex2Movsxd sz reg rm) s = takeException e) ∧
  (∀ (s : State) (sz : OSize) (src : SrcSize) (reg : RegId) (rm : RM) (e : Exc),
    s.apxEnabled = true → rmFails s src.bits rm e →
    ∀ i ∈ ([.rex2Movzx sz src reg rm, .rex2Movsx sz src reg rm] : List Instr), exec i s = takeException e) ∧
  (∀ (s : State) (reg : RegId) (rm : RM) (imm : ImmZ) (e : Exc),
    s.apxEnabled = true → rmFails s imm.bits rm e →
    exec (.rex2ImulRRmIz reg rm imm) s = takeException e) ∧
  (∀ (s : State) (sz : OSize) (reg : RegId) (rm : RM) (imm : BitVec 8) (e : Exc),
    s.apxEnabled = true → rmFails s sz.bits rm e →
    exec (.rex2ImulRRmI8 sz reg rm imm) s = takeException e) ∧
  (∀ (s : State) (sz : OpSize) (rm : RM) (imm : BitVec 8) (e : Exc),
    s.apxEnabled = true → rmFails s sz.bits rm e →
    ∀ i ∈ ([.rex2RolRmI8 sz rm imm, .rex2RorRmI8 sz rm imm, .rex2RclRmI8 sz rm imm, .rex2RcrRmI8 sz rm imm,
      .rex2ShrRmI8 sz rm imm, .rex2SarRmI8 sz rm imm] : List Instr), exec i s = takeException e) ∧
  (∀ (s : State) (sz : OpSize) (rm : RM) (imm : BitVec 8) (e : Exc),
    s.apxEnabled = true → rmReady s sz.bits rm → dstFails s sz.bits (dstRM rm none) e →
    ∀ i ∈ ([.rex2RolRmI8 sz rm imm, .rex2RorRmI8 sz rm imm, .rex2RclRmI8 sz rm imm, .rex2RcrRmI8 sz rm imm,
      .rex2ShrRmI8 sz rm imm, .rex2SarRmI8 sz rm imm] : List Instr), exec i s = takeException e) ∧
  (∀ (s : State) (alt : Bool) (sz : OpSize) (rm : RM) (imm : BitVec 8) (e : Exc),
    s.apxEnabled = true → rmFails s sz.bits rm e →
    exec (.rex2ShlRmI8 alt sz rm imm) s = takeException e) ∧
  (∀ (s : State) (alt : Bool) (sz : OpSize) (rm : RM) (imm : BitVec 8) (e : Exc),
    s.apxEnabled = true → rmReady s sz.bits rm → dstFails s sz.bits (dstRM rm none) e →
    exec (.rex2ShlRmI8 alt sz rm imm) s = takeException e) ∧
  (∀ (s : State) (sz : OpSize) (rm : RM) (e : Exc),
    s.apxEnabled = true → rmFails s sz.bits rm e →
    ∀ i ∈ ([.rex2RolRmOne sz rm, .rex2RorRmOne sz rm, .rex2RclRmOne sz rm, .rex2RcrRmOne sz rm, .rex2ShrRmOne sz rm,
      .rex2SarRmOne sz rm, .rex2RolRmCl sz rm, .rex2RorRmCl sz rm, .rex2RclRmCl sz rm, .rex2RcrRmCl sz rm,
      .rex2ShrRmCl sz rm, .rex2SarRmCl sz rm, .rex2NotRm sz rm, .rex2NegRm sz rm, .rex2MulRm sz rm, .rex2ImulRm sz rm,
      .rex2DivRm sz rm, .rex2IdivRm sz rm, .rex2IncRm sz rm, .rex2DecRm sz rm] : List Instr), exec i s = takeException
      e) ∧
  (∀ (s : State) (sz : OpSize) (rm : RM) (e : Exc),
    s.apxEnabled = true → rmReady s sz.bits rm → dstFails s sz.bits (dstRM rm none) e →
    ∀ i ∈ ([.rex2RolRmOne sz rm, .rex2RorRmOne sz rm, .rex2RclRmOne sz rm, .rex2RcrRmOne sz rm, .rex2ShrRmOne sz rm,
      .rex2SarRmOne sz rm, .rex2RolRmCl sz rm, .rex2RorRmCl sz rm, .rex2RclRmCl sz rm, .rex2RcrRmCl sz rm,
      .rex2ShrRmCl sz rm, .rex2SarRmCl sz rm, .rex2NotRm sz rm, .rex2NegRm sz rm, .rex2IncRm sz rm, .rex2DecRm sz rm]
      : List Instr), exec i s = takeException e) ∧
  (∀ (s : State) (alt : Bool) (sz : OpSize) (rm : RM) (e : Exc),
    s.apxEnabled = true → rmFails s sz.bits rm e →
    ∀ i ∈ ([.rex2ShlRmOne alt sz rm, .rex2ShlRmCl alt sz rm] : List Instr), exec i s = takeException e) ∧
  (∀ (s : State) (alt : Bool) (sz : OpSize) (rm : RM) (e : Exc),
    s.apxEnabled = true → rmReady s sz.bits rm → dstFails s sz.bits (dstRM rm none) e →
    ∀ i ∈ ([.rex2ShlRmOne alt sz rm, .rex2ShlRmCl alt sz rm] : List Instr), exec i s = takeException e) ∧
  (∀ (s : State) (sz : OSize) (rm : RM) (reg : RegId) (imm : BitVec 8) (e : Exc),
    s.apxEnabled = true → rmFails s sz.bits rm e →
    ∀ i ∈ ([.rex2ShldRmRI8 sz rm reg imm, .rex2ShrdRmRI8 sz rm reg imm] : List Instr), exec i s = takeException e) ∧
  (∀ (s : State) (sz : OSize) (rm : RM) (reg : RegId) (imm : BitVec 8) (e : Exc),
    s.apxEnabled = true → rmReady s sz.bits rm → dstFails s sz.bits (dstRM rm none) e →
    ∀ i ∈ ([.rex2ShldRmRI8 sz rm reg imm, .rex2ShrdRmRI8 sz rm reg imm] : List Instr), exec i s = takeException e) ∧
  (∀ (s : State) (sz : OSize) (rm : RM) (reg : RegId) (e : Exc),
    s.apxEnabled = true → rmFails s sz.bits rm e →
    ∀ i ∈ ([.rex2ShldRmRCl sz rm reg, .rex2ShrdRmRCl sz rm reg] : List Instr), exec i s = takeException e) ∧
  (∀ (s : State) (sz : OSize) (rm : RM) (reg : RegId) (e : Exc),
    s.apxEnabled = true → rmReady s sz.bits rm → dstFails s sz.bits (dstRM rm none) e →
    ∀ i ∈ ([.rex2ShldRmRCl sz rm reg, .rex2ShrdRmRCl sz rm reg] : List Instr), exec i s = takeException e) ∧
  (∀ (s : State) (cc : Cond) (rm : RM) (e : Exc),
    s.apxEnabled = true → dstFails s 8 (dstRM rm none) e →
    exec (.rex2Setcc cc rm) s = takeException e) ∧
  (∀ (s : State) (rm : RM) (e : Exc),
    s.apxEnabled = true → rmFails s 64 rm e →
    exec (.rex2PushRm rm) s = takeException e) ∧
  (∀ (s : State) (rm : RM) (e : Exc),
    s.apxEnabled = true → rmReady s 64 rm → checkAccess s (stackAccess (s.rsp - 8) 8 .write true) = .error e →
    exec (.rex2PushRm rm) s = takeException e) ∧
  (∀ (s : State) (rm : RM) (e : Exc),
    s.apxEnabled = true → checkAccess s (stackAccess s.rsp 8 .read true) = .error e →
    exec (.rex2PopRm rm) s = takeException e) ∧
  (∀ (s : State) (rm : RM) (e : Exc),
    s.apxEnabled = true → accessOk s (stackAccess s.rsp 8 .read true) → dstFails (s.setGpr 4 (s.rsp + 8)) 64 (dstRM rm
      none) e →
    exec (.rex2PopRm rm) s = takeException e) ∧
  (∀ (s : State) (b : RegId) (e : Exc),
    s.apxEnabled = true → checkAccess s (stackAccess (s.rsp - 8) 8 .write true) = .error e →
    ∀ i ∈ ([.rex2PushR b, .rex2Pushp b] : List Instr), exec i s = takeException e) ∧
  (∀ (s : State) (b : RegId) (e : Exc),
    s.apxEnabled = true → checkAccess s (stackAccess s.rsp 8 .read true) = .error e →
    ∀ i ∈ ([.rex2PopR b, .rex2Popp b] : List Instr), exec i s = takeException e)

/-- With APX, the feature and the controls enabled: INVEPT, INVVPID, INVPCID, WRUSSD, WRUSSQ and ENQCMDS raise #GP(0) at
CPL other than 0, before memory is looked at; INVPCID also for a type above 3, ENQCMD and ENQCMDS for a destination
that is not 64-byte aligned, ENQCMD without a valid PASID, MOVDIR64B for a destination that is not 64-byte aligned,
WRSSD and WRSSQ for a canonical address that is not 4-byte aligned. With a readable operand, ENQCMD raises #GP(0)
when a bit of 30:0 of its command is 1, ENQCMDS when a bit of 30:20 is, INVPCID for a descriptor with a bit of 63:12
set, or of 11:0 with CR4.PCIDE = 0 and type 0 or 1, or for type 0 with a linear address that is not canonical, and
LDTILECFG for a configuration that is rejected (log entry 10). That the checks of privilege, type and alignment come
before memory is the order of R432, a choice of the spec (D12; the pseudocode of R352 reads the descriptor first),
log entry 6. (R432, R440, R445, R446, R449, R451, R452, R453, R460, R69, notes/assumptions/6.md,
notes/assumptions/10.md) -/
def Obligations.PrivilegeAndOperandTraps : Prop :=
  (∀ (s : State) (reg : RegId) (m : Mem),
    s.apxEnabled = true → s.params.features.vmx = true → s.ctrl.inVmxOperation = true → s.ctrl.eptSupported = true →
      s.ctrl.inveptSupported = true → s.cpl ≠ 0 →
    exec (.invept reg m) s = takeException .gp) ∧
  (∀ (s : State) (reg : RegId) (m : Mem),
    s.apxEnabled = true → s.params.features.vmx = true → s.ctrl.inVmxOperation = true → s.ctrl.vpidSupported = true →
      s.ctrl.invvpidSupported = true → s.cpl ≠ 0 →
    exec (.invvpid reg m) s = takeException .gp) ∧
  (∀ (s : State) (reg : RegId) (m : Mem),
    s.apxEnabled = true → s.params.features.invpcid = true → (s.cpl ≠ 0 ∨ 3 < (s.getGpr reg).toNat) →
    exec (.invpcid reg m) s = takeException .gp) ∧
  (∀ (s : State) (m : Mem) (reg : RegId),
    s.apxEnabled = true → s.params.features.cet = true → s.ctrl.cr4Cet = true → s.cpl ≠ 0 →
    exec (.wrussd m reg) s = takeException .gp) ∧
  (∀ (s : State) (m : Mem) (reg : RegId),
    s.apxEnabled = true → s.params.features.cet = true → s.ctrl.cr4Cet = true → s.cpl ≠ 0 →
    exec (.wrussq m reg) s = takeException .gp) ∧
  (∀ (s : State) (reg : RegId) (m : Mem),
    s.apxEnabled = true → s.params.features.enqcmd = true → (s.cpl ≠ 0 ∨ aligned64 (addrReg s m.a32 reg) = false) →
    exec (.enqcmds reg m) s = takeException .gp) ∧
  (∀ (s : State) (reg : RegId) (m : Mem),
    s.apxEnabled = true → s.params.features.enqcmd = true → (s.ctrl.pasidValid = false ∨ aligned64 (addrReg s m.a32
      reg) = false) →
    exec (.enqcmd reg m) s = takeException .gp) ∧
  (∀ (s : State) (reg : RegId) (m : Mem),
    s.apxEnabled = true → s.params.features.movdir = true → aligned64 (addrReg s m.a32 reg) = false →
    exec (.movdir64b reg m) s = takeException .gp) ∧
  (∀ (s : State) (m : Mem) (reg : RegId),
    s.apxEnabled = true → s.params.features.cet = true → s.ctrl.cr4Cet = true → wrssEnabled s = true → canonical
      s.params.laWidth (linAddr s m) = true → canonical s.params.laWidth (linAddr s m + 3) = true → (linAddr s
      m).toNat % 4 ≠ 0 →
    exec (.wrssd m reg) s = takeException .gp) ∧
  (∀ (s : State) (m : Mem) (reg : RegId),
    s.apxEnabled = true → s.params.features.cet = true → s.ctrl.cr4Cet = true → wrssEnabled s = true → canonical
      s.params.laWidth (linAddr s m) = true → canonical s.params.laWidth (linAddr s m + 7) = true → (linAddr s
      m).toNat % 4 ≠ 0 →
    exec (.wrssq m reg) s = takeException .gp) ∧
  (∀ (s : State) (reg : RegId) (m : Mem),
    s.apxEnabled = true → s.params.features.enqcmd = true → s.ctrl.pasidValid = true → aligned64 (addrReg s m.a32 reg)
      = true → accessOk s (memAccess s m 64 .read false 1) → (∃ i < 31, (memValue s 512 (linAddr s m)).getLsbD i =
      true) →
    exec (.enqcmd reg m) s = takeException .gp) ∧
  (∀ (s : State) (reg : RegId) (m : Mem),
    s.apxEnabled = true → s.params.features.enqcmd = true → s.cpl = 0 → aligned64 (addrReg s m.a32 reg) = true →
      accessOk s (memAccess s m 64 .read false 1) → (∃ i, 20 ≤ i ∧ i < 31 ∧ (memValue s 512 (linAddr s m)).getLsbD i =
      true) →
    exec (.enqcmds reg m) s = takeException .gp) ∧
  (∀ (s : State) (reg : RegId) (m : Mem),
    s.apxEnabled = true → s.params.features.invpcid = true → s.cpl = 0 → (s.getGpr reg).toNat ≤ 3 → accessOk s
      (memAccess s m 16 .read false 1) → ((∃ i, 12 ≤ i ∧ i < 64 ∧ (memValue s 128 (linAddr s m)).getLsbD i = true) ∨
      (s.ctrl.cr4Pcide = false ∧ (s.getGpr reg).toNat ≤ 1 ∧ ∃ i < 12, (memValue s 128 (linAddr s m)).getLsbD i = true)
      ∨ (s.getGpr reg = 0 ∧ canonical s.params.laWidth ((memValue s 128 (linAddr s m)).extractLsb' 64 64) = false)) →
    exec (.invpcid reg m) s = takeException .gp) ∧
  (∀ (s : State) (m : Mem),
    s.apxEnabled = true → s.params.features.amxTile = true → accessOk s (memAccess s m 64 .read false 1) → memValue s
      512 (linAddr s m) ∈ s.params.tileCfgRejected →
    exec (.ldtilecfg m) s = takeException .gp)

/-- With APX, the feature and the other controls enabled and accepted mask ids, every Key Locker, SHA and KMOV
instruction raises #NM when CR0.TS is 1, before memory is looked at. That #NM comes before the memory operand is the
order of R432, a choice of the spec (D12), log entry 6. (R432, R454, R455, R457, 60_exceptions.md section 3,
notes/assumptions/6.md) -/
def Obligations.DeviceNotAvailableTraps : Prop :=
  (∀ (s : State) (x : BitVec 4) (m : Mem),
    s.apxEnabled = true → s.params.features.keylocker = true → s.ctrl.cr0Em = false → s.ctrl.cr4Osfxsr = true →
      s.ctrl.cr4Kl = true → s.ctrl.cr0Ts = true →
    exec (.aesdec128kl x m) s = takeException .nm) ∧
  (∀ (s : State) (x : BitVec 4) (m : Mem),
    s.apxEnabled = true → s.params.features.keylocker = true → s.ctrl.cr0Em = false → s.ctrl.cr4Osfxsr = true →
      s.ctrl.cr4Kl = true → s.ctrl.cr0Ts = true →
    exec (.aesdec256kl x m) s = takeException .nm) ∧
  (∀ (s : State) (m : Mem),
    s.apxEnabled = true → s.params.features.keylockerWide = true → s.ctrl.cr0Em = false → s.ctrl.cr4Osfxsr = true →
      s.ctrl.cr4Kl = true → s.ctrl.cr0Ts = true →
    exec (.aesdecwide128kl m) s = takeException .nm) ∧
  (∀ (s : State) (m : Mem),
    s.apxEnabled = true → s.params.features.keylockerWide = true → s.ctrl.cr0Em = false → s.ctrl.cr4Osfxsr = true →
      s.ctrl.cr4Kl = true → s.ctrl.cr0Ts = true →
    exec (.aesdecwide256kl m) s = takeException .nm) ∧
  (∀ (s : State) (x : BitVec 4) (m : Mem),
    s.apxEnabled = true → s.params.features.keylocker = true → s.ctrl.cr0Em = false → s.ctrl.cr4Osfxsr = true →
      s.ctrl.cr4Kl = true → s.ctrl.cr0Ts = true →
    exec (.aesenc128kl x m) s = takeException .nm) ∧
  (∀ (s : State) (x : BitVec 4) (m : Mem),
    s.apxEnabled = true → s.params.features.keylocker = true → s.ctrl.cr0Em = false → s.ctrl.cr4Osfxsr = true →
      s.ctrl.cr4Kl = true → s.ctrl.cr0Ts = true →
    exec (.aesenc256kl x m) s = takeException .nm) ∧
  (∀ (s : State) (m : Mem),
    s.apxEnabled = true → s.params.features.keylockerWide = true → s.ctrl.cr0Em = false → s.ctrl.cr4Osfxsr = true →
      s.ctrl.cr4Kl = true → s.ctrl.cr0Ts = true →
    exec (.aesencwide128kl m) s = takeException .nm) ∧
  (∀ (s : State) (m : Mem),
    s.apxEnabled = true → s.params.features.keylockerWide = true → s.ctrl.cr0Em = false → s.ctrl.cr4Osfxsr = true →
      s.ctrl.cr4Kl = true → s.ctrl.cr0Ts = true →
    exec (.aesencwide256kl m) s = takeException .nm) ∧
  (∀ (s : State) (reg b : RegId),
    s.apxEnabled = true → s.params.features.keylocker = true → s.ctrl.cr0Em = false → s.ctrl.cr4Osfxsr = true →
      s.ctrl.cr4Kl = true → s.ctrl.cr0Ts = true →
    exec (.encodekey128 reg b) s = takeException .nm) ∧
  (∀ (s : State) (reg b : RegId),
    s.apxEnabled = true → s.params.features.keylocker = true → s.ctrl.cr0Em = false → s.ctrl.cr4Osfxsr = true →
      s.ctrl.cr4Kl = true → s.ctrl.cr0Ts = true →
    exec (.encodekey256 reg b) s = takeException .nm) ∧
  (∀ (s : State) (x : BitVec 4) (src : XRM),
    s.apxEnabled = true → s.params.features.sha = true → s.ctrl.cr0Em = false → s.ctrl.cr4Osfxsr = true → s.ctrl.cr0Ts
      = true →
    exec (.sha1msg1 x src) s = takeException .nm) ∧
  (∀ (s : State) (x : BitVec 4) (src : XRM),
    s.apxEnabled = true → s.params.features.sha = true → s.ctrl.cr0Em = false → s.ctrl.cr4Osfxsr = true → s.ctrl.cr0Ts
      = true →
    exec (.sha1msg2 x src) s = takeException .nm) ∧
  (∀ (s : State) (x : BitVec 4) (src : XRM),
    s.apxEnabled = true → s.params.features.sha = true → s.ctrl.cr0Em = false → s.ctrl.cr4Osfxsr = true → s.ctrl.cr0Ts
      = true →
    exec (.sha1nexte x src) s = takeException .nm) ∧
  (∀ (s : State) (x : BitVec 4) (src : XRM) (imm : BitVec 8),
    s.apxEnabled = true → s.params.features.sha = true → s.ctrl.cr0Em = false → s.ctrl.cr4Osfxsr = true → s.ctrl.cr0Ts
      = true →
    exec (.sha1rnds4 x src imm) s = takeException .nm) ∧
  (∀ (s : State) (x : BitVec 4) (src : XRM),
    s.apxEnabled = true → s.params.features.sha = true → s.ctrl.cr0Em = false → s.ctrl.cr4Osfxsr = true → s.ctrl.cr0Ts
      = true →
    exec (.sha256msg1 x src) s = takeException .nm) ∧
  (∀ (s : State) (x : BitVec 4) (src : XRM),
    s.apxEnabled = true → s.params.features.sha = true → s.ctrl.cr0Em = false → s.ctrl.cr4Osfxsr = true → s.ctrl.cr0Ts
      = true →
    exec (.sha256msg2 x src) s = takeException .nm) ∧
  (∀ (s : State) (x : BitVec 4) (src : XRM),
    s.apxEnabled = true → s.params.features.sha = true → s.ctrl.cr0Em = false → s.ctrl.cr4Osfxsr = true → s.ctrl.cr0Ts
      = true →
    exec (.sha256rnds2 x src) s = takeException .nm) ∧
  (∀ (s : State) (k : ShortId) (src : KRM),
    s.apxEnabled = true → kmovbOk s.params.features = true → shortIdOk s.params k = true → (∀ i, src = .k i →
      shortIdOk s.params i = true) → s.ctrl.cr0Ts = true →
    exec (.kmovbKKm k src) s = takeException .nm) ∧
  (∀ (s : State) (k : ShortId) (b : RegId),
    s.apxEnabled = true → kmovbOk s.params.features = true → shortIdOk s.params k = true → s.ctrl.cr0Ts = true →
    exec (.kmovbKR k b) s = takeException .nm) ∧
  (∀ (s : State) (reg : RegId) (k : ShortId),
    s.apxEnabled = true → kmovbOk s.params.features = true → shortIdOk s.params k = true → s.ctrl.cr0Ts = true →
    exec (.kmovbRK reg k) s = takeException .nm) ∧
  (∀ (s : State) (m : Mem) (k : ShortId),
    s.apxEnabled = true → kmovbOk s.params.features = true → shortIdOk s.params k = true → s.ctrl.cr0Ts = true →
    exec (.kmovbMK m k) s = takeException .nm) ∧
  (∀ (s : State) (reg : RegId) (k : ShortId),
    s.apxEnabled = true → kmovdqOk s.params.features = true → shortIdOk s.params k = true → s.ctrl.cr0Ts = true →
    exec (.kmovdRK reg k) s = takeException .nm) ∧
  (∀ (s : State) (k : ShortId) (src : KRM),
    s.apxEnabled = true → kmovdqOk s.params.features = true → shortIdOk s.params k = true → (∀ i, src = .k i →
      shortIdOk s.params i = true) → s.ctrl.cr0Ts = true →
    exec (.kmovdKKm k src) s = takeException .nm) ∧
  (∀ (s : State) (k : ShortId) (b : RegId),
    s.apxEnabled = true → kmovdqOk s.params.features = true → shortIdOk s.params k = true → s.ctrl.cr0Ts = true →
    exec (.kmovdKR k b) s = takeException .nm) ∧
  (∀ (s : State) (m : Mem) (k : ShortId),
    s.apxEnabled = true → kmovdqOk s.params.features = true → shortIdOk s.params k = true → s.ctrl.cr0Ts = true →
    exec (.kmovdMK m k) s = takeException .nm) ∧
  (∀ (s : State) (k : ShortId) (src : KRM),
    s.apxEnabled = true → kmovdqOk s.params.features = true → shortIdOk s.params k = true → (∀ i, src = .k i →
      shortIdOk s.params i = true) → s.ctrl.cr0Ts = true →
    exec (.kmovqKKm k src) s = takeException .nm) ∧
  (∀ (s : State) (k : ShortId) (b : RegId),
    s.apxEnabled = true → kmovdqOk s.params.features = true → shortIdOk s.params k = true → s.ctrl.cr0Ts = true →
    exec (.kmovqKR k b) s = takeException .nm) ∧
  (∀ (s : State) (reg : RegId) (k : ShortId),
    s.apxEnabled = true → kmovdqOk s.params.features = true → shortIdOk s.params k = true → s.ctrl.cr0Ts = true →
    exec (.kmovqRK reg k) s = takeException .nm) ∧
  (∀ (s : State) (m : Mem) (k : ShortId),
    s.apxEnabled = true → kmovdqOk s.params.features = true → shortIdOk s.params k = true → s.ctrl.cr0Ts = true →
    exec (.kmovqMK m k) s = takeException .nm) ∧
  (∀ (s : State) (k : ShortId) (src : KRM),
    s.apxEnabled = true → kmovwOk s.params.features = true → shortIdOk s.params k = true → (∀ i, src = .k i →
      shortIdOk s.params i = true) → s.ctrl.cr0Ts = true →
    exec (.kmovwKKm k src) s = takeException .nm) ∧
  (∀ (s : State) (k : ShortId) (b : RegId),
    s.apxEnabled = true → kmovwOk s.params.features = true → shortIdOk s.params k = true → s.ctrl.cr0Ts = true →
    exec (.kmovwKR k b) s = takeException .nm) ∧
  (∀ (s : State) (reg : RegId) (k : ShortId),
    s.apxEnabled = true → kmovwOk s.params.features = true → shortIdOk s.params k = true → s.ctrl.cr0Ts = true →
    exec (.kmovwRK reg k) s = takeException .nm) ∧
  (∀ (s : State) (m : Mem) (k : ShortId),
    s.apxEnabled = true → kmovwOk s.params.features = true → shortIdOk s.params k = true → s.ctrl.cr0Ts = true →
    exec (.kmovwMK m k) s = takeException .nm)

/-- With APX enabled, each instruction with a feature flag of its own raises #UD when that flag is 0, whatever its
operands: ADX, BMI1, BMI2, LZCNT, MOVBE, MOVDIR, ENQCMD, INVPCID, VMX, KEYLOCKER and its wide form, SHA, CET,
CMPCCXADD, AMX_TILE, and for KMOV both its AVX512 flag and AVX10.1. So do INVEPT and INVVPID outside VMX operation
or without EPT, VPID or the instruction; Key Locker with CR0.EM = 1, CR4.OSFXSR = 0 or CR4.KL = 0; SHA with CR0.EM =
1 or CR4.OSFXSR = 0; WRSS and WRUSS with CR4.CET = 0, and WRSS with the shadow-stack enables of its privilege level
off; the tile loads and stores without a configuration or with a tile that is not valid in it; KMOV and the tile
loads and stores with a high register id where MASK_ID_HIGH_BIT_UD is 1. CPUID shows every flag at the place the
spec gives it. Whether a high register id raises #UD is open in the spec (R298, D31): that the parameter is read for
every mask id and every tile id alike is the model's reading, log entry 34; what a valid tile is in a configuration
is log entry 10. Section 3 holds the classes of KMOV, SHA and the integer instructions, R455, R457 and R450. (R9,
R10, R298, R438, R440, R441, R442, R445, R454, 60_exceptions.md section 3, notes/assumptions/10.md,
notes/assumptions/34.md) -/
def Obligations.MissingFeatureOrControlIsUd : Prop :=
  (∀ (s : State) (sz : YSize) (reg : RegId) (rm : RM) (ndd : Option RegId),
    s.apxEnabled = true → (s.params.features.adx = false) →
    ∀ i ∈ ([.adcx sz reg rm ndd, .adox sz reg rm ndd] : List Instr), exec i s = takeException .ud) ∧
  (∀ (s : State) (x : BitVec 4) (m : Mem),
    s.apxEnabled = true → (s.params.features.keylocker = false ∨ s.ctrl.cr4Osfxsr = false ∨ s.ctrl.cr4Kl = false ∨
      s.ctrl.cr0Em = true) →
    ∀ i ∈ ([.aesdec128kl x m, .aesdec256kl x m, .aesenc128kl x m, .aesenc256kl x m] : List Instr), exec i s =
      takeException .ud) ∧
  (∀ (s : State) (m : Mem),
    s.apxEnabled = true → (s.params.features.keylocker = false ∨ s.params.features.aeskle = false ∨
      s.params.features.wideKl = false ∨ s.ctrl.cr4Osfxsr = false ∨ s.ctrl.cr4Kl = false ∨ s.ctrl.cr0Em = true) →
    ∀ i ∈ ([.aesdecwide128kl m, .aesdecwide256kl m, .aesencwide128kl m, .aesencwide256kl m] : List Instr), exec i s =
      takeException .ud) ∧
  (∀ (s : State) (sz : YSize) (reg v : RegId) (rm : RM) (nf : Bool),
    s.apxEnabled = true → (s.params.features.bmi1 = false) →
    exec (.andn sz reg v rm nf) s = takeException .ud) ∧
  (∀ (s : State) (sz : YSize) (reg : RegId) (rm : RM) (v : RegId) (nf : Bool),
    s.apxEnabled = true → (s.params.features.bmi1 = false) →
    exec (.bextr sz reg rm v nf) s = takeException .ud) ∧
  (∀ (s : State) (sz : YSize) (v : RegId) (rm : RM) (nf : Bool),
    s.apxEnabled = true → (s.params.features.bmi1 = false) →
    ∀ i ∈ ([.blsi sz v rm nf, .blsmsk sz v rm nf, .blsr sz v rm nf] : List Instr), exec i s = takeException .ud) ∧
  (∀ (s : State) (sz : YSize) (reg : RegId) (rm : RM) (v : RegId) (nf : Bool),
    s.apxEnabled = true → (s.params.features.bmi2 = false) →
    exec (.bzhi sz reg rm v nf) s = takeException .ud) ∧
  (∀ (s : State) (cc : Cond) (sz : YSize) (m : Mem) (reg v : RegId),
    s.apxEnabled = true → (s.params.features.cmpccxadd = false) →
    exec (.cmpccxadd cc sz m reg v) s = takeException .ud) ∧
  (∀ (s : State) (reg b : RegId),
    s.apxEnabled = true → (s.params.features.keylocker = false ∨ s.ctrl.cr4Osfxsr = false ∨ s.ctrl.cr4Kl = false ∨
      s.ctrl.cr0Em = true) →
    ∀ i ∈ ([.encodekey128 reg b, .encodekey256 reg b] : List Instr), exec i s = takeException .ud) ∧
  (∀ (s : State) (reg : RegId) (m : Mem),
    s.apxEnabled = true → (s.params.features.enqcmd = false) →
    ∀ i ∈ ([.enqcmd reg m, .enqcmds reg m] : List Instr), exec i s = takeException .ud) ∧
  (∀ (s : State) (reg : RegId) (m : Mem),
    s.apxEnabled = true → (s.params.features.vmx = false ∨ s.ctrl.inVmxOperation = false ∨ s.ctrl.eptSupported = false
      ∨ s.ctrl.inveptSupported = false) →
    exec (.invept reg m) s = takeException .ud) ∧
  (∀ (s : State) (reg : RegId) (m : Mem),
    s.apxEnabled = true → (s.params.features.invpcid = false) →
    exec (.invpcid reg m) s = takeException .ud) ∧
  (∀ (s : State) (reg : RegId) (m : Mem),
    s.apxEnabled = true → (s.params.features.vmx = false ∨ s.ctrl.inVmxOperation = false ∨ s.ctrl.vpidSupported =
      false ∨ s.ctrl.invvpidSupported = false) →
    exec (.invvpid reg m) s = takeException .ud) ∧
  (∀ (s : State) (k : ShortId) (src : KRM),
    s.apxEnabled = true → ((s.params.features.avx512dq = false ∧ (s.params.features.avx10 = false ∨
      s.params.features.avx10Version = 0)) ∨ (s.params.maskIdHighBitUd = true ∧ k.hi = true) ∨
      (s.params.maskIdHighBitUd = true ∧ ∃ i, src = .k i ∧ i.hi = true)) →
    exec (.kmovbKKm k src) s = takeException .ud) ∧
  (∀ (s : State) (k : ShortId) (b : RegId),
    s.apxEnabled = true → ((s.params.features.avx512dq = false ∧ (s.params.features.avx10 = false ∨
      s.params.features.avx10Version = 0)) ∨ (s.params.maskIdHighBitUd = true ∧ k.hi = true)) →
    exec (.kmovbKR k b) s = takeException .ud) ∧
  (∀ (s : State) (reg : RegId) (k : ShortId),
    s.apxEnabled = true → ((s.params.features.avx512dq = false ∧ (s.params.features.avx10 = false ∨
      s.params.features.avx10Version = 0)) ∨ (s.params.maskIdHighBitUd = true ∧ k.hi = true)) →
    exec (.kmovbRK reg k) s = takeException .ud) ∧
  (∀ (s : State) (m : Mem) (k : ShortId),
    s.apxEnabled = true → ((s.params.features.avx512dq = false ∧ (s.params.features.avx10 = false ∨
      s.params.features.avx10Version = 0)) ∨ (s.params.maskIdHighBitUd = true ∧ k.hi = true)) →
    exec (.kmovbMK m k) s = takeException .ud) ∧
  (∀ (s : State) (reg : RegId) (k : ShortId),
    s.apxEnabled = true → ((s.params.features.avx512bw = false ∧ (s.params.features.avx10 = false ∨
      s.params.features.avx10Version = 0)) ∨ (s.params.maskIdHighBitUd = true ∧ k.hi = true)) →
    ∀ i ∈ ([.kmovdRK reg k, .kmovqRK reg k] : List Instr), exec i s = takeException .ud) ∧
  (∀ (s : State) (k : ShortId) (src : KRM),
    s.apxEnabled = true → ((s.params.features.avx512bw = false ∧ (s.params.features.avx10 = false ∨
      s.params.features.avx10Version = 0)) ∨ (s.params.maskIdHighBitUd = true ∧ k.hi = true) ∨
      (s.params.maskIdHighBitUd = true ∧ ∃ i, src = .k i ∧ i.hi = true)) →
    ∀ i ∈ ([.kmovdKKm k src, .kmovqKKm k src] : List Instr), exec i s = takeException .ud) ∧
  (∀ (s : State) (k : ShortId) (b : RegId),
    s.apxEnabled = true → ((s.params.features.avx512bw = false ∧ (s.params.features.avx10 = false ∨
      s.params.features.avx10Version = 0)) ∨ (s.params.maskIdHighBitUd = true ∧ k.hi = true)) →
    ∀ i ∈ ([.kmovdKR k b, .kmovqKR k b] : List Instr), exec i s = takeException .ud) ∧
  (∀ (s : State) (m : Mem) (k : ShortId),
    s.apxEnabled = true → ((s.params.features.avx512bw = false ∧ (s.params.features.avx10 = false ∨
      s.params.features.avx10Version = 0)) ∨ (s.params.maskIdHighBitUd = true ∧ k.hi = true)) →
    ∀ i ∈ ([.kmovdMK m k, .kmovqMK m k] : List Instr), exec i s = takeException .ud) ∧
  (∀ (s : State) (k : ShortId) (src : KRM),
    s.apxEnabled = true → ((s.params.features.avx512f = false ∧ (s.params.features.avx10 = false ∨
      s.params.features.avx10Version = 0)) ∨ (s.params.maskIdHighBitUd = true ∧ k.hi = true) ∨
      (s.params.maskIdHighBitUd = true ∧ ∃ i, src = .k i ∧ i.hi = true)) →
    exec (.kmovwKKm k src) s = takeException .ud) ∧
  (∀ (s : State) (k : ShortId) (b : RegId),
    s.apxEnabled = true → ((s.params.features.avx512f = false ∧ (s.params.features.avx10 = false ∨
      s.params.features.avx10Version = 0)) ∨ (s.params.maskIdHighBitUd = true ∧ k.hi = true)) →
    exec (.kmovwKR k b) s = takeException .ud) ∧
  (∀ (s : State) (reg : RegId) (k : ShortId),
    s.apxEnabled = true → ((s.params.features.avx512f = false ∧ (s.params.features.avx10 = false ∨
      s.params.features.avx10Version = 0)) ∨ (s.params.maskIdHighBitUd = true ∧ k.hi = true)) →
    exec (.kmovwRK reg k) s = takeException .ud) ∧
  (∀ (s : State) (m : Mem) (k : ShortId),
    s.apxEnabled = true → ((s.params.features.avx512f = false ∧ (s.params.features.avx10 = false ∨
      s.params.features.avx10Version = 0)) ∨ (s.params.maskIdHighBitUd = true ∧ k.hi = true)) →
    exec (.kmovwMK m k) s = takeException .ud) ∧
  (∀ (s : State) (m : Mem),
    s.apxEnabled = true → (s.params.features.amxTile = false) →
    ∀ i ∈ ([.ldtilecfg m, .sttilecfg m] : List Instr), exec i s = takeException .ud) ∧
  (∀ (s : State) (sz : OSize) (reg : RegId) (rm : RM) (nf : Bool),
    s.apxEnabled = true → (s.params.features.lzcnt = false) →
    exec (.lzcnt sz reg rm nf) s = takeException .ud) ∧
  (∀ (s : State) (sz : OSize) (reg : RegId) (rm : RM),
    s.apxEnabled = true → (s.params.features.movbe = false) →
    exec (.movbeRRm sz reg rm) s = takeException .ud) ∧
  (∀ (s : State) (sz : OSize) (rm : RM) (reg : RegId),
    s.apxEnabled = true → (s.params.features.movbe = false) →
    exec (.movbeRmR sz rm reg) s = takeException .ud) ∧
  (∀ (s : State) (reg : RegId) (m : Mem),
    s.apxEnabled = true → (s.params.features.movdir = false) →
    exec (.movdir64b reg m) s = takeException .ud) ∧
  (∀ (s : State) (sz : YSize) (m : Mem) (reg : RegId),
    s.apxEnabled = true → (s.params.features.movdir = false) →
    exec (.movdiri sz m reg) s = takeException .ud) ∧
  (∀ (s : State) (sz : YSize) (reg v : RegId) (rm : RM),
    s.apxEnabled = true → (s.params.features.bmi2 = false) →
    ∀ i ∈ ([.mulx sz reg v rm, .pdep sz reg v rm, .pext sz reg v rm] : List Instr), exec i s = takeException .ud) ∧
  (∀ (s : State) (sz : YSize) (reg : RegId) (rm : RM) (imm : BitVec 8),
    s.apxEnabled = true → (s.params.features.bmi2 = false) →
    exec (.rorx sz reg rm imm) s = takeException .ud) ∧
  (∀ (s : State) (sz : YSize) (reg : RegId) (rm : RM) (v : RegId),
    s.apxEnabled = true → (s.params.features.bmi2 = false) →
    ∀ i ∈ ([.sarx sz reg rm v, .shlx sz reg rm v, .shrx sz reg rm v] : List Instr), exec i s = takeException .ud) ∧
  (∀ (s : State) (x : BitVec 4) (src : XRM),
    s.apxEnabled = true → (s.params.features.sha = false ∨ s.ctrl.cr4Osfxsr = false ∨ s.ctrl.cr0Em = true) →
    ∀ i ∈ ([.sha1msg1 x src, .sha1msg2 x src, .sha1nexte x src, .sha256msg1 x src, .sha256msg2 x src, .sha256rnds2 x
      src] : List Instr), exec i s = takeException .ud) ∧
  (∀ (s : State) (x : BitVec 4) (src : XRM) (imm : BitVec 8),
    s.apxEnabled = true → (s.params.features.sha = false ∨ s.ctrl.cr4Osfxsr = false ∨ s.ctrl.cr0Em = true) →
    exec (.sha1rnds4 x src imm) s = takeException .ud) ∧
  (∀ (s : State) (t : ShortId) (m : Mem),
    s.apxEnabled = true → (s.params.features.amxTile = false ∨ s.tile.configured = false ∨ (s.tileShape t.id).valid =
      false ∨ (s.params.maskIdHighBitUd = true ∧ t.hi = true)) →
    ∀ i ∈ ([.tileloadd t m, .tileloaddt1 t m] : List Instr), exec i s = takeException .ud) ∧
  (∀ (s : State) (m : Mem) (t : ShortId),
    s.apxEnabled = true → (s.params.features.amxTile = false ∨ s.tile.configured = false ∨ (s.tileShape t.id).valid =
      false ∨ (s.params.maskIdHighBitUd = true ∧ t.hi = true)) →
    exec (.tilestored m t) s = takeException .ud) ∧
  (∀ (s : State) (sz : OSize) (reg : RegId) (rm : RM) (nf : Bool),
    s.apxEnabled = true → (s.params.features.bmi1 = false) →
    exec (.tzcnt sz reg rm nf) s = takeException .ud) ∧
  (∀ (s : State) (m : Mem) (reg : RegId),
    s.apxEnabled = true → (s.params.features.cet = false ∨ s.ctrl.cr4Cet = false ∨ (s.cpl = 3 ∧ (s.ctrl.uCetShStkEn =
      false ∨ s.ctrl.uCetWrShstkEn = false)) ∨ (s.cpl ≠ 3 ∧ (s.ctrl.sCetShStkEn = false ∨ s.ctrl.sCetWrShstkEn =
      false))) →
    ∀ i ∈ ([.wrssd m reg, .wrssq m reg] : List Instr), exec i s = takeException .ud) ∧
  (∀ (s : State) (m : Mem) (reg : RegId),
    s.apxEnabled = true → (s.params.features.cet = false ∨ s.ctrl.cr4Cet = false) →
    ∀ i ∈ ([.wrussd m reg, .wrussq m reg] : List Instr), exec i s = takeException .ud) ∧
  (∀ p : Params, cpuidFlag p ⟨7, 1, .edx, 21⟩ = some p.features.apxF ∧ cpuidFlag p ⟨7, 0, .ebx, 19⟩ = some
    p.features.adx ∧ cpuidFlag p ⟨7, 0, .edx, 24⟩ = some p.features.amxTile ∧ cpuidFlag p ⟨7, 1, .edx, 19⟩ = some
    p.features.avx10 ∧ cpuidFlag p ⟨7, 0, .ebx, 30⟩ = some p.features.avx512bw ∧ cpuidFlag p ⟨7, 0, .ebx, 17⟩ = some
    p.features.avx512dq ∧ cpuidFlag p ⟨7, 0, .ebx, 16⟩ = some p.features.avx512f ∧ cpuidFlag p ⟨7, 0, .ebx, 3⟩ = some
    p.features.bmi1 ∧ cpuidFlag p ⟨7, 0, .ebx, 8⟩ = some p.features.bmi2 ∧ cpuidFlag p ⟨7, 0, .ecx, 7⟩ = some
    p.features.cet ∧ cpuidFlag p ⟨7, 1, .eax, 7⟩ = some p.features.cmpccxadd ∧ cpuidFlag p ⟨7, 0, .ecx, 29⟩ = some
    p.features.enqcmd ∧ cpuidFlag p ⟨7, 0, .ebx, 10⟩ = some p.features.invpcid ∧ cpuidFlag p ⟨7, 0, .ecx, 23⟩ = some
    p.features.keylocker ∧ cpuidFlag p ⟨0x19, 0, .ebx, 0⟩ = some p.features.aeskle ∧ cpuidFlag p ⟨0x19, 0, .ebx, 2⟩ =
    some p.features.wideKl ∧ cpuidFlag p ⟨0x80000001, 0, .ecx, 5⟩ = some p.features.lzcnt ∧ cpuidFlag p ⟨1, 0, .ecx,
    22⟩ = some p.features.movbe ∧ cpuidFlag p ⟨7, 0, .ecx, 28⟩ = some p.features.movdir ∧ cpuidFlag p ⟨7, 0, .ebx, 29⟩
    = some p.features.sha ∧ cpuidFlag p ⟨1, 0, .ecx, 5⟩ = some p.features.vmx ∧ (p.features.avx10_1 = true ↔
    p.features.avx10 = true ∧ 1 ≤ (cpuidAvx10Version p).toNat) ∧ (p.features.keylockerWide = true ↔
    p.features.keylocker = true ∧ p.features.aeskle = true ∧ p.features.wideKl = true))

/-- For every EVEX instruction of map 4, and of the promoted opcodes of maps 1 to 3, with any segment overrides and
address-size prefixes before it and all its bytes there, decoding gives #UD: (1) for a bit of P2 that its format
shows as 0, L among them, and in map 4 and its CCMP format as well as in maps 1 to 3; (2) for V other than logical 0
where map 4 has no V operand, that is with ND = 0, and where an instruction has no V operand at all; (3) for ND = 1
where it is unsupported; (4) for NF = 1 where it is unsupported; (5) for a pp, opcode or digit that is no row of map
4, and a pp other than the page's in maps 1 to 3; (6) for a Mod other than the page's, and for XMM16 to XMM31. That
unassigned pp, opcodes and digits of map 4 raise #UD is the choice of the spec (R163, D25), which log entry 35 takes
over; the pp of maps 1 to 3 is 93_implementation_defined.md section 1.1, the prefixes and L are R118 and R121.
(R120, R129, R132, R134, R136, R139, R146, R147, R163, R170, 93_implementation_defined.md section 1.1,
notes/assumptions/35.md) -/
def Obligations.ReservedEvexEncodingsAreUd : Prop :=
  ∀ (pre : List Byte) (p0 p1 p2 op modrm : Byte) (bs : List Byte),
    (∀ b ∈ pre, b.toNat ∈ [0x26, 0x2E, 0x36, 0x3E, 0x64, 0x65, 0x67]) → 9 ≤ bs.length →
    ((p0.toNat % 8 = 4 →
      (ccFormat op modrm = false → (p2.toNat / 32 ≠ 0 ∨ p2.toNat % 4 ≠ 0) →
        decode (evexBytes pre p0 p1 p2 op modrm bs) = .ud) ∧
      (ccFormat op modrm = true → (p2.toNat / 32 ≠ 0 ∨ p2.getLsbD 4 = true) →
        decode (evexBytes pre p0 p1 p2 op modrm bs) = .ud) ∧
      (ccFormat op modrm = false → p2.getLsbD 4 = false → vIsZero p1 p2 = false →
        decode (evexBytes pre p0 p1 p2 op modrm bs) = .ud) ∧
      ((op.toNat ∈ [0x60, 0x61, 0x65, 0x88, 0xD4, 0xD8, 0xD9, 0xDA, 0xDB, 0xDC, 0xDD, 0xDE, 0xDF, 0xF0, 0xF1, 0xF2, 0xF4,
            0xF5, 0xF8, 0xF9] ∨
          (op.toNat = 0x66 ∧ p1.toNat % 4 = 0) ∨ (op.toNat ∈ [0xF6, 0xF7] ∧ 4 ≤ modrm.toNat / 8 % 8)) →
        (p2.getLsbD 4 = true ∨ vIsZero p1 p2 = false) → decode (evexBytes pre p0 p1 p2 op modrm bs) = .ud) ∧
      ((op.toNat ∈ [0x69, 0x6B] ∨ (op.toNat / 16 = 4 ∧ p1.toNat % 4 = 3)) → vIsZero p1 p2 = false →
        decode (evexBytes pre p0 p1 p2 op modrm bs) = .ud) ∧
      ((op.toNat ∈ [0x10, 0x11, 0x12, 0x13, 0x18, 0x19, 0x1A, 0x1B, 0x60, 0x61, 0x65, 0x66, 0x8F, 0xD4, 0xD8, 0xD9, 0xDA,
            0xDB, 0xDC, 0xDD, 0xDE, 0xDF, 0xF0, 0xF1, 0xF2, 0xF8, 0xF9] ∨
          (op.toNat ∈ [0x80, 0x81, 0x83, 0xC0, 0xC1, 0xD0, 0xD1, 0xD2, 0xD3] ∧ modrm.toNat / 8 % 8 ∈ [2, 3]) ∨
          (op.toNat ∈ [0xF6, 0xF7] ∧ modrm.toNat / 8 % 8 = 2) ∨ (op.toNat = 0xFF ∧ modrm.toNat / 8 % 8 = 6) ∨
          (op.toNat / 16 = 4 ∧ p1.toNat % 4 = 3)) →
        p2.getLsbD 2 = true → decode (evexBytes pre p0 p1 p2 op modrm bs) = .ud) ∧
      (p1.toNat % 4 = 0 →
        op.toNat ∉
          [0x00, 0x01, 0x02, 0x03, 0x08, 0x09, 0x0A, 0x0B, 0x10, 0x11, 0x12, 0x13, 0x18, 0x19, 0x1A, 0x1B,
          0x20, 0x21, 0x22, 0x23, 0x24, 0x28, 0x29, 0x2A, 0x2B, 0x2C, 0x30, 0x31, 0x32, 0x33, 0x38, 0x39,
          0x3A, 0x3B, 0x40, 0x41, 0x42, 0x43, 0x44, 0x45, 0x46, 0x47, 0x48, 0x49, 0x4A, 0x4B, 0x4C, 0x4D,
          0x4E, 0x4F, 0x60, 0x61, 0x66, 0x69, 0x6B, 0x80, 0x81, 0x83, 0x84, 0x85, 0x88, 0x8F, 0xA5, 0xAD,
          0xAF, 0xC0, 0xC1, 0xD0, 0xD1, 0xD2, 0xD3, 0xD4, 0xD8, 0xD9, 0xDA, 0xDB, 0xDC, 0xDD, 0xF0, 0xF1,
          0xF4, 0xF5, 0xF6, 0xF7, 0xF9, 0xFE, 0xFF] →
        decode (evexBytes pre p0 p1 p2 op modrm bs) = .ud) ∧
      (p1.toNat % 4 = 1 →
        op.toNat ∉
          [0x01, 0x03, 0x09, 0x0B, 0x11, 0x13, 0x19, 0x1B, 0x21, 0x23, 0x24, 0x29, 0x2B, 0x2C, 0x31, 0x33,
          0x39, 0x3B, 0x40, 0x41, 0x42, 0x43, 0x44, 0x45, 0x46, 0x47, 0x48, 0x49, 0x4A, 0x4B, 0x4C, 0x4D,
          0x4E, 0x4F, 0x60, 0x61, 0x65, 0x66, 0x69, 0x6B, 0x81, 0x83, 0x85, 0x88, 0xA5, 0xAD, 0xAF, 0xC1,
          0xD1, 0xD3, 0xF1, 0xF4, 0xF5, 0xF7, 0xF8, 0xFF] →
        decode (evexBytes pre p0 p1 p2 op modrm bs) = .ud) ∧
      (p1.toNat % 4 = 2 →
        op.toNat ∉
          [0x66, 0xD8, 0xDA, 0xDB, 0xDC, 0xDD, 0xDE, 0xDF, 0xF0, 0xF1, 0xF2, 0xF8] →
        decode (evexBytes pre p0 p1 p2 op modrm bs) = .ud) ∧
      (p1.toNat % 4 = 3 →
        op.toNat ∉
          [0x40, 0x41, 0x42, 0x43, 0x44, 0x45, 0x46, 0x47, 0x48, 0x49, 0x4A, 0x4B, 0x4C, 0x4D, 0x4E, 0x4F,
          0xF8] →
        decode (evexBytes pre p0 p1 p2 op modrm bs) = .ud) ∧
      (((op.toNat = 0x8F ∧ modrm.toNat / 8 % 8 ≠ 0) ∨ (op.toNat = 0xFE ∧ 2 ≤ modrm.toNat / 8 % 8) ∨
          (op.toNat = 0xFF ∧ modrm.toNat / 8 % 8 ∈ [2, 3, 4, 5, 7]) ∨
          (op.toNat = 0xFF ∧ modrm.toNat / 8 % 8 = 6 ∧ p1.toNat % 4 = 1) ∨
          (op.toNat = 0xD8 ∧ p1.toNat % 4 = 2 ∧ 4 ≤ modrm.toNat / 8 % 8)) →
        decode (evexBytes pre p0 p1 p2 op modrm bs) = .ud) ∧
      (modrm.toNat / 64 = 3 →
        (op.toNat ∈ [0x65, 0xF2, 0xF8, 0xF9] ∨ (op.toNat = 0x66 ∧ p1.toNat % 4 = 0) ∨
          (op.toNat ∈ [0xD8, 0xDC, 0xDD, 0xDE, 0xDF, 0xF0, 0xF1] ∧ p1.toNat % 4 = 2)) →
        decode (evexBytes pre p0 p1 p2 op modrm bs) = .ud) ∧
      (modrm.toNat / 64 ≠ 3 →
        (op.toNat = 0x8F ∨ (op.toNat = 0xFF ∧ modrm.toNat / 8 % 8 = 6) ∨ (op.toNat ∈ [0xDA, 0xDB] ∧ p1.toNat % 4 = 2)) →
        decode (evexBytes pre p0 p1 p2 op modrm bs) = .ud) ∧
      ((op.toNat ∈ [0xD4, 0xD8, 0xD9, 0xDA, 0xDB, 0xDC, 0xDD] ∧ p1.toNat % 4 = 0 ∨
          op.toNat ∈ [0xDC, 0xDD, 0xDE, 0xDF] ∧ p1.toNat % 4 = 2) →
        (p0.getLsbD 4 = false ∨ (modrm.toNat / 64 = 3 ∧ p0.getLsbD 3 = true)) →
        decode (evexBytes pre p0 p1 p2 op modrm bs) = .ud)) ∧
    (promotedOpcode (p0.toNat % 8) op.toNat = true →
      ((p2.toNat / 32 ≠ 0 ∨ p2.toNat % 4 ≠ 0 ∨ p2.getLsbD 4 = true) →
        decode (evexBytes pre p0 p1 p2 op modrm bs) = .ud) ∧
      ((op.toNat ∈ [0x90, 0x91, 0x92, 0x93, 0x4B] ∨ (op.toNat = 0x49 ∧ modrm.toNat / 8 % 8 = 0) ∨
          (p0.toNat % 8 = 3 ∧ op.toNat = 0xF0)) →
        (vIsZero p1 p2 = false ∨ p2.getLsbD 2 = true) → decode (evexBytes pre p0 p1 p2 op modrm bs) = .ud) ∧
      ((op.toNat / 16 = 14 ∨ (p0.toNat % 8 = 2 ∧ (op.toNat = 0xF6 ∨ (op.toNat ∈ [0xF5, 0xF7] ∧ p1.toNat % 4 ≠ 0)))) →
        p2.getLsbD 2 = true → decode (evexBytes pre p0 p1 p2 op modrm bs) = .ud) ∧
      ((p0.toNat % 8 = 1 ∧ (2 = p1.toNat % 4 ∨ (op.toNat ∈ [0x90, 0x91] ∧ 2 ≤ p1.toNat % 4)) ∨
          p0.toNat % 8 = 2 ∧
            ((op.toNat = 0x49 ∧ 2 ≤ p1.toNat % 4) ∨ (op.toNat = 0x4B ∧ p1.toNat % 4 = 0) ∨
              (op.toNat / 16 = 14 ∧ p1.toNat % 4 ≠ 1) ∨ (op.toNat ∈ [0xF2, 0xF3] ∧ p1.toNat % 4 ≠ 0) ∨
              (op.toNat = 0xF5 ∧ p1.toNat % 4 = 1) ∨ (op.toNat = 0xF6 ∧ p1.toNat % 4 ≠ 3)) ∨
          p0.toNat % 8 = 3 ∧ p1.toNat % 4 ≠ 3) →
        decode (evexBytes pre p0 p1 p2 op modrm bs) = .ud) ∧
      (modrm.toNat / 64 = 3 →
        (op.toNat ∈ [0x91, 0x4B] ∨ op.toNat / 16 = 14 ∨ (op.toNat = 0x49 ∧ modrm.toNat / 8 % 8 = 0)) →
        decode (evexBytes pre p0 p1 p2 op modrm bs) = .ud) ∧
      (modrm.toNat / 64 ≠ 3 → (op.toNat ∈ [0x92, 0x93] ∨ (op.toNat = 0x4B ∧ modrm.toNat % 8 ≠ 4)) →
        decode (evexBytes pre p0 p1 p2 op modrm bs) = .ud)))
end

