-- ==== Sys2Proof/Laws/Fetch.lean ====
section
/-! SUPPORT. What refusing an encoding can do, and what restoring the APX component leaves alone, said once. -/
namespace Sys2Proof.Machine

/-- Refusing an encoding raises #UD for an APX instruction while APX is off, and for an absent register; else it stops. -/
theorem refuse_eq (s : State) (r : DecodeRefusal) :
    refuse s r =
      if (refusalUsesApx r = true ∧ s.apxEnabled = false) ∨ namesAbsentRegister s.params r = true
      then takeException .ud else .refused (refusalOf r) := by
  unfold refuse
  cases refusalUsesApx r <;> cases s.apxEnabled <;> cases namesAbsentRegister s.params r <;> rfl

theorem refuse_of_enabled {s : State} {r : DecodeRefusal} (h : s.apxEnabled = true)
    (hr : namesAbsentRegister s.params r = false) : refuse s r = .refused (refusalOf r) := by
  simp [refuse_eq, h, hr]

@[simp] theorem initApx_xinuse19 (s : State) : s.initApx.xinuse19 = false := by
  simp only [State.initApx]
@[simp] theorem initApx_flags (s : State) : s.initApx.flags = s.flags := by
  simp only [State.initApx]
@[simp] theorem initApx_mem (s : State) : s.initApx.mem = s.mem := by
  simp only [State.initApx]
@[simp] theorem initApx_rip (s : State) : s.initApx.rip = s.rip := by
  simp only [State.initApx]
@[simp] theorem initApx_k (s : State) : s.initApx.k = s.k := by
  simp only [State.initApx]
@[simp] theorem initApx_xmm (s : State) : s.initApx.xmm = s.xmm := by
  simp only [State.initApx]
@[simp] theorem initApx_tile (s : State) : s.initApx.tile = s.tile := by
  simp only [State.initApx]
@[simp] theorem initApx_ctrl (s : State) : s.initApx.ctrl = s.ctrl := by
  simp only [State.initApx]
@[simp] theorem initApx_params (s : State) : s.initApx.params = s.params := by
  simp only [State.initApx]

theorem xsaveApx_unrequested {s : State} {rfbm : BitVec 64} {area : List Byte} (h : rfbm.getLsbD 19 = false) :
    s.xsaveApx rfbm area = area := by
  simp only [State.xsaveApx, h, Bool.false_eq_true, if_false]

theorem xrstorApx_unrequested {s : State} {rfbm : BitVec 64} {inUse : Bool} {area : List Byte}
    (h : rfbm.getLsbD 19 = false) : s.xrstorApx rfbm inUse area = s := by
  simp only [State.xrstorApx, h, Bool.false_eq_true, if_false]

end Sys2Proof.Machine
end

