-- ==== Sys2Proof/Laws/State.lean ====
section
/-! SUPPORT. What every update of the state does to every field, so that no later proof unfolds a record update. -/
namespace Sys2Proof.Machine

/-! ### `State.setGpr` -/

@[simp] theorem State.setGpr_gpr (s : State) (i : RegId) (v : Word) : (s.setGpr i v).gpr = s.gpr.set i.toNat v := rfl
@[simp] theorem State.setGpr_rip (s : State) (i : RegId) (v : Word) : (s.setGpr i v).rip = s.rip := rfl
@[simp] theorem State.setGpr_ripWrapped (s : State) (i : RegId) (v : Word) : (s.setGpr i v).ripWrapped = s.ripWrapped := rfl
@[simp] theorem State.setGpr_flags (s : State) (i : RegId) (v : Word) : (s.setGpr i v).flags = s.flags := rfl
@[simp] theorem State.setGpr_k (s : State) (i : RegId) (v : Word) : (s.setGpr i v).k = s.k := rfl
@[simp] theorem State.setGpr_xmm (s : State) (i : RegId) (v : Word) : (s.setGpr i v).xmm = s.xmm := rfl
@[simp] theorem State.setGpr_tile (s : State) (i : RegId) (v : Word) : (s.setGpr i v).tile = s.tile := rfl
@[simp] theorem State.setGpr_iwkey (s : State) (i : RegId) (v : Word) : (s.setGpr i v).iwkey = s.iwkey := rfl
@[simp] theorem State.setGpr_mem (s : State) (i : RegId) (v : Word) : (s.setGpr i v).mem = s.mem := rfl
@[simp] theorem State.setGpr_mode (s : State) (i : RegId) (v : Word) : (s.setGpr i v).mode = s.mode := rfl
@[simp] theorem State.setGpr_cpl (s : State) (i : RegId) (v : Word) : (s.setGpr i v).cpl = s.cpl := rfl
@[simp] theorem State.setGpr_ctrl (s : State) (i : RegId) (v : Word) : (s.setGpr i v).ctrl = s.ctrl := rfl
@[simp] theorem State.setGpr_params (s : State) (i : RegId) (v : Word) : (s.setGpr i v).params = s.params := rfl
@[simp] theorem State.setGpr_enqueueInputs (s : State) (i : RegId) (v : Word) : (s.setGpr i v).enqueueInputs = s.enqueueInputs := rfl
@[simp] theorem State.setGpr_free (s : State) (i : RegId) (v : Word) : (s.setGpr i v).free = s.free := rfl

/-! ### `State.writeGpr` -/

@[simp] theorem State.writeGpr_gpr (s : State) (N : Nat) (i : RegId) (v : BitVec N) (zu : Bool) : (s.writeGpr N i v zu).gpr = s.gpr.set i.toNat (mergeGpr N zu (s.getGpr i) v) := rfl
@[simp] theorem State.writeGpr_rip (s : State) (N : Nat) (i : RegId) (v : BitVec N) (zu : Bool) : (s.writeGpr N i v zu).rip = s.rip := rfl
@[simp] theorem State.writeGpr_ripWrapped (s : State) (N : Nat) (i : RegId) (v : BitVec N) (zu : Bool) : (s.writeGpr N i v zu).ripWrapped = s.ripWrapped := rfl
@[simp] theorem State.writeGpr_flags (s : State) (N : Nat) (i : RegId) (v : BitVec N) (zu : Bool) : (s.writeGpr N i v zu).flags = s.flags := rfl
@[simp] theorem State.writeGpr_k (s : State) (N : Nat) (i : RegId) (v : BitVec N) (zu : Bool) : (s.writeGpr N i v zu).k = s.k := rfl
@[simp] theorem State.writeGpr_xmm (s : State) (N : Nat) (i : RegId) (v : BitVec N) (zu : Bool) : (s.writeGpr N i v zu).xmm = s.xmm := rfl
@[simp] theorem State.writeGpr_tile (s : State) (N : Nat) (i : RegId) (v : BitVec N) (zu : Bool) : (s.writeGpr N i v zu).tile = s.tile := rfl
@[simp] theorem State.writeGpr_iwkey (s : State) (N : Nat) (i : RegId) (v : BitVec N) (zu : Bool) : (s.writeGpr N i v zu).iwkey = s.iwkey := rfl
@[simp] theorem State.writeGpr_mem (s : State) (N : Nat) (i : RegId) (v : BitVec N) (zu : Bool) : (s.writeGpr N i v zu).mem = s.mem := rfl
@[simp] theorem State.writeGpr_mode (s : State) (N : Nat) (i : RegId) (v : BitVec N) (zu : Bool) : (s.writeGpr N i v zu).mode = s.mode := rfl
@[simp] theorem State.writeGpr_cpl (s : State) (N : Nat) (i : RegId) (v : BitVec N) (zu : Bool) : (s.writeGpr N i v zu).cpl = s.cpl := rfl
@[simp] theorem State.writeGpr_ctrl (s : State) (N : Nat) (i : RegId) (v : BitVec N) (zu : Bool) : (s.writeGpr N i v zu).ctrl = s.ctrl := rfl
@[simp] theorem State.writeGpr_params (s : State) (N : Nat) (i : RegId) (v : BitVec N) (zu : Bool) : (s.writeGpr N i v zu).params = s.params := rfl
@[simp] theorem State.writeGpr_enqueueInputs (s : State) (N : Nat) (i : RegId) (v : BitVec N) (zu : Bool) : (s.writeGpr N i v zu).enqueueInputs = s.enqueueInputs := rfl
@[simp] theorem State.writeGpr_free (s : State) (N : Nat) (i : RegId) (v : BitVec N) (zu : Bool) : (s.writeGpr N i v zu).free = s.free := rfl

/-! ### `State.setFlags` -/

@[simp] theorem State.setFlags_gpr (s : State) (f : Flags) : (s.setFlags f).gpr = s.gpr := rfl
@[simp] theorem State.setFlags_rip (s : State) (f : Flags) : (s.setFlags f).rip = s.rip := rfl
@[simp] theorem State.setFlags_ripWrapped (s : State) (f : Flags) : (s.setFlags f).ripWrapped = s.ripWrapped := rfl
@[simp] theorem State.setFlags_flags (s : State) (f : Flags) : (s.setFlags f).flags = f := rfl
@[simp] theorem State.setFlags_k (s : State) (f : Flags) : (s.setFlags f).k = s.k := rfl
@[simp] theorem State.setFlags_xmm (s : State) (f : Flags) : (s.setFlags f).xmm = s.xmm := rfl
@[simp] theorem State.setFlags_tile (s : State) (f : Flags) : (s.setFlags f).tile = s.tile := rfl
@[simp] theorem State.setFlags_iwkey (s : State) (f : Flags) : (s.setFlags f).iwkey = s.iwkey := rfl
@[simp] theorem State.setFlags_xinuse19 (s : State) (f : Flags) : (s.setFlags f).xinuse19 = s.xinuse19 := rfl
@[simp] theorem State.setFlags_mem (s : State) (f : Flags) : (s.setFlags f).mem = s.mem := rfl
@[simp] theorem State.setFlags_mode (s : State) (f : Flags) : (s.setFlags f).mode = s.mode := rfl
@[simp] theorem State.setFlags_cpl (s : State) (f : Flags) : (s.setFlags f).cpl = s.cpl := rfl
@[simp] theorem State.setFlags_ctrl (s : State) (f : Flags) : (s.setFlags f).ctrl = s.ctrl := rfl
@[simp] theorem State.setFlags_params (s : State) (f : Flags) : (s.setFlags f).params = s.params := rfl
@[simp] theorem State.setFlags_enqueueInputs (s : State) (f : Flags) : (s.setFlags f).enqueueInputs = s.enqueueInputs := rfl
@[simp] theorem State.setFlags_free (s : State) (f : Flags) : (s.setFlags f).free = s.free := rfl

/-! ### `State.setFlagsUnless` -/

@[simp] theorem State.setFlagsUnless_gpr (s : State) (nf : Bool) (f : Flags) : (s.setFlagsUnless nf f).gpr = s.gpr := by cases nf <;> rfl
@[simp] theorem State.setFlagsUnless_rip (s : State) (nf : Bool) (f : Flags) : (s.setFlagsUnless nf f).rip = s.rip := by cases nf <;> rfl
@[simp] theorem State.setFlagsUnless_ripWrapped (s : State) (nf : Bool) (f : Flags) : (s.setFlagsUnless nf f).ripWrapped = s.ripWrapped := by cases nf <;> rfl
@[simp] theorem State.setFlagsUnless_flags (s : State) (nf : Bool) (f : Flags) : (s.setFlagsUnless nf f).flags = if nf then s.flags else f := by cases nf <;> rfl
@[simp] theorem State.setFlagsUnless_k (s : State) (nf : Bool) (f : Flags) : (s.setFlagsUnless nf f).k = s.k := by cases nf <;> rfl
@[simp] theorem State.setFlagsUnless_xmm (s : State) (nf : Bool) (f : Flags) : (s.setFlagsUnless nf f).xmm = s.xmm := by cases nf <;> rfl
@[simp] theorem State.setFlagsUnless_tile (s : State) (nf : Bool) (f : Flags) : (s.setFlagsUnless nf f).tile = s.tile := by cases nf <;> rfl
@[simp] theorem State.setFlagsUnless_iwkey (s : State) (nf : Bool) (f : Flags) : (s.setFlagsUnless nf f).iwkey = s.iwkey := by cases nf <;> rfl
@[simp] theorem State.setFlagsUnless_xinuse19 (s : State) (nf : Bool) (f : Flags) : (s.setFlagsUnless nf f).xinuse19 = s.xinuse19 := by cases nf <;> rfl
@[simp] theorem State.setFlagsUnless_mem (s : State) (nf : Bool) (f : Flags) : (s.setFlagsUnless nf f).mem = s.mem := by cases nf <;> rfl
@[simp] theorem State.setFlagsUnless_mode (s : State) (nf : Bool) (f : Flags) : (s.setFlagsUnless nf f).mode = s.mode := by cases nf <;> rfl
@[simp] theorem State.setFlagsUnless_cpl (s : State) (nf : Bool) (f : Flags) : (s.setFlagsUnless nf f).cpl = s.cpl := by cases nf <;> rfl
@[simp] theorem State.setFlagsUnless_ctrl (s : State) (nf : Bool) (f : Flags) : (s.setFlagsUnless nf f).ctrl = s.ctrl := by cases nf <;> rfl
@[simp] theorem State.setFlagsUnless_params (s : State) (nf : Bool) (f : Flags) : (s.setFlagsUnless nf f).params = s.params := by cases nf <;> rfl
@[simp] theorem State.setFlagsUnless_enqueueInputs (s : State) (nf : Bool) (f : Flags) : (s.setFlagsUnless nf f).enqueueInputs = s.enqueueInputs := by cases nf <;> rfl
@[simp] theorem State.setFlagsUnless_free (s : State) (nf : Bool) (f : Flags) : (s.setFlagsUnless nf f).free = s.free := by cases nf <;> rfl

/-! ### `State.setXmm` -/

@[simp] theorem State.setXmm_gpr (s : State) (i : BitVec 4) (v : Xmm) : (s.setXmm i v).gpr = s.gpr := rfl
@[simp] theorem State.setXmm_rip (s : State) (i : BitVec 4) (v : Xmm) : (s.setXmm i v).rip = s.rip := rfl
@[simp] theorem State.setXmm_ripWrapped (s : State) (i : BitVec 4) (v : Xmm) : (s.setXmm i v).ripWrapped = s.ripWrapped := rfl
@[simp] theorem State.setXmm_flags (s : State) (i : BitVec 4) (v : Xmm) : (s.setXmm i v).flags = s.flags := rfl
@[simp] theorem State.setXmm_k (s : State) (i : BitVec 4) (v : Xmm) : (s.setXmm i v).k = s.k := rfl
@[simp] theorem State.setXmm_xmm (s : State) (i : BitVec 4) (v : Xmm) : (s.setXmm i v).xmm = s.xmm.set i.toNat v := rfl
@[simp] theorem State.setXmm_tile (s : State) (i : BitVec 4) (v : Xmm) : (s.setXmm i v).tile = s.tile := rfl
@[simp] theorem State.setXmm_iwkey (s : State) (i : BitVec 4) (v : Xmm) : (s.setXmm i v).iwkey = s.iwkey := rfl
@[simp] theorem State.setXmm_xinuse19 (s : State) (i : BitVec 4) (v : Xmm) : (s.setXmm i v).xinuse19 = s.xinuse19 := rfl
@[simp] theorem State.setXmm_mem (s : State) (i : BitVec 4) (v : Xmm) : (s.setXmm i v).mem = s.mem := rfl
@[simp] theorem State.setXmm_mode (s : State) (i : BitVec 4) (v : Xmm) : (s.setXmm i v).mode = s.mode := rfl
@[simp] theorem State.setXmm_cpl (s : State) (i : BitVec 4) (v : Xmm) : (s.setXmm i v).cpl = s.cpl := rfl
@[simp] theorem State.setXmm_ctrl (s : State) (i : BitVec 4) (v : Xmm) : (s.setXmm i v).ctrl = s.ctrl := rfl
@[simp] theorem State.setXmm_params (s : State) (i : BitVec 4) (v : Xmm) : (s.setXmm i v).params = s.params := rfl
@[simp] theorem State.setXmm_enqueueInputs (s : State) (i : BitVec 4) (v : Xmm) : (s.setXmm i v).enqueueInputs = s.enqueueInputs := rfl
@[simp] theorem State.setXmm_free (s : State) (i : BitVec 4) (v : Xmm) : (s.setXmm i v).free = s.free := rfl

/-! ### `State.setK` -/

@[simp] theorem State.setK_gpr (s : State) (i : BitVec 3) (v : Word) : (s.setK i v).gpr = s.gpr := rfl
@[simp] theorem State.setK_rip (s : State) (i : BitVec 3) (v : Word) : (s.setK i v).rip = s.rip := rfl
@[simp] theorem State.setK_ripWrapped (s : State) (i : BitVec 3) (v : Word) : (s.setK i v).ripWrapped = s.ripWrapped := rfl
@[simp] theorem State.setK_flags (s : State) (i : BitVec 3) (v : Word) : (s.setK i v).flags = s.flags := rfl
@[simp] theorem State.setK_k (s : State) (i : BitVec 3) (v : Word) : (s.setK i v).k = s.k.set i.toNat v := rfl
@[simp] theorem State.setK_xmm (s : State) (i : BitVec 3) (v : Word) : (s.setK i v).xmm = s.xmm := rfl
@[simp] theorem State.setK_tile (s : State) (i : BitVec 3) (v : Word) : (s.setK i v).tile = s.tile := rfl
@[simp] theorem State.setK_iwkey (s : State) (i : BitVec 3) (v : Word) : (s.setK i v).iwkey = s.iwkey := rfl
@[simp] theorem State.setK_xinuse19 (s : State) (i : BitVec 3) (v : Word) : (s.setK i v).xinuse19 = s.xinuse19 := rfl
@[simp] theorem State.setK_mem (s : State) (i : BitVec 3) (v : Word) : (s.setK i v).mem = s.mem := rfl
@[simp] theorem State.setK_mode (s : State) (i : BitVec 3) (v : Word) : (s.setK i v).mode = s.mode := rfl
@[simp] theorem State.setK_cpl (s : State) (i : BitVec 3) (v : Word) : (s.setK i v).cpl = s.cpl := rfl
@[simp] theorem State.setK_ctrl (s : State) (i : BitVec 3) (v : Word) : (s.setK i v).ctrl = s.ctrl := rfl
@[simp] theorem State.setK_params (s : State) (i : BitVec 3) (v : Word) : (s.setK i v).params = s.params := rfl
@[simp] theorem State.setK_enqueueInputs (s : State) (i : BitVec 3) (v : Word) : (s.setK i v).enqueueInputs = s.enqueueInputs := rfl
@[simp] theorem State.setK_free (s : State) (i : BitVec 3) (v : Word) : (s.setK i v).free = s.free := rfl

/-! ### `State.poke` -/

@[simp] theorem State.poke_gpr (s : State) (a : Word) (n v : Nat) : (s.poke a n v).gpr = s.gpr := rfl
@[simp] theorem State.poke_rip (s : State) (a : Word) (n v : Nat) : (s.poke a n v).rip = s.rip := rfl
@[simp] theorem State.poke_ripWrapped (s : State) (a : Word) (n v : Nat) : (s.poke a n v).ripWrapped = s.ripWrapped := rfl
@[simp] theorem State.poke_flags (s : State) (a : Word) (n v : Nat) : (s.poke a n v).flags = s.flags := rfl
@[simp] theorem State.poke_k (s : State) (a : Word) (n v : Nat) : (s.poke a n v).k = s.k := rfl
@[simp] theorem State.poke_xmm (s : State) (a : Word) (n v : Nat) : (s.poke a n v).xmm = s.xmm := rfl
@[simp] theorem State.poke_tile (s : State) (a : Word) (n v : Nat) : (s.poke a n v).tile = s.tile := rfl
@[simp] theorem State.poke_iwkey (s : State) (a : Word) (n v : Nat) : (s.poke a n v).iwkey = s.iwkey := rfl
@[simp] theorem State.poke_xinuse19 (s : State) (a : Word) (n v : Nat) : (s.poke a n v).xinuse19 = s.xinuse19 := rfl
@[simp] theorem State.poke_mem (s : State) (a : Word) (n v : Nat) : (s.poke a n v).mem = writeBytes s.mem a (leBytes n v) := rfl
@[simp] theorem State.poke_mode (s : State) (a : Word) (n v : Nat) : (s.poke a n v).mode = s.mode := rfl
@[simp] theorem State.poke_cpl (s : State) (a : Word) (n v : Nat) : (s.poke a n v).cpl = s.cpl := rfl
@[simp] theorem State.poke_ctrl (s : State) (a : Word) (n v : Nat) : (s.poke a n v).ctrl = s.ctrl := rfl
@[simp] theorem State.poke_params (s : State) (a : Word) (n v : Nat) : (s.poke a n v).params = s.params := rfl
@[simp] theorem State.poke_enqueueInputs (s : State) (a : Word) (n v : Nat) : (s.poke a n v).enqueueInputs = s.enqueueInputs := rfl
@[simp] theorem State.poke_free (s : State) (a : Word) (n v : Nat) : (s.poke a n v).free = s.free := rfl

/-! ### `State.advance` -/

@[simp] theorem State.advance_gpr (s : State) (len : Nat) : (s.advance len).gpr = s.gpr := rfl
@[simp] theorem State.advance_rip (s : State) (len : Nat) : (s.advance len).rip = s.rip + BitVec.ofNat 64 len := rfl
@[simp] theorem State.advance_ripWrapped (s : State) (len : Nat) : (s.advance len).ripWrapped = decide (2 ^ 64 ≤ s.rip.toNat + len) := rfl
@[simp] theorem State.advance_flags (s : State) (len : Nat) : (s.advance len).flags = s.flags := rfl
@[simp] theorem State.advance_k (s : State) (len : Nat) : (s.advance len).k = s.k := rfl
@[simp] theorem State.advance_xmm (s : State) (len : Nat) : (s.advance len).xmm = s.xmm := rfl
@[simp] theorem State.advance_tile (s : State) (len : Nat) : (s.advance len).tile = s.tile := rfl
@[simp] theorem State.advance_iwkey (s : State) (len : Nat) : (s.advance len).iwkey = s.iwkey := rfl
@[simp] theorem State.advance_xinuse19 (s : State) (len : Nat) : (s.advance len).xinuse19 = s.xinuse19 := rfl
@[simp] theorem State.advance_mem (s : State) (len : Nat) : (s.advance len).mem = s.mem := rfl
@[simp] theorem State.advance_mode (s : State) (len : Nat) : (s.advance len).mode = s.mode := rfl
@[simp] theorem State.advance_cpl (s : State) (len : Nat) : (s.advance len).cpl = s.cpl := rfl
@[simp] theorem State.advance_ctrl (s : State) (len : Nat) : (s.advance len).ctrl = s.ctrl := rfl
@[simp] theorem State.advance_params (s : State) (len : Nat) : (s.advance len).params = s.params := rfl
@[simp] theorem State.advance_enqueueInputs (s : State) (len : Nat) : (s.advance len).enqueueInputs = s.enqueueInputs := rfl
@[simp] theorem State.advance_free (s : State) (len : Nat) : (s.advance len).free = s.free + 1 := rfl

/-! ### `State.placeCode` -/

@[simp] theorem State.placeCode_gpr (s : State) (bytes : List Byte) : (s.placeCode bytes).gpr = s.gpr := rfl
@[simp] theorem State.placeCode_rip (s : State) (bytes : List Byte) : (s.placeCode bytes).rip = s.rip := rfl
@[simp] theorem State.placeCode_ripWrapped (s : State) (bytes : List Byte) : (s.placeCode bytes).ripWrapped = s.ripWrapped := rfl
@[simp] theorem State.placeCode_flags (s : State) (bytes : List Byte) : (s.placeCode bytes).flags = s.flags := rfl
@[simp] theorem State.placeCode_k (s : State) (bytes : List Byte) : (s.placeCode bytes).k = s.k := rfl
@[simp] theorem State.placeCode_xmm (s : State) (bytes : List Byte) : (s.placeCode bytes).xmm = s.xmm := rfl
@[simp] theorem State.placeCode_tile (s : State) (bytes : List Byte) : (s.placeCode bytes).tile = s.tile := rfl
@[simp] theorem State.placeCode_iwkey (s : State) (bytes : List Byte) : (s.placeCode bytes).iwkey = s.iwkey := rfl
@[simp] theorem State.placeCode_xinuse19 (s : State) (bytes : List Byte) : (s.placeCode bytes).xinuse19 = s.xinuse19 := rfl
@[simp] theorem State.placeCode_mem (s : State) (bytes : List Byte) : (s.placeCode bytes).mem = writeBytes s.mem s.rip bytes := rfl
@[simp] theorem State.placeCode_mode (s : State) (bytes : List Byte) : (s.placeCode bytes).mode = s.mode := rfl
@[simp] theorem State.placeCode_cpl (s : State) (bytes : List Byte) : (s.placeCode bytes).cpl = s.cpl := rfl
@[simp] theorem State.placeCode_params (s : State) (bytes : List Byte) : (s.placeCode bytes).params = s.params := rfl
@[simp] theorem State.placeCode_enqueueInputs (s : State) (bytes : List Byte) : (s.placeCode bytes).enqueueInputs = s.enqueueInputs := rfl
@[simp] theorem State.placeCode_free (s : State) (bytes : List Byte) : (s.placeCode bytes).free = s.free := rfl

/-! ### `State.enqueued` -/

@[simp] theorem State.enqueued_gpr (s : State) : s.enqueued.gpr = s.gpr := rfl
@[simp] theorem State.enqueued_rip (s : State) : s.enqueued.rip = s.rip := rfl
@[simp] theorem State.enqueued_ripWrapped (s : State) : s.enqueued.ripWrapped = s.ripWrapped := rfl
@[simp] theorem State.enqueued_flags (s : State) : s.enqueued.flags = { Flags.clear with zf := s.enqueue.1 } := rfl
@[simp] theorem State.enqueued_k (s : State) : s.enqueued.k = s.k := rfl
@[simp] theorem State.enqueued_xmm (s : State) : s.enqueued.xmm = s.xmm := rfl
@[simp] theorem State.enqueued_tile (s : State) : s.enqueued.tile = s.tile := rfl
@[simp] theorem State.enqueued_iwkey (s : State) : s.enqueued.iwkey = s.iwkey := rfl
@[simp] theorem State.enqueued_xinuse19 (s : State) : s.enqueued.xinuse19 = s.xinuse19 := rfl
@[simp] theorem State.enqueued_mem (s : State) : s.enqueued.mem = s.mem := rfl
@[simp] theorem State.enqueued_mode (s : State) : s.enqueued.mode = s.mode := rfl
@[simp] theorem State.enqueued_cpl (s : State) : s.enqueued.cpl = s.cpl := rfl
@[simp] theorem State.enqueued_ctrl (s : State) : s.enqueued.ctrl = s.ctrl := rfl
@[simp] theorem State.enqueued_params (s : State) : s.enqueued.params = s.params := rfl
@[simp] theorem State.enqueued_enqueueInputs (s : State) : s.enqueued.enqueueInputs = s.enqueue.2 := rfl
@[simp] theorem State.enqueued_free (s : State) : s.enqueued.free = s.free := rfl

/-! ### `State.clobberXmm456` -/

@[simp] theorem State.clobberXmm456_gpr (s : State) : s.clobberXmm456.gpr = s.gpr := rfl
@[simp] theorem State.clobberXmm456_rip (s : State) : s.clobberXmm456.rip = s.rip := rfl
@[simp] theorem State.clobberXmm456_ripWrapped (s : State) : s.clobberXmm456.ripWrapped = s.ripWrapped := rfl
@[simp] theorem State.clobberXmm456_flags (s : State) : s.clobberXmm456.flags = s.flags := rfl
@[simp] theorem State.clobberXmm456_k (s : State) : s.clobberXmm456.k = s.k := rfl
@[simp] theorem State.clobberXmm456_tile (s : State) : s.clobberXmm456.tile = s.tile := rfl
@[simp] theorem State.clobberXmm456_iwkey (s : State) : s.clobberXmm456.iwkey = s.iwkey := rfl
@[simp] theorem State.clobberXmm456_xinuse19 (s : State) : s.clobberXmm456.xinuse19 = s.xinuse19 := rfl
@[simp] theorem State.clobberXmm456_mem (s : State) : s.clobberXmm456.mem = s.mem := rfl
@[simp] theorem State.clobberXmm456_mode (s : State) : s.clobberXmm456.mode = s.mode := rfl
@[simp] theorem State.clobberXmm456_cpl (s : State) : s.clobberXmm456.cpl = s.cpl := rfl
@[simp] theorem State.clobberXmm456_ctrl (s : State) : s.clobberXmm456.ctrl = s.ctrl := rfl
@[simp] theorem State.clobberXmm456_params (s : State) : s.clobberXmm456.params = s.params := rfl
@[simp] theorem State.clobberXmm456_enqueueInputs (s : State) : s.clobberXmm456.enqueueInputs = s.enqueueInputs := rfl
@[simp] theorem State.clobberXmm456_free (s : State) : s.clobberXmm456.free = s.free := rfl

/-! ### Registers -/

@[simp] theorem State.getGpr_setGpr (s : State) (i j : RegId) (v : Word) :
    (s.setGpr i v).getGpr j = if i = j then v else s.getGpr j := by
  simp only [State.getGpr, State.setGpr_gpr, Vector.getElem_set, BitVec.toNat_inj]

@[simp] theorem State.getGpr_writeGpr (s : State) (N : Nat) (i j : RegId) (v : BitVec N) (zu : Bool) :
    (s.writeGpr N i v zu).getGpr j = if i = j then mergeGpr N zu (s.getGpr i) v else s.getGpr j := by
  simp only [State.writeGpr, State.getGpr_setGpr]

@[simp] theorem State.getGpr_setFlags (s : State) (f : Flags) (j : RegId) : (s.setFlags f).getGpr j = s.getGpr j := rfl
@[simp] theorem State.getGpr_setFlagsUnless (s : State) (nf : Bool) (f : Flags) (j : RegId) : (s.setFlagsUnless nf f).getGpr j = s.getGpr j := by cases nf <;> rfl
@[simp] theorem State.getGpr_setXmm (s : State) (i : BitVec 4) (v : Xmm) (j : RegId) : (s.setXmm i v).getGpr j = s.getGpr j := rfl
@[simp] theorem State.getGpr_setK (s : State) (i : BitVec 3) (v : Word) (j : RegId) : (s.setK i v).getGpr j = s.getGpr j := rfl
@[simp] theorem State.getGpr_poke (s : State) (a : Word) (n v : Nat) (j : RegId) : (s.poke a n v).getGpr j = s.getGpr j := rfl
@[simp] theorem State.getGpr_advance (s : State) (len : Nat) (j : RegId) : (s.advance len).getGpr j = s.getGpr j := rfl
@[simp] theorem State.getGpr_placeCode (s : State) (bytes : List Byte) (j : RegId) : (s.placeCode bytes).getGpr j = s.getGpr j := rfl
@[simp] theorem State.getGpr_enqueued (s : State) (j : RegId) : s.enqueued.getGpr j = s.getGpr j := rfl
@[simp] theorem State.getGpr_clobberXmm456 (s : State) (j : RegId) : s.clobberXmm456.getGpr j = s.getGpr j := rfl

@[simp] theorem State.getXmm_setXmm (s : State) (i j : BitVec 4) (v : Xmm) :
    (s.setXmm i v).getXmm j = if i = j then v else s.getXmm j := by
  simp only [State.getXmm, State.setXmm_xmm, Vector.getElem_set, BitVec.toNat_inj]

@[simp] theorem State.getK_setK (s : State) (i j : BitVec 3) (v : Word) :
    (s.setK i v).getK j = if i = j then v else s.getK j := by
  simp only [State.getK, State.setK_k, Vector.getElem_set, BitVec.toNat_inj]

/-! ### XINUSE[19] -/

theorem State.setGpr_xinuse19 (s : State) (i : RegId) (v : Word) :
    (s.setGpr i v).xinuse19 =
      (s.xinuse19 || (decide (16 ≤ i.toNat) && (v != 0 || Config.zeroWriteSetsXinuse))) := rfl

theorem State.setGpr_xinuse19_mono {s : State} {i : RegId} {v : Word} (h : s.xinuse19 = true) :
    (s.setGpr i v).xinuse19 = true := by
  simp [State.setGpr_xinuse19, h]

/-- A register write keeps XINUSE[19] = 0 only when it is no EGPR or writes 0. -/
theorem State.setGpr_xinuse19_false {s : State} {i : RegId} {v : Word} (h : (s.setGpr i v).xinuse19 = false) :
    s.xinuse19 = false ∧ (16 ≤ i.toNat → v = 0) := by
  simp only [State.setGpr_xinuse19, Bool.or_eq_false_iff, Bool.and_eq_false_iff, decide_eq_false_iff_not] at h
  refine ⟨h.1, fun hi => ?_⟩
  rcases h.2 with h2 | h2
  · exact absurd hi h2
  · simpa using h2.1

end Sys2Proof.Machine
end

