-- ==== Sys2Proof/Laws/Memory.lean ====
section
/-! SUPPORT. The laws of memory: what a write does to every byte, that every memory operation keeps the canonical form, and
that the little-endian bytes of a value give the value back. -/
namespace Sys2Proof.Machine

/-! ### One byte -/

theorem memWfFrom_mono {lo lo' : Nat} {m : Memory} (h : memWfFrom lo m = true) (hl : lo' ≤ lo) :
    memWfFrom lo' m = true := by
  cases m with
  | nil => rfl
  | cons c m =>
    simp only [memWfFrom, Bool.and_eq_true, decide_eq_true_eq] at h ⊢
    exact ⟨⟨⟨le_trans hl h.1.1.1, h.1.1.2⟩, h.1.2⟩, h.2⟩

theorem memRead_of_lt {lo : Nat} {m : Memory} (h : memWfFrom lo m = true) {a : Nat} (ha : a < lo) :
    memRead m a = 0 := by
  induction m generalizing lo with
  | nil => rfl
  | cons c m ih =>
    simp only [memWfFrom, Bool.and_eq_true, decide_eq_true_eq] at h
    have : c.1 ≠ a := by omega
    simp only [memRead, this, if_false]
    exact ih h.2 (by omega)

/-- A write keeps the canonical form. -/
theorem memWfFrom_memWrite {lo : Nat} {m : Memory} (h : memWfFrom lo m = true) {a : Nat} (ha : lo ≤ a)
    (hb : a < 2 ^ 64) (b : Byte) : memWfFrom lo (memWrite m a b) = true := by
  induction m generalizing lo with
  | nil =>
    rw [memWrite]
    split
    · rfl
    · next hz =>
      simp only [memWfFrom, Bool.and_eq_true, decide_eq_true_eq, bne_iff_ne, and_true]
      exact ⟨⟨ha, hb⟩, hz⟩
  | cons c m ih =>
    obtain ⟨c, d⟩ := c
    have h' := h
    simp only [memWfFrom, Bool.and_eq_true, decide_eq_true_eq] at h'
    obtain ⟨⟨⟨h1, h2⟩, h3⟩, h4⟩ := h'
    rw [memWrite]
    split_ifs with hac hz he hz
    · exact h
    · simp only [memWfFrom, Bool.and_eq_true, decide_eq_true_eq, bne_iff_ne]
      exact ⟨⟨⟨ha, hb⟩, hz⟩, ⟨⟨by omega, h2⟩, by simpa using h3⟩, h4⟩
    · exact memWfFrom_mono h4 (by omega)
    · simp only [memWfFrom, Bool.and_eq_true, decide_eq_true_eq, bne_iff_ne]
      exact ⟨⟨⟨ha, hb⟩, hz⟩, by rw [he]; exact h4⟩
    · simp only [memWfFrom, Bool.and_eq_true, decide_eq_true_eq]
      exact ⟨⟨⟨h1, h2⟩, h3⟩, ih h4 (by omega)⟩

/-- What a write does to every byte, from a canonical memory. -/
theorem memRead_memWriteFrom {lo : Nat} {m : Memory} (h : memWfFrom lo m = true) (a : Nat) (b : Byte) (x : Nat) :
    memRead (memWrite m a b) x = if x = a then b else memRead m x := by
  induction m generalizing lo with
  | nil =>
    rw [memWrite]
    split_ifs with hz hx hx
    · simp [memRead, hz]
    · simp [memRead]
    · simp [memRead, hx]
    · simp [memRead, Ne.symm hx]
  | cons c m ih =>
    obtain ⟨c, d⟩ := c
    have h' := h
    simp only [memWfFrom, Bool.and_eq_true, decide_eq_true_eq] at h'
    obtain ⟨⟨⟨h1, h2⟩, h3⟩, h4⟩ := h'
    rw [memWrite]
    by_cases hx : x = a
    · subst hx
      have hlt : x < c → memRead ((c, d) :: m) x = 0 := fun hc => by
        rw [memRead, if_neg (by omega)]
        exact memRead_of_lt h4 (by omega)
      rw [if_pos rfl]
      split_ifs with hac hz he hz
      · rw [hlt hac, hz]
      · simp [memRead]
      · rw [memRead_of_lt h4 (by omega), hz]
      · simp [memRead]
      · rw [memRead, if_neg (fun e => he e.symm), ih h4, if_pos rfl]
    · have hxa : ¬ a = x := fun e => hx e.symm
      simp only [hx, if_false]
      split_ifs with hac hz he hz
      · rfl
      · rw [memRead, if_neg hxa]
      · rw [memRead, if_neg (by rw [← he]; exact hxa)]
      · rw [memRead, if_neg hxa, memRead, if_neg (by rw [← he]; exact hxa)]
      · rw [memRead, memRead, ih h4, if_neg hx]

theorem Memory.wf_memWrite {m : Memory} (h : Memory.wf m = true) {a : Nat} (ha : a < 2 ^ 64) (b : Byte) :
    Memory.wf (memWrite m a b) = true := memWfFrom_memWrite h (Nat.zero_le a) ha b

theorem memRead_memWrite {m : Memory} (h : Memory.wf m = true) (a : Nat) (b : Byte) (x : Nat) :
    memRead (memWrite m a b) x = if x = a then b else memRead m x := memRead_memWriteFrom h a b x

/-! ### Several bytes -/

theorem addr_succ (a : Word) (i : Nat) : a + 1 + BitVec.ofNat 64 i = a + BitVec.ofNat 64 (i + 1) := by
  apply BitVec.eq_of_toNat_eq
  simp
  omega

theorem addr_ne {a : Word} {i j : Nat} (hi : i < 2 ^ 64) (hj : j < 2 ^ 64) (h : i ≠ j) :
    a + BitVec.ofNat 64 i ≠ a + BitVec.ofNat 64 j := by
  intro e
  have := congrArg BitVec.toNat e
  simp at this
  have ha := a.isLt
  omega

/-- Writing bytes keeps the canonical form. -/
theorem Memory.wf_writeBytes {m : Memory} (h : Memory.wf m = true) (a : Word) (bs : List Byte) :
    Memory.wf (writeBytes m a bs) = true := by
  induction bs generalizing m a with
  | nil => exact h
  | cons b bs ih => exact ih (Memory.wf_memWrite h a.isLt b) (a + 1)

/-- A byte outside the written ones is unchanged. -/
theorem memRead_writeBytes_of_notMem {m : Memory} (h : Memory.wf m = true) (a : Word) (bs : List Byte) (x : Word)
    (hx : ∀ i < bs.length, x ≠ a + BitVec.ofNat 64 i) :
    memRead (writeBytes m a bs) x.toNat = memRead m x.toNat := by
  induction bs generalizing m a with
  | nil => rfl
  | cons b bs ih =>
    have h0 : x ≠ a := by simpa using hx 0 (by simp)
    have hn : x.toNat ≠ a.toNat := fun e => h0 (BitVec.eq_of_toNat_eq e)
    rw [writeBytes, ih (Memory.wf_memWrite h a.isLt b), memRead_memWrite h, if_neg hn]
    intro i hi
    rw [addr_succ]
    exact hx (i + 1) (by simpa using hi)

theorem length_readBytes (m : Memory) (a : Word) (n : Nat) : (readBytes m a n).length = n := by
  induction n generalizing a with
  | zero => rfl
  | succ n ih => simp [readBytes, ih]

/-- Reading depends on the bytes read alone. -/
theorem readBytes_congr {m m' : Memory} (a : Word) (n : Nat)
    (h : ∀ i < n, memRead m (a + BitVec.ofNat 64 i).toNat = memRead m' (a + BitVec.ofNat 64 i).toNat) :
    readBytes m a n = readBytes m' a n := by
  induction n generalizing a with
  | zero => rfl
  | succ n ih =>
    have h0 := h 0 (by omega)
    simp only [BitVec.add_zero] at h0
    simp only [readBytes, h0]
    congr 1
    apply ih
    intro i hi
    rw [addr_succ]
    exact h (i + 1) (by omega)

/-- What is written is read back. -/
theorem readBytes_writeBytes {m : Memory} (h : Memory.wf m = true) (a : Word) (bs : List Byte)
    (hl : bs.length ≤ 2 ^ 64) : readBytes (writeBytes m a bs) a bs.length = bs := by
  induction bs generalizing m a with
  | nil => rfl
  | cons b bs ih =>
    simp only [List.length_cons] at hl
    have h1 := Memory.wf_memWrite h a.isLt b
    simp only [List.length_cons, readBytes, writeBytes]
    rw [ih h1 (a + 1) (by omega), memRead_writeBytes_of_notMem h1, memRead_memWrite h, if_pos rfl]
    intro i hi
    rw [addr_succ]
    have := addr_ne (a := a) (i := 0) (j := i + 1) (by omega) (by omega) (by omega)
    simpa using this

/-! ### Little-endian values -/

theorem length_leBytes (n v : Nat) : (leBytes n v).length = n := by
  induction n generalizing v with
  | zero => rfl
  | succ n ih => simp [leBytes, ih]

theorem leValue_lt (bs : List Byte) : leValue bs < 256 ^ bs.length := by
  induction bs with
  | nil => simp [leValue]
  | cons b bs ih =>
    have := b.isLt
    simp only [leValue, List.length_cons, pow_succ]
    omega

/-- The n bytes of a value give back its low 8n bits. -/
theorem leValue_leBytes (n v : Nat) : leValue (leBytes n v) = v % 256 ^ n := by
  induction n generalizing v with
  | zero => simp [leBytes, leValue, Nat.mod_one]
  | succ n ih =>
    rw [leBytes, leValue, ih, BitVec.toNat_ofNat, pow_succ 256 n, Nat.mul_comm (256 ^ n) 256, Nat.mod_mul]

theorem leBytes_leValue (bs : List Byte) : leBytes bs.length (leValue bs) = bs := by
  induction bs with
  | nil => rfl
  | cons b bs ih =>
    have hb := b.isLt
    simp only [List.length_cons, leBytes, leValue]
    have h1 : (b.toNat + 256 * leValue bs) / 256 = leValue bs := by omega
    rw [h1, ih]
    congr 1
    apply BitVec.eq_of_toNat_eq
    simp only [BitVec.toNat_ofNat]
    omega

/-! ### The state's bytes -/

/-- `poke` keeps the canonical form. -/
theorem Memory.wf_poke {s : State} (h : Memory.wf s.mem = true) (a : Word) (n v : Nat) :
    Memory.wf (s.poke a n v).mem = true := Memory.wf_writeBytes h a _

/-- A byte outside the stored ones reads as before. -/
theorem State.byteAt_poke_of_notMem {s : State} (h : Memory.wf s.mem = true) (a : Word) (n v : Nat) (x : Word)
    (hx : ∀ i < n, x ≠ a + BitVec.ofNat 64 i) : (s.poke a n v).byteAt x = s.byteAt x := by
  apply memRead_writeBytes_of_notMem h
  rw [length_leBytes]
  exact hx

/-- A stored value is read back. -/
theorem readBytes_poke {s : State} (h : Memory.wf s.mem = true) (a : Word) (n v : Nat) (hn : n ≤ 2 ^ 64) :
    readBytes (s.poke a n v).mem a n = leBytes n v := by
  have := readBytes_writeBytes h a (leBytes n v) (by rw [length_leBytes]; exact hn)
  rwa [length_leBytes] at this

/-- `withFetchWord`'s placing of code keeps the canonical form. -/
theorem Memory.wf_placeCode {s : State} (h : Memory.wf s.mem = true) (bs : List Byte) :
    Memory.wf (s.placeCode bs).mem = true := Memory.wf_writeBytes h s.rip bs

theorem State.reset_memOk : Memory.wf State.reset.mem = true := rfl

end Sys2Proof.Machine
end

