-- ==== Sys2Proof/Laws/Frames.lean ====
section
/-! SUPPORT. Reading a register after a write, and how a footprint is kept by each update a meaning is made of. -/
namespace Sys2Proof.Machine

/-- `t` differs from `s` inside the footprint `f` alone, and keeps the invariants of `s`. -/
structure Framed (s t : State) (f : Footprint) : Prop where
  gprs   : ∀ r : RegId, r ∉ f.gprs → t.getGpr r = s.getGpr r
  cf     : f.flags.cf = false → t.flags.cf = s.flags.cf
  pf     : f.flags.pf = false → t.flags.pf = s.flags.pf
  af     : f.flags.af = false → t.flags.af = s.flags.af
  zf     : f.flags.zf = false → t.flags.zf = s.flags.zf
  sf     : f.flags.sf = false → t.flags.sf = s.flags.sf
  of     : f.flags.of = false → t.flags.of = s.flags.of
  bytes  : s.memOk → ∀ a : Word, (∀ p ∈ f.stores, ∀ j < p.2, a ≠ p.1 + BitVec.ofNat 64 j) → t.byteAt a = s.byteAt a
  ks     : ∀ k : BitVec 3, k ∉ f.ks → t.getK k = s.getK k
  xmms   : ∀ x : BitVec 4, x ∉ f.xmms → t.getXmm x = s.getXmm x
  tile   : f.tile = false → t.tile = s.tile
  inputs : f.inputs = false → t.enqueueInputs = s.enqueueInputs
  rip    : f.rip = false → t.rip = s.rip ∧ t.ripWrapped = s.ripWrapped
  xinuse : (∀ r ∈ f.gprs, r.toNat < 16) → t.xinuse19 = s.xinuse19
  mode   : t.mode = s.mode
  cpl    : t.cpl = s.cpl
  ctrl   : t.ctrl = s.ctrl
  params : t.params = s.params
  iwkey  : t.iwkey = s.iwkey
  free   : t.free = s.free
  mono   : s.xinuse19 = true → t.xinuse19 = true
  memOk  : s.memOk → t.memOk
  apxOk  : s.apxInitOk → t.apxInitOk

namespace Framed
variable {s t : State} {f : Footprint}

theorem refl (s : State) (f : Footprint) : Framed s s f := by
  constructor <;> simp

/-- A register write inside the footprint. -/
theorem setGpr (h : Framed s t f) {i : RegId} (hi : i ∈ f.gprs) (v : Word) : Framed s (t.setGpr i v) f where
  gprs r hr := by
    rw [State.getGpr_setGpr, if_neg (fun e => hr (Eq.subst (motive := fun y => y ∈ _) e hi))]
    exact h.gprs r hr
  cf := h.cf
  pf := h.pf
  af := h.af
  zf := h.zf
  sf := h.sf
  of := h.of
  bytes := h.bytes
  ks := h.ks
  xmms := h.xmms
  tile := h.tile
  inputs := h.inputs
  rip := h.rip
  xinuse hr := by
    have hlt := hr i hi
    simp only [State.setGpr, h.xinuse hr]
    simp only [show ¬ 16 ≤ i.toNat from by omega, decide_false, Bool.false_and, Bool.or_false]
  mode := h.mode
  cpl := h.cpl
  ctrl := h.ctrl
  params := h.params
  iwkey := h.iwkey
  free := h.free
  mono hx := by simp [State.setGpr, h.mono hx]
  memOk := h.memOk
  apxOk hs := by
    intro hx j hj
    simp only [State.setGpr, Bool.or_eq_false_iff, Bool.and_eq_false_iff, decide_eq_false_iff_not] at hx
    rw [State.getGpr_setGpr]
    split
    · subst_vars
      rcases hx.2 with h1 | h1
      · omega
      · simpa using h1.1
    · exact h.apxOk hs hx.1 j hj

theorem writeGpr (h : Framed s t f) {i : RegId} (hi : i ∈ f.gprs) (N : Nat) (v : BitVec N) (zu : Bool) :
    Framed s (t.writeGpr N i v zu) f := h.setGpr hi _

/-- A flag update inside the footprint. -/
theorem setFlags (h : Framed s t f) {g : Flags} (hc : f.flags.cf = false → g.cf = s.flags.cf)
    (hp : f.flags.pf = false → g.pf = s.flags.pf) (ha : f.flags.af = false → g.af = s.flags.af)
    (hz : f.flags.zf = false → g.zf = s.flags.zf) (hs : f.flags.sf = false → g.sf = s.flags.sf)
    (ho : f.flags.of = false → g.of = s.flags.of) : Framed s (t.setFlags g) f :=
  { h with cf := hc, pf := hp, af := ha, zf := hz, sf := hs, of := ho, memOk := h.memOk, apxOk := h.apxOk }

/-- Any flags, when the footprint has all six. -/
theorem setFlagsAll (h : Framed s t f) (hf : f.flags = Flags.all) (g : Flags) : Framed s (t.setFlags g) f := by
  apply h.setFlags <;> simp [hf, Flags.all]

/-- Flags under NF, when the footprint has all six unless NF. -/
theorem setFlagsUnless (h : Framed s t f) {nf : Bool} (hf : f.flags = flagsUnless nf Flags.all) (g : Flags) :
    Framed s (t.setFlagsUnless nf g) f := by
  cases nf
  · exact h.setFlagsAll hf g
  · exact h

/-- A store inside the footprint. -/
theorem poke (h : Framed s t f) {a : Word} {n : Nat} (hp : (a, n) ∈ f.stores) (v : Nat) :
    Framed s (t.poke a n v) f :=
  { h with
    bytes := fun hs x hx => by
      rw [State.byteAt_poke_of_notMem (h.memOk hs) a n v x (hx (a, n) hp)]
      exact h.bytes hs x hx
    memOk := fun hs => Memory.wf_poke (h.memOk hs) a n v
    apxOk := h.apxOk
    gprs := h.gprs }

/-- A destination inside the footprint. -/
theorem putDst (h : Framed s t f) (N : Nat) {d : Dst} (hg : ∀ r ∈ dstGprs d, r ∈ f.gprs)
    (hp : ∀ p ∈ dstStores t N d, p ∈ f.stores) (v : BitVec N) : Framed s (Machine.putDst t N d v) f := by
  cases d with
  | reg i zu => exact h.writeGpr (hg i (by simp [dstGprs])) N v zu
  | mem m => exact h.poke (hp _ (by simp [dstStores])) _

theorem setK (h : Framed s t f) {i : BitVec 3} (hi : i ∈ f.ks) (v : Word) : Framed s (t.setK i v) f :=
  { h with
    ks := fun k hk => by
      rw [State.getK_setK, if_neg (fun e => hk (Eq.subst (motive := fun y => y ∈ _) e hi))]
      exact h.ks k hk
    memOk := h.memOk
    apxOk := h.apxOk }

theorem setXmm (h : Framed s t f) {i : BitVec 4} (hi : i ∈ f.xmms) (v : Xmm) : Framed s (t.setXmm i v) f :=
  { h with
    xmms := fun x hx => by
      rw [State.getXmm_setXmm, if_neg (fun e => hx (Eq.subst (motive := fun y => y ∈ _) e hi))]
      exact h.xmms x hx
    memOk := h.memOk
    apxOk := h.apxOk }

/-- XMM registers replaced by ones that agree outside the footprint. -/
theorem withXmm (h : Framed s t f) {v : Vector Xmm 16}
    (hv : ∀ x : BitVec 4, x ∉ f.xmms → v[x.toNat] = t.xmm[x.toNat]) : Framed s (t.withXmm v) f :=
  { h with
    xmms := fun x hx => (hv x hx).trans (h.xmms x hx)
    memOk := h.memOk
    apxOk := h.apxOk }

theorem withTile (h : Framed s t f) (hf : f.tile = true) (v : TileState) : Framed s (t.withTile v) f :=
  { h with tile := fun e => absurd (hf.symm.trans e) (by decide), memOk := h.memOk, apxOk := h.apxOk }

theorem withRip (h : Framed s t f) (hf : f.rip = true) (a : Word) : Framed s (t.withRip a) f :=
  { h with rip := fun e => absurd (hf.symm.trans e) (by decide), memOk := h.memOk, apxOk := h.apxOk }

theorem enqueued (h : Framed s t f) (hf : f.flags = Flags.all) (hi : f.inputs = true) : Framed s t.enqueued f :=
  { h.setFlagsAll hf { Flags.clear with zf := t.enqueue.1 } with
    inputs := fun e => absurd (hi.symm.trans e) (by decide)
    memOk := h.memOk
    apxOk := h.apxOk }

/-- Rows of a tile stored inside the footprint. -/
theorem withRows (h : Framed s t f) (m : Mem) (k : BitVec 3) (c i n : Nat)
    (hr : ∀ p ∈ rowStores s m c i n, p ∈ f.stores) (mem : Memory) (hm : t.mem = mem) :
    Framed s (t.withMem (writeRows s m k c i mem n)) f := by
  induction n generalizing t i mem with
  | zero => subst hm; exact h
  | succ n ih =>
    subst hm
    have hlen : ∀ j q, (tileRowBytes s.tile.contents k.toNat i j q).length = q := by
      intro j q
      induction q generalizing j with
      | zero => rfl
      | succ q ihq => simp [tileRowBytes, ihq]
    refine ih (t := t.withMem (writeBytes t.mem (tileRowAddr s m i) (tileRowBytes s.tile.contents k.toNat i 0 c)))
      { h with
        bytes := fun hs x hx => ?_
        memOk := fun hs => Memory.wf_writeBytes (h.memOk hs) _ _
        apxOk := h.apxOk
        gprs := h.gprs } (i + 1) (fun p hp => hr p (List.mem_cons_of_mem _ hp)) _ rfl
    have hb := h.bytes hs x hx
    rw [← hb]
    refine memRead_writeBytes_of_notMem (h.memOk hs) _ _ x ?_
    rw [hlen]
    exact hx (tileRowAddr s m i, c) (hr _ (by simp [rowStores]))

end Framed

end Sys2Proof.Machine
end

