-- ==== Sys2Proof/Laws/Ops.lean ====
section
/-! SUPPORT. What each shared operation can do, said once: it succeeds exactly when its checks hold, and then with one
result. The provers cite these lemmas and unfold no operation. -/
namespace Sys2Proof.Machine

theorem bind_ok {α β : Type} {x : Except Exc α} {f : α → Except Exc β} {t : β} :
    (x >>= f) = .ok t ↔ ∃ a, x = .ok a ∧ f a = .ok t := by
  cases x with
  | error e =>
    constructor
    · intro h; cases h
    · rintro ⟨a, h, -⟩; cases h
  | ok a =>
    constructor
    · intro h; exact ⟨a, rfl, h⟩
    · rintro ⟨b, h, hf⟩; cases h; exact hf

theorem bind_error {α β : Type} {e : Exc} {f : α → Except Exc β} :
    ((Except.error e : Except Exc α) >>= f) = .error e := rfl

theorem bind_of_ok {α β : Type} {x : α} {f : α → Except Exc β} :
    ((Except.ok x : Except Exc α) >>= f) = f x := rfl

theorem pure_ok {α : Type} {x y : α} : (pure x : Except Exc α) = .ok y ↔ y = x := by
  constructor
  · intro h; cases h; rfl
  · rintro rfl; rfl

theorem finish_next {r : Except Exc State} {t : State} : finish r = .next t ↔ r = .ok t := by
  cases r with
  | error e => simp [finish, takeException]
  | ok s => simp [finish]

theorem finish_fault {r : Except Exc State} {e : Exc} : finish r = takeException e ↔ r = .error e := by
  cases r with
  | error e' => simp [finish, takeException]
  | ok s => simp [finish, takeException]

theorem finish_not_refused {r : Except Exc State} {x : Refusal} : finish r ≠ .refused x := by
  cases r with
  | error e => simp [finish, takeException]
  | ok s => simp [finish]

theorem require_ok {b : Bool} {e : Exc} {u : Unit} : require b e = .ok u ↔ b = true := by
  cases b <;> simp [require]

theorem require_false {e : Exc} : require false e = .error e := rfl

theorem require_true {e : Exc} : require true e = .ok () := rfl

theorem gate_ok {s : State} {b : Bool} {u : Unit} : gate s b = .ok u ↔ s.apxEnabled = true ∧ b = true := by
  simp [gate, require_ok]

theorem gate_disabled {s : State} (h : s.apxEnabled = false) (b : Bool) : gate s b = .error .ud := by
  simp [gate, h, require]

theorem gate_refused {s : State} : gate s false = .error .ud := by
  simp [gate, require]

/-! ### Memory access -/

theorem checkAccess_ok {s : State} {x : Access} {u : Unit} : checkAccess s x = .ok u ↔ accessOk s x := Iff.rfl

theorem load_ok {s : State} {N : Nat} {x : Access} {v : BitVec N} :
    s.load N x = .ok v ↔ accessOk s x ∧ v = BitVec.ofNat N (leValue (readBytes s.mem x.addr x.bytes)) := by
  simp only [State.load, bind_ok, pure_ok, checkAccess_ok]
  exact ⟨fun ⟨_, h⟩ => h, fun h => ⟨(), h⟩⟩

theorem store_ok {s t : State} {N : Nat} {x : Access} {v : BitVec N} :
    s.store N x v = .ok t ↔ accessOk s x ∧ t = s.poke x.addr x.bytes v.toNat := by
  simp only [State.store, bind_ok, pure_ok, checkAccess_ok]
  exact ⟨fun ⟨_, h⟩ => h, fun h => ⟨(), h⟩⟩

theorem readMem_ok {s : State} {N : Nat} {m : Mem} {v : BitVec N} :
    readMem s N m = .ok v ↔ accessOk s (memAccess s m (N / 8) .read true 1) ∧ v = memValue s N (linAddr s m) := by
  rw [readMem, load_ok]
  rfl

/-! ### Operands -/

theorem readSrc_ok {s : State} {N : Nat} {x : Src} {v : BitVec N} :
    readSrc s N x = .ok v ↔ srcReady s N x ∧ v = srcValue s N x := by
  rcases x with (i | m) | i | w
  · simp [readSrc, srcReady, srcValue, rmReady, rmValue, pure_ok]
  · simp only [readSrc, srcReady, srcValue, rmReady, rmValue, readMem_ok]
  · simp [readSrc, srcReady, srcValue, pure_ok]
  · simp [readSrc, srcReady, srcValue, pure_ok]

theorem writeDst_ok {s t : State} {N : Nat} {d : Dst} {v : BitVec N} :
    writeDst s N d v = .ok t ↔ dstReady s N d ∧ t = putDst s N d v := by
  cases d with
  | reg i zu => simp [writeDst, dstReady, putDst, pure_ok]
  | mem m =>
    rw [writeDst, store_ok]
    rfl

@[simp] theorem dstReady_reg {s : State} {N : Nat} {i : RegId} {zu : Bool} : dstReady s N (.reg i zu) = True := rfl

@[simp] theorem dstReady_dstReg {s : State} {N : Nat} {i : RegId} {ndd : Option RegId} :
    dstReady s N (dstReg i ndd) = True := by
  cases ndd <;> rfl

@[simp] theorem dstReady_dstRM_reg {s : State} {N : Nat} {i : RegId} {ndd : Option RegId} :
    dstReady s N (dstRM (.reg i) ndd) = True := by
  cases ndd <;> rfl

@[simp] theorem srcReady_rm {s : State} {N : Nat} {x : RM} : srcReady s N (.rm x) = rmReady s N x := rfl
@[simp] theorem srcReady_reg {s : State} {N : Nat} {i : RegId} : srcReady s N (.reg i) = True := rfl
@[simp] theorem srcReady_imm {s : State} {N : Nat} {v : Word} : srcReady s N (.imm v) = True := rfl
@[simp] theorem srcValue_rm {s : State} {N : Nat} {x : RM} : srcValue s N (.rm x) = rmValue s N x := rfl
@[simp] theorem srcValue_reg {s : State} {N : Nat} {i : RegId} : srcValue s N (.reg i) = s.readGpr N i := rfl
@[simp] theorem srcValue_imm {s : State} {N : Nat} {v : Word} : srcValue s N (.imm v) = v.setWidth N := rfl

end Sys2Proof.Machine
end

