-- ==== Sys2Proof/Laws/Meanings.lean ====
section
/-! SUPPORT. For each operation a meaning is made of, the conditions under which it succeeds and its one result. -/
namespace Sys2Proof.Machine

set_option linter.unusedSimpArgs false

theorem klGate_ok {s : State} {b : Bool} {u : Unit} : klGate s b = .ok u ↔ s.apxEnabled = true ∧ klReady s b := by
  simp only [klGate, klReady, sseUsable, bind_ok, gate_ok, require_ok]
  simp [and_assoc]

theorem shaGate_ok {s : State} {u : Unit} : shaGate s = .ok u ↔ s.apxEnabled = true ∧ shaReady s := by
  simp only [shaGate, shaReady, sseUsable, bind_ok, gate_ok, require_ok]
  simp [and_assoc]

theorem kmovGate_ok {s : State} {ok : Features → Bool} {b : Bool} {u : Unit} :
    kmovGate s ok b = .ok u ↔
      s.apxEnabled = true ∧ ok s.params.features = true ∧ b = true ∧ s.ctrl.cr0Ts = false := by
  simp only [kmovGate, bind_ok, gate_ok, require_ok]
  simp [and_assoc]

theorem readXmmRM_ok {s : State} {x : XRM} {v : Xmm} : readXmmRM s x = .ok v ↔ xrmReady s x ∧ v = xrmValue s x := by
  cases x with
  | xmm i => simp [readXmmRM, xrmReady, xrmValue, pure_ok]
  | mem m => rw [readXmmRM, load_ok]; rfl

theorem readDescriptor_ok {s : State} {m : Mem} {v : BitVec 128} :
    readDescriptor s m = .ok v ↔
      accessOk s (memAccess s m 16 .read false 1) ∧ v = memValue s 128 (linAddr s m) := by
  rw [readDescriptor, load_ok]; rfl

theorem binary_ok {s t : State} (N : Nat) (op : AluOp) (d : Dst) (x y : Src) (nf : Bool) :
    binary N op d x y nf s = .ok t ↔
      s.apxEnabled = true ∧
      srcReady s N x ∧
      srcReady s N y ∧
      dstReady s N d ∧
      t =
      ((putDst s N d (op.result s.flags.cf (srcValue s N x) (srcValue s N y))).setFlagsUnless nf
        (op.flags s.flags.cf (s.anyFlag 0) (srcValue s N x) (srcValue s N y))) := by
  simp only [binary, bind_ok, gate_ok, readSrc_ok, writeDst_ok, pure_ok]
  simp [and_assoc]

theorem unary_ok {s t : State} (N : Nat) (op : UnOp) (d : Dst) (x : Src) (nf : Bool) :
    unary N op d x nf s = .ok t ↔
      s.apxEnabled = true ∧
      srcReady s N x ∧
      dstReady s N d ∧
      t =
      ((putDst s N d (op.result (srcValue s N x))).setFlagsUnless nf (op.flags s.flags (srcValue s N x))) := by
  simp only [unary, bind_ok, gate_ok, readSrc_ok, writeDst_ok, pure_ok]
  simp [and_assoc]

theorem addCarry_ok {s t : State} (N : Nat) (d : Dst) (x y : Src) :
    addCarry N d x y s = .ok t ↔
      s.apxEnabled = true ∧
      s.params.features.adx = true ∧
      srcReady s N x ∧
      srcReady s N y ∧
      dstReady s N d ∧
      t =
      ((putDst s N d (addWith (srcValue s N x) (srcValue s N y) s.flags.cf)).setFlags
        { s.flags with cf := carryOut (srcValue s N x) (srcValue s N y) s.flags.cf }) := by
  simp only [addCarry, bind_ok, gate_ok, readSrc_ok, writeDst_ok, pure_ok]
  simp [and_assoc]

theorem addOverflow_ok {s t : State} (N : Nat) (d : Dst) (x y : Src) :
    addOverflow N d x y s = .ok t ↔
      s.apxEnabled = true ∧
      s.params.features.adx = true ∧
      srcReady s N x ∧
      srcReady s N y ∧
      dstReady s N d ∧
      t =
      ((putDst s N d (addWith (srcValue s N x) (srcValue s N y) s.flags.of)).setFlags
        { s.flags with of := carryOut (srcValue s N x) (srcValue s N y) s.flags.of }) := by
  simp only [addOverflow, bind_ok, gate_ok, readSrc_ok, writeDst_ok, pure_ok]
  simp [and_assoc]

theorem compare_ok {s t : State} (N : Nat) (x y : Src) :
    compare N x y s = .ok t ↔
      s.apxEnabled = true ∧
      srcReady s N x ∧
      srcReady s N y ∧
      t =
      (s.setFlags (subFlags (srcValue s N x) (srcValue s N y) false)) := by
  simp only [compare, bind_ok, gate_ok, readSrc_ok, pure_ok]
  simp [and_assoc]

theorem testBits_ok {s t : State} (N : Nat) (x y : Src) :
    testBits N x y s = .ok t ↔
      s.apxEnabled = true ∧
      srcReady s N x ∧
      srcReady s N y ∧
      t =
      (s.setFlags (logicFlags (s.anyFlag 0) (srcValue s N x &&& srcValue s N y))) := by
  simp only [testBits, bind_ok, gate_ok, readSrc_ok, pure_ok]
  simp [and_assoc]

theorem shift_ok {s t : State} (N : Nat) (op : ShiftOp) (d : Dst) (x : Src) (c : Count) (nf : Bool) :
    shift N op d x c nf s = .ok t ↔
      s.apxEnabled = true ∧
      srcReady s N x ∧
      dstReady s N d ∧
      t =
      ((putDst s N d (op.result s.flags.cf (srcValue s N x) (maskedCount N (c.raw s)))).setFlagsUnless nf
        (shiftFlags op s.flags s.anyFlag (srcValue s N x) (maskedCount N (c.raw s)))) := by
  simp only [shift, bind_ok, gate_ok, readSrc_ok, writeDst_ok, pure_ok]
  simp [and_assoc]

theorem doubleShift_ok {s t : State} (N : Nat) (left : Bool) (d : Dst) (x y : Src) (c : Count) (nf : Bool) :
    doubleShift N left d x y c nf s = .ok t ↔
      s.apxEnabled = true ∧
      srcReady s N x ∧
      srcReady s N y ∧
      dstReady s N d ∧
      t =
      ((putDst s N d (doubleResult left (Config.freeWord s.free 0) (srcValue s N x) (srcValue s N y)
        (maskedCount N (c.raw s)))).setFlagsUnless nf
        (doubleFlags left s.flags s.anyFlag (Config.freeWord s.free 0) (srcValue s N x) (srcValue s N y)
          (maskedCount N (c.raw s)))) := by
  simp only [doubleShift, bind_ok, gate_ok, readSrc_ok, writeDst_ok, pure_ok]
  simp [and_assoc]

theorem imulTo_ok {s t : State} (N : Nat) (d : Dst) (x y : Src) (nf : Bool) :
    imulTo N d x y nf s = .ok t ↔
      s.apxEnabled = true ∧
      srcReady s N x ∧
      srcReady s N y ∧
      dstReady s N d ∧
      t =
      ((putDst s N d (srcValue s N x * srcValue s N y)).setFlagsUnless nf
        (mulFlags s.anyFlag (imulOverflow (srcValue s N x) (srcValue s N y)))) := by
  simp only [imulTo, bind_ok, gate_ok, readSrc_ok, writeDst_ok, pure_ok]
  simp [and_assoc]

theorem mulWide_ok {s t : State} (N : Nat) (sg : Bool) (x : Src) (nf : Bool) :
    mulWide N sg x nf s = .ok t ↔
      s.apxEnabled = true ∧
      srcReady s N x ∧
      t =
      ((writeWide N s (productLow sg (s.readGpr N 0) (srcValue s N x))
        (productHigh sg (s.readGpr N 0) (srcValue s N x))).setFlagsUnless nf
        (mulFlags s.anyFlag (wideOverflow sg (s.readGpr N 0) (srcValue s N x)))) := by
  simp only [mulWide, bind_ok, gate_ok, readSrc_ok, pure_ok]
  simp [and_assoc]

theorem mulx_ok {s t : State} (N : Nat) (hi lo : RegId) (x : Src) :
    mulx N hi lo x s = .ok t ↔
      s.apxEnabled = true ∧
      s.params.features.bmi2 = true ∧
      srcReady s N x ∧
      t =
      ((s.writeGpr N lo (productLow false (s.readGpr N 2) (srcValue s N x)) false).writeGpr N hi
        (productHigh false (s.readGpr N 2) (srcValue s N x)) false) := by
  simp only [mulx, bind_ok, gate_ok, readSrc_ok, pure_ok]
  simp [and_assoc]

theorem divWide_ok {s t : State} (N : Nat) (sg : Bool) (x : Src) (nf : Bool) :
    divWide N sg x nf s = .ok t ↔
      s.apxEnabled = true ∧
      srcReady s N x ∧
      ∃ q r, divide sg (dividend N s) (srcValue s N x) = some (q, r) ∧
        t = (writeWide N s q r).setFlagsUnless nf s.anyFlags := by
  simp only [divWide, bind_ok, gate_ok, readSrc_ok]
  constructor
  · rintro ⟨_, ⟨h1, -⟩, d, ⟨h2, rfl⟩, h⟩
    cases hd : divide sg (dividend N s) (srcValue s N x) with
    | none => simp [hd] at h
    | some p =>
      obtain ⟨q, r⟩ := p
      simp only [hd, pure_ok] at h
      exact ⟨h1, h2, q, r, rfl, h⟩
  · rintro ⟨h1, h2, q, r, hd, rfl⟩
    exact ⟨(), ⟨h1, trivial⟩, _, ⟨h2, rfl⟩, by simp [hd, pure_ok]⟩

theorem countBits_ok {s t : State} (N : Nat) (op : CountOp) (ok : Features → Bool) (reg : RegId) (x : Src) (nf : Bool) :
    countBits N op ok reg x nf s = .ok t ↔
      s.apxEnabled = true ∧
      ok s.params.features = true ∧
      srcReady s N x ∧
      t =
      ((s.writeGpr N reg (BitVec.ofNat N (op.count (srcValue s N x))) false).setFlagsUnless nf
        (op.flags s.anyFlag (srcValue s N x))) := by
  simp only [countBits, bind_ok, gate_ok, readSrc_ok, pure_ok]
  simp [and_assoc]

theorem crc32_ok {s t : State} (N : Nat) (reg : RegId) (x : Src) :
    crc32 N reg x s = .ok t ↔
      s.apxEnabled = true ∧
      srcReady s N x ∧
      t =
      (s.writeGpr 32 reg (crcBytes (s.readGpr 32 reg) (leBytes (N / 8) (srcValue s N x).toNat)) false) := by
  simp only [crc32, bind_ok, gate_ok, readSrc_ok, pure_ok]
  simp [and_assoc]

theorem movbe_ok {s t : State} (N : Nat) (d : Dst) (x : Src) :
    movbe N d x s = .ok t ↔
      s.apxEnabled = true ∧
      s.params.features.movbe = true ∧
      srcReady s N x ∧
      dstReady s N d ∧
      t =
      (putDst s N d (byteReverse (srcValue s N x))) := by
  simp only [movbe, bind_ok, gate_ok, readSrc_ok, writeDst_ok]
  simp [and_assoc]

theorem andn_ok {s t : State} (N : Nat) (reg v : RegId) (x : Src) (nf : Bool) :
    andn N reg v x nf s = .ok t ↔
      s.apxEnabled = true ∧
      s.params.features.bmi1 = true ∧
      srcReady s N x ∧
      t =
      ((s.writeGpr N reg (~~~(s.readGpr N v) &&& srcValue s N x) false).setFlagsUnless nf
        { cf := false, pf := s.anyFlag 0, af := s.anyFlag 1, zf := (~~~(s.readGpr N v) &&& srcValue s N x) == 0,
          sf := (~~~(s.readGpr N v) &&& srcValue s N x).msb, of := false }) := by
  simp only [andn, bind_ok, gate_ok, readSrc_ok, pure_ok]
  simp [and_assoc]

theorem bextr_ok {s t : State} (N : Nat) (reg : RegId) (x : Src) (v : RegId) (nf : Bool) :
    bextr N reg x v nf s = .ok t ↔
      s.apxEnabled = true ∧
      s.params.features.bmi1 = true ∧
      srcReady s N x ∧
      t =
      ((s.writeGpr N reg (bitField (srcValue s N x) ((s.getGpr v).setWidth 8).toNat
        ((s.getGpr v >>> 8).setWidth 8).toNat) false).setFlagsUnless nf
        { cf := false, pf := s.anyFlag 0, af := s.anyFlag 1
          zf := bitField (srcValue s N x) ((s.getGpr v).setWidth 8).toNat ((s.getGpr v >>> 8).setWidth 8).toNat == 0
          sf := s.anyFlag 2, of := false }) := by
  simp only [bextr, bind_ok, gate_ok, readSrc_ok, pure_ok]
  simp [and_assoc]

theorem blsi_ok {s t : State} (N : Nat) (v : RegId) (x : Src) (nf : Bool) :
    blsi N v x nf s = .ok t ↔
      s.apxEnabled = true ∧
      s.params.features.bmi1 = true ∧
      srcReady s N x ∧
      t =
      ((s.writeGpr N v ((0 - srcValue s N x) &&& srcValue s N x) false).setFlagsUnless nf
        { cf := srcValue s N x != 0, pf := s.anyFlag 0, af := s.anyFlag 1, zf := (((0 - srcValue s N x) &&& srcValue s N x) == 0)
          sf := ((0 - srcValue s N x) &&& srcValue s N x).msb, of := false }) := by
  simp only [blsi, bind_ok, gate_ok, readSrc_ok, pure_ok]
  simp [and_assoc]

theorem blsmsk_ok {s t : State} (N : Nat) (v : RegId) (x : Src) (nf : Bool) :
    blsmsk N v x nf s = .ok t ↔
      s.apxEnabled = true ∧
      s.params.features.bmi1 = true ∧
      srcReady s N x ∧
      t =
      ((s.writeGpr N v ((srcValue s N x - BitVec.ofNat N 1) ^^^ srcValue s N x) false).setFlagsUnless nf
        { cf := srcValue s N x == 0, pf := s.anyFlag 0, af := s.anyFlag 1, zf := false
          sf := ((srcValue s N x - BitVec.ofNat N 1) ^^^ srcValue s N x).msb, of := false }) := by
  simp only [blsmsk, bind_ok, gate_ok, readSrc_ok, pure_ok]
  simp [and_assoc]

theorem blsr_ok {s t : State} (N : Nat) (v : RegId) (x : Src) (nf : Bool) :
    blsr N v x nf s = .ok t ↔
      s.apxEnabled = true ∧
      s.params.features.bmi1 = true ∧
      srcReady s N x ∧
      t =
      ((s.writeGpr N v ((srcValue s N x - BitVec.ofNat N 1) &&& srcValue s N x) false).setFlagsUnless nf
        { cf := srcValue s N x == 0, pf := s.anyFlag 0, af := s.anyFlag 1, zf := (((srcValue s N x - BitVec.ofNat N 1) &&& srcValue s N x) == 0)
          sf := ((srcValue s N x - BitVec.ofNat N 1) &&& srcValue s N x).msb, of := false }) := by
  simp only [blsr, bind_ok, gate_ok, readSrc_ok, pure_ok]
  simp [and_assoc]

theorem bzhi_ok {s t : State} (N : Nat) (reg : RegId) (x : Src) (v : RegId) (nf : Bool) :
    bzhi N reg x v nf s = .ok t ↔
      s.apxEnabled = true ∧
      s.params.features.bmi2 = true ∧
      srcReady s N x ∧
      t =
      ((s.writeGpr N reg (if (s.readGpr 8 v).toNat < N then srcValue s N x &&& BitVec.ofNat N (2 ^ (s.readGpr 8 v).toNat - 1)
          else srcValue s N x) false).setFlagsUnless nf
        { cf := decide (N - 1 < (s.readGpr 8 v).toNat), pf := s.anyFlag 0, af := s.anyFlag 1
          zf := (if (s.readGpr 8 v).toNat < N then srcValue s N x &&& BitVec.ofNat N (2 ^ (s.readGpr 8 v).toNat - 1)
          else srcValue s N x) == 0
          sf := (if (s.readGpr 8 v).toNat < N then srcValue s N x &&& BitVec.ofNat N (2 ^ (s.readGpr 8 v).toNat - 1)
          else srcValue s N x).msb, of := false }) := by
  simp only [bzhi, bind_ok, gate_ok, readSrc_ok, pure_ok]
  simp [and_assoc]

theorem bmi2_ok {s t : State} (N : Nat) (op : Bmi2Op) (reg : RegId) (x y : Src) :
    bmi2 N op reg x y s = .ok t ↔
      s.apxEnabled = true ∧
      s.params.features.bmi2 = true ∧
      srcReady s N x ∧
      srcReady s N y ∧
      t =
      (s.writeGpr N reg (op.result (srcValue s N x) (srcValue s N y)) false) := by
  simp only [bmi2, bind_ok, gate_ok, readSrc_ok, pure_ok]
  simp [and_assoc]

theorem cmovNdd_ok {s t : State} (cc : Cond) (N : Nat) (v reg : RegId) (rm : RM) :
    cmovNdd cc N v reg rm s = .ok t ↔
      s.apxEnabled = true ∧
      rmReady s N rm ∧
      t =
      (s.writeGpr N v (if s.flags.cond cc then rmValue s N rm else s.readGpr N reg) true) := by
  simp only [cmovNdd, bind_ok, gate_ok, readSrc_ok, pure_ok]
  simp [and_assoc]

theorem cmovLegacy_ok {s t : State} (cc : Cond) (N : Nat) (reg : RegId) (rm : RM) :
    cmovLegacy cc N reg rm s = .ok t ↔
      s.apxEnabled = true ∧
      rmReady s N rm ∧
      t =
      (if s.flags.cond cc then s.writeGpr N reg (rmValue s N rm) false
        else if N = 32 then s.writeGpr 32 reg (s.readGpr 32 reg) false else s) := by
  by_cases hc : s.flags.cond cc = true
  · simp only [cmovLegacy, bind_ok, gate_ok, readSrc_ok, pure_ok, hc, if_true]
    simp [and_assoc, pure_ok]
  · simp only [Bool.not_eq_true] at hc
    by_cases hN : N = 32 <;>
      simp only [cmovLegacy, bind_ok, gate_ok, readSrc_ok, pure_ok, hc, hN] <;> simp [pure_ok]

theorem cfcmovLoad_ok {s t : State} (cc : Cond) (N : Nat) (reg : RegId) (rm : RM) :
    cfcmovLoad cc N reg rm s = .ok t ↔
      s.apxEnabled = true ∧
      (s.flags.cond cc = true → rmReady s N rm) ∧
      t =
      (s.writeGpr N reg (if s.flags.cond cc then rmValue s N rm else 0) true) := by
  by_cases hc : s.flags.cond cc = true
  · simp only [cfcmovLoad, bind_ok, gate_ok, readSrc_ok, pure_ok, hc, if_true]
    simp [and_assoc, pure_ok]
  · simp only [Bool.not_eq_true] at hc
    simp only [cfcmovLoad, bind_ok, gate_ok, readSrc_ok, pure_ok, hc] <;> simp [pure_ok]

theorem cfcmovReg_ok {s t : State} (cc : Cond) (N : Nat) (dst reg : RegId) :
    cfcmovReg cc N dst reg s = .ok t ↔
      s.apxEnabled = true ∧
      t =
      (s.writeGpr N dst (if s.flags.cond cc then s.readGpr N reg else 0) true) := by
  simp only [cfcmovReg, bind_ok, gate_ok, pure_ok]
  simp [and_assoc]

theorem cfcmovStore_ok {s t : State} (cc : Cond) (N : Nat) (m : Mem) (reg : RegId) :
    cfcmovStore cc N m reg s = .ok t ↔
      s.apxEnabled = true ∧
      (s.flags.cond cc = true → dstReady s N (.mem m)) ∧
      t =
      (if s.flags.cond cc then putDst s N (.mem m) (s.readGpr N reg) else s) := by
  by_cases hc : s.flags.cond cc = true
  · simp only [cfcmovStore, bind_ok, gate_ok, writeDst_ok, pure_ok, hc, if_true]
    simp [and_assoc, pure_ok]
  · simp only [Bool.not_eq_true] at hc
    simp only [cfcmovStore, bind_ok, gate_ok, writeDst_ok, pure_ok, hc] <;> simp [pure_ok]

theorem cfcmovNdd_ok {s t : State} (cc : Cond) (N : Nat) (v reg : RegId) (rm : RM) :
    cfcmovNdd cc N v reg rm s = .ok t ↔
      s.apxEnabled = true ∧
      (s.flags.cond cc = true → rmReady s N rm) ∧
      t =
      (s.writeGpr N v (if s.flags.cond cc then rmValue s N rm else s.readGpr N reg) true) := by
  by_cases hc : s.flags.cond cc = true
  · simp only [cfcmovNdd, bind_ok, gate_ok, readSrc_ok, pure_ok, hc, if_true]
    simp [and_assoc, pure_ok]
  · simp only [Bool.not_eq_true] at hc
    simp only [cfcmovNdd, bind_ok, gate_ok, readSrc_ok, pure_ok, hc] <;> simp [pure_ok]

theorem setByte_ok {s t : State} (cc : Cond) (rm : RM) (zu : Bool) :
    setByte cc rm zu s = .ok t ↔
      s.apxEnabled = true ∧
      (match rm with
      | .reg _ => True
      | .mem m => dstReady s 8 (.mem m)) ∧
      t =
      (match rm with
        | .reg i => s.writeGpr 8 i ((BitVec.ofBool (s.flags.cond cc)).setWidth 8) zu
        | .mem m => putDst s 8 (.mem m) ((BitVec.ofBool (s.flags.cond cc)).setWidth 8)) := by
  cases rm <;> simp only [setByte, bind_ok, gate_ok, writeDst_ok, pure_ok] <;> simp [and_assoc]

theorem condCompare_ok {s t : State} (scc : Scc) (dfv : Dfv) (N : Nat) (x y : Src) :
    condCompare scc dfv N x y s = .ok t ↔
      s.apxEnabled = true ∧
      srcReady s N x ∧
      srcReady s N y ∧
      t =
      (s.setFlags (if s.flags.scc scc then subFlags (srcValue s N x) (srcValue s N y) false else dfvFlags dfv)) := by
  simp only [condCompare, bind_ok, gate_ok, readSrc_ok, pure_ok]
  simp [and_assoc]

theorem condTest_ok {s t : State} (scc : Scc) (dfv : Dfv) (N : Nat) (x y : Src) :
    condTest scc dfv N x y s = .ok t ↔
      s.apxEnabled = true ∧
      srcReady s N x ∧
      srcReady s N y ∧
      t =
      (s.setFlags (if s.flags.scc scc then logicFlags (s.anyFlag 0) (srcValue s N x &&& srcValue s N y)
        else dfvFlags dfv)) := by
  simp only [condTest, bind_ok, gate_ok, readSrc_ok, pure_ok]
  simp [and_assoc]

theorem cmpxadd_ok {s t : State} (cc : Cond) (N : Nat) (m : Mem) (reg v : RegId) :
    cmpxadd cc N m reg v s = .ok t ↔
      s.apxEnabled = true ∧
      s.params.features.cmpccxadd = true ∧
      accessOk s (cmpxaddAccess s N m .read) ∧
      ((subFlags (memValue s N (linAddr s m)) (s.readGpr N reg) false).cond cc = true → accessOk s (cmpxaddAccess s N m .write)) ∧
      t =
      (((if (subFlags (memValue s N (linAddr s m)) (s.readGpr N reg) false).cond cc then
          s.poke (linAddr s m) (N / 8) ((memValue s N (linAddr s m)) + s.readGpr N v).toNat
        else s).writeGpr N reg (memValue s N (linAddr s m)) false).setFlags
        (subFlags (memValue s N (linAddr s m)) (s.readGpr N reg) false)) := by
  have hv : BitVec.ofNat N (leValue (readBytes s.mem (cmpxaddAccess s N m .read).addr
      (cmpxaddAccess s N m .read).bytes)) = memValue s N (linAddr s m) := rfl
  simp only [cmpxadd, bind_ok, gate_ok, load_ok, hv]
  by_cases hc : (subFlags (memValue s N (linAddr s m)) (s.readGpr N reg) false).cond cc = true
  · constructor
    · rintro ⟨_, ⟨h1, h2⟩, _, ⟨h3, rfl⟩, h⟩
      simp only [hc, if_true, bind_ok, store_ok, pure_ok] at h ⊢
      obtain ⟨_, ⟨h4, rfl⟩, h5⟩ := h
      exact ⟨h1, h2, h3, fun _ => h4, h5⟩
    · rintro ⟨h1, h2, h3, h4, rfl⟩
      refine ⟨(), ⟨h1, h2⟩, _, ⟨h3, rfl⟩, ?_⟩
      simp only [hc, if_true, bind_ok, store_ok, pure_ok]
      exact ⟨_, ⟨h4 hc, rfl⟩, rfl⟩
  · constructor
    · rintro ⟨_, ⟨h1, h2⟩, _, ⟨h3, rfl⟩, h⟩
      simp only [hc, if_false, bind_ok, pure_ok, Bool.false_eq_true] at h ⊢
      obtain ⟨_, rfl, h5⟩ := h
      exact ⟨h1, h2, h3, fun h => absurd h (by simp), h5⟩
    · rintro ⟨h1, h2, h3, h4, rfl⟩
      refine ⟨(), ⟨h1, h2⟩, _, ⟨h3, rfl⟩, ?_⟩
      simp only [hc, if_false, bind_ok, pure_ok, Bool.false_eq_true]
      exact ⟨s, rfl, rfl⟩

theorem kmovLoad_ok {s t : State} (N : Nat) (ok : Features → Bool) (k : ShortId) (x : KRM) :
    kmovLoad N ok k x s = .ok t ↔
      s.apxEnabled = true ∧
      ok s.params.features = true ∧
      shortIdOk s.params k = true ∧
      s.ctrl.cr0Ts = false ∧
      (match x with
      | .k i => shortIdOk s.params i = true
      | .mem m => rmReady s N (.mem m)) ∧
      t =
      (s.setK k.id ((match x with
        | .k i => (s.getK i.id).setWidth N
        | .mem m => memValue s N (linAddr s m)).setWidth 64)) := by
  cases x <;> simp only [kmovLoad, bind_ok, pure_ok, kmovGate_ok, readMem_ok] <;> simp [and_assoc, and_left_comm, memValue, rmReady]

theorem kmovStore_ok {s t : State} (N : Nat) (ok : Features → Bool) (m : Mem) (k : ShortId) :
    kmovStore N ok m k s = .ok t ↔
      s.apxEnabled = true ∧
      ok s.params.features = true ∧
      shortIdOk s.params k = true ∧
      s.ctrl.cr0Ts = false ∧
      dstReady s N (.mem m) ∧
      t =
      (putDst s N (.mem m) ((s.getK k.id).setWidth N)) := by
  simp only [kmovStore, bind_ok, writeDst_ok, kmovGate_ok]
  simp [and_assoc]

theorem kmovFromGpr_ok {s t : State} (N : Nat) (ok : Features → Bool) (k : ShortId) (r : RegId) :
    kmovFromGpr N ok k r s = .ok t ↔
      s.apxEnabled = true ∧
      ok s.params.features = true ∧
      shortIdOk s.params k = true ∧
      s.ctrl.cr0Ts = false ∧
      t =
      (s.setK k.id ((s.readGpr N r).setWidth 64)) := by
  simp only [kmovFromGpr, bind_ok, pure_ok, kmovGate_ok]
  simp [and_assoc]

theorem kmovToGpr_ok {s t : State} (N : Nat) (ok : Features → Bool) (r : RegId) (k : ShortId) :
    kmovToGpr N ok r k s = .ok t ↔
      s.apxEnabled = true ∧
      ok s.params.features = true ∧
      shortIdOk s.params k = true ∧
      s.ctrl.cr0Ts = false ∧
      t =
      (s.writeGpr 64 r (((s.getK k.id).setWidth N).setWidth 64) false) := by
  simp only [kmovToGpr, bind_ok, pure_ok, kmovGate_ok]
  simp [and_assoc]

theorem loadTileConfig_ok {s t : State} (m : Mem) :
    loadTileConfig m s = .ok t ↔
      s.apxEnabled = true ∧
      s.params.features.amxTile = true ∧
      accessOk s (memAccess s m 64 .read false 1) ∧
      s.params.tileCfgRejected.contains (memValue s 512 (linAddr s m)) = false ∧
      t =
      ({ s with tile := Config.loadTileCfg s.tile (memValue s 512 (linAddr s m)) }) := by
  simp only [loadTileConfig, bind_ok, gate_ok, load_ok, pure_ok, require_ok]
  simp [and_assoc, memValue, memAccess]

theorem storeTileConfig_ok {s t : State} (m : Mem) :
    storeTileConfig m s = .ok t ↔
      s.apxEnabled = true ∧
      s.params.features.amxTile = true ∧
      accessOk s (memAccess s m 64 .write false 1) ∧
      t =
      (s.poke (linAddr s m) 64 (Config.tileCfgBytes s.tile).toNat) := by
  simp only [storeTileConfig, bind_ok, gate_ok, store_ok]
  simp [and_assoc, memAccess]

theorem klBlock_ok {s t : State} (H : Nat) (f : BitVec H → Xmm → Nat → Bool × Xmm) (x : BitVec 4) (m : Mem) :
    klBlock H f x m s = .ok t ↔
      s.apxEnabled = true ∧
      klReady s s.params.features.keylocker ∧
      accessOk s (memAccess s m (H / 8) .read false 1) ∧
      t =
      (({ s with xmm := if (f (memValue s H (linAddr s m)) (s.getXmm x) s.iwkey).1 then
            s.xmm.set x.toNat (f (memValue s H (linAddr s m)) (s.getXmm x) s.iwkey).2 else s.xmm }).setFlags
        (klFlags (f (memValue s H (linAddr s m)) (s.getXmm x) s.iwkey).1)) := by
  simp only [klBlock, bind_ok, load_ok, pure_ok, klGate_ok]
  constructor
  · rintro ⟨_, ⟨h1, h2⟩, _, ⟨h3, rfl⟩, h⟩
    exact ⟨h1, h2, h3, h⟩
  · rintro ⟨h1, h2, h3, rfl⟩
    exact ⟨(), ⟨h1, h2⟩, _, ⟨h3, rfl⟩, rfl⟩

theorem klWide_ok {s t : State} (H : Nat) (f : BitVec H → Vector Xmm 8 → Nat → Bool × Vector Xmm 8) (m : Mem) :
    klWide H f m s = .ok t ↔
      s.apxEnabled = true ∧
      klReady s s.params.features.keylockerWide ∧
      accessOk s (memAccess s m (H / 8) .read false 1) ∧
      t =
      (({ s with xmm := if (f (memValue s H (linAddr s m)) s.lowXmm s.iwkey).1 then
            setLowXmm s.xmm (f (memValue s H (linAddr s m)) s.lowXmm s.iwkey).2 else s.xmm }).setFlags
        (klFlags (f (memValue s H (linAddr s m)) s.lowXmm s.iwkey).1)) := by
  simp only [klWide, bind_ok, load_ok, pure_ok, klGate_ok]
  constructor
  · rintro ⟨_, ⟨h1, h2⟩, _, ⟨h3, rfl⟩, h⟩
    exact ⟨h1, h2, h3, h⟩
  · rintro ⟨h1, h2, h3, rfl⟩
    exact ⟨(), ⟨h1, h2⟩, _, ⟨h3, rfl⟩, rfl⟩

theorem encodeKey128_ok {s t : State} (dst src : RegId) :
    encodeKey128 dst src s = .ok t ↔
      s.apxEnabled = true ∧
      klReady s s.params.features.keylocker ∧
      t =
      (((((((s.setXmm 0 (xmmPart (Config.klEncodeKey128 (s.readGpr 32 src) (s.getXmm 0) s.iwkey).1 0)).setXmm 1
          (xmmPart (Config.klEncodeKey128 (s.readGpr 32 src) (s.getXmm 0) s.iwkey).1 1)).setXmm 2
          (xmmPart (Config.klEncodeKey128 (s.readGpr 32 src) (s.getXmm 0) s.iwkey).1 2)).clobberXmm456).writeGpr 32 dst
          (Config.klEncodeKey128 (s.readGpr 32 src) (s.getXmm 0) s.iwkey).2 false)).setFlags Flags.clear) := by
  simp only [encodeKey128, bind_ok, pure_ok, klGate_ok]
  simp [and_assoc]

theorem encodeKey256_ok {s t : State} (dst src : RegId) :
    encodeKey256 dst src s = .ok t ↔
      s.apxEnabled = true ∧
      klReady s s.params.features.keylocker ∧
      t =
      ((((((((s.setXmm 0 (xmmPart (Config.klEncodeKey256 (s.readGpr 32 src) (s.getXmm 1 ++ s.getXmm 0) s.iwkey).1 0)).setXmm 1
          (xmmPart (Config.klEncodeKey256 (s.readGpr 32 src) (s.getXmm 1 ++ s.getXmm 0) s.iwkey).1 1)).setXmm 2
          (xmmPart (Config.klEncodeKey256 (s.readGpr 32 src) (s.getXmm 1 ++ s.getXmm 0) s.iwkey).1 2)).setXmm 3
          (xmmPart (Config.klEncodeKey256 (s.readGpr 32 src) (s.getXmm 1 ++ s.getXmm 0) s.iwkey).1 3)).clobberXmm456).writeGpr 32 dst
          (Config.klEncodeKey256 (s.readGpr 32 src) (s.getXmm 1 ++ s.getXmm 0) s.iwkey).2 false)).setFlags Flags.clear) := by
  simp only [encodeKey256, bind_ok, pure_ok, klGate_ok]
  simp [and_assoc]

theorem sha_ok {s t : State} (f : Xmm → Xmm → Xmm) (dst : BitVec 4) (x : XRM) :
    sha f dst x s = .ok t ↔
      s.apxEnabled = true ∧
      shaReady s ∧
      xrmReady s x ∧
      t =
      (s.setXmm dst (f (s.getXmm dst) (xrmValue s x))) := by
  simp only [sha, bind_ok, pure_ok, shaGate_ok, readXmmRM_ok]
  simp [and_assoc]

theorem invept_ok {s t : State} (r : RegId) (m : Mem) :
    invept r m s = .ok t ↔
      s.apxEnabled = true ∧
      s.params.features.vmx = true ∧
      s.ctrl.inVmxOperation = true ∧
      s.ctrl.eptSupported = true ∧
      s.ctrl.inveptSupported = true ∧
      s.cpl = 0 ∧
      accessOk s (memAccess s m 16 .read false 1) ∧
      t =
      (s.setFlags s.anyFlags) := by
  simp only [invept, bind_ok, gate_ok, pure_ok, require_ok, readDescriptor_ok]
  simp [and_assoc]

theorem invvpid_ok {s t : State} (r : RegId) (m : Mem) :
    invvpid r m s = .ok t ↔
      s.apxEnabled = true ∧
      s.params.features.vmx = true ∧
      s.ctrl.inVmxOperation = true ∧
      s.ctrl.vpidSupported = true ∧
      s.ctrl.invvpidSupported = true ∧
      s.cpl = 0 ∧
      accessOk s (memAccess s m 16 .read false 1) ∧
      t =
      (s.setFlags s.anyFlags) := by
  simp only [invvpid, bind_ok, gate_ok, pure_ok, require_ok, readDescriptor_ok]
  simp [and_assoc]

theorem invpcid_ok {s t : State} (r : RegId) (m : Mem) :
    invpcid r m s = .ok t ↔
      s.apxEnabled = true ∧
      s.params.features.invpcid = true ∧
      s.cpl = 0 ∧
      (s.getGpr r).toNat ≤ 3 ∧
      accessOk s (memAccess s m 16 .read false 1) ∧
      invpcidDescOk s (s.getGpr r) (memValue s 128 (linAddr s m)) = true ∧
      t =
      (s) := by
  simp only [invpcid, bind_ok, gate_ok, pure_ok, require_ok, readDescriptor_ok]
  simp [and_assoc]

theorem wrss_ok {s t : State} (N : Nat) (m : Mem) (r : RegId) :
    wrss N m r s = .ok t ↔
      s.apxEnabled = true ∧
      s.params.features.cet = true ∧
      s.ctrl.cr4Cet = true ∧
      wrssEnabled s = true ∧
      accessOk s (shadowAccess s m (N / 8) (if s.cpl = 3 then .shadowUser else .shadowSupervisor)) ∧
      t =
      (s.poke (linAddr s m) (N / 8) (s.readGpr N r).toNat) := by
  simp only [wrss, bind_ok, gate_ok, store_ok]
  simp [and_assoc, shadowAccess]

theorem wruss_ok {s t : State} (N : Nat) (m : Mem) (r : RegId) :
    wruss N m r s = .ok t ↔
      s.apxEnabled = true ∧
      s.params.features.cet = true ∧
      s.ctrl.cr4Cet = true ∧
      s.cpl = 0 ∧
      accessOk s (shadowAccess s m (N / 8) .shadowUser) ∧
      t =
      (s.poke (linAddr s m) (N / 8) (s.readGpr N r).toNat) := by
  simp only [wruss, bind_ok, gate_ok, store_ok, require_ok]
  simp [and_assoc, shadowAccess]

theorem enqcmd_ok {s t : State} (r : RegId) (m : Mem) :
    enqcmd r m s = .ok t ↔
      s.apxEnabled = true ∧
      s.params.features.enqcmd = true ∧
      aligned64 (addrReg s m.a32 r) = true ∧
      s.ctrl.pasidValid = true ∧
      accessOk s (memAccess s m 64 .read false 1) ∧
      (memValue s 512 (linAddr s m)).setWidth 31 = (0 : BitVec 31) ∧
      t =
      (s.enqueued) := by
  simp only [enqcmd, bind_ok, gate_ok, load_ok, pure_ok, require_ok, Bool.and_eq_true, beq_iff_eq]
  constructor
  · rintro ⟨_, ⟨h1, h2⟩, _, ⟨h3, h4⟩, _, ⟨h5, rfl⟩, _, h6, h⟩
    exact ⟨h1, h2, h3, h4, h5, h6, h⟩
  · rintro ⟨h1, h2, h3, h4, h5, h6, rfl⟩
    exact ⟨(), ⟨h1, h2⟩, (), ⟨h3, h4⟩, _, ⟨h5, rfl⟩, (), h6, rfl⟩

theorem enqcmds_ok {s t : State} (r : RegId) (m : Mem) :
    enqcmds r m s = .ok t ↔
      s.apxEnabled = true ∧
      s.params.features.enqcmd = true ∧
      s.cpl = 0 ∧
      aligned64 (addrReg s m.a32 r) = true ∧
      accessOk s (memAccess s m 64 .read false 1) ∧
      ((memValue s 512 (linAddr s m)) >>> 20).setWidth 11 = (0 : BitVec 11) ∧
      t =
      (s.enqueued) := by
  simp only [enqcmds, bind_ok, gate_ok, load_ok, pure_ok, require_ok, decide_eq_true_eq, beq_iff_eq]
  constructor
  · rintro ⟨_, ⟨h1, h2⟩, _, h3, _, h4, _, ⟨h5, rfl⟩, _, h6, h⟩
    exact ⟨h1, h2, h3, h4, h5, h6, h⟩
  · rintro ⟨h1, h2, h3, h4, h5, h6, rfl⟩
    exact ⟨(), ⟨h1, h2⟩, (), h3, (), h4, _, ⟨h5, rfl⟩, (), h6, rfl⟩

theorem movdiri_ok {s t : State} (N : Nat) (m : Mem) (r : RegId) :
    movdiri N m r s = .ok t ↔
      s.apxEnabled = true ∧
      s.params.features.movdir = true ∧
      dstReady s N (.mem m) ∧
      t =
      (putDst s N (.mem m) (s.readGpr N r)) := by
  simp only [movdiri, bind_ok, gate_ok, writeDst_ok]
  simp [and_assoc]

theorem movdir64b_ok {s t : State} (r : RegId) (m : Mem) :
    movdir64b r m s = .ok t ↔
      s.apxEnabled = true ∧
      s.params.features.movdir = true ∧
      aligned64 (addrReg s m.a32 r) = true ∧
      accessOk s (memAccess s m 64 .read true 1) ∧
      accessOk s (movdir64bAccess s m.a32 r) ∧
      t =
      (s.poke (addrReg s m.a32 r) 64 (memValue s 512 (linAddr s m)).toNat) := by
  simp only [movdir64b, bind_ok, gate_ok, load_ok, store_ok, require_ok]
  simp [and_assoc, memValue, memAccess, movdir64bAccess, aligned64]

theorem move_ok {s t : State} (N : Nat) (d : Dst) (x : Src) :
    move N d x s = .ok t ↔
      s.apxEnabled = true ∧
      srcReady s N x ∧
      dstReady s N d ∧
      t =
      (putDst s N d (srcValue s N x)) := by
  simp only [move, bind_ok, gate_ok, readSrc_ok, writeDst_ok]
  simp [and_assoc]

theorem lea_ok {s t : State} (N : Nat) (reg : RegId) (m : Mem) :
    lea N reg m s = .ok t ↔
      s.apxEnabled = true ∧
      t =
      (s.writeGpr N reg ((effAddr s m).setWidth N) false) := by
  simp only [lea, bind_ok, gate_ok, pure_ok]
  simp [and_assoc]

theorem moveExtend_ok {s t : State} (N M : Nat) (sg : Bool) (reg : RegId) (x : Src) :
    moveExtend N M sg reg x s = .ok t ↔
      s.apxEnabled = true ∧
      srcReady s M x ∧
      t =
      (s.writeGpr N reg (if sg then (srcValue s M x).signExtend N else (srcValue s M x).setWidth N) false) := by
  simp only [moveExtend, bind_ok, gate_ok, readSrc_ok, pure_ok]
  simp [and_assoc]

theorem push_ok {s t : State} (x : Src) :
    push x s = .ok t ↔
      s.apxEnabled = true ∧
      srcReady s 64 x ∧
      accessOk s (stackAccess (s.rsp - 8) 8 .write true) ∧
      t =
      ((s.poke (s.rsp - 8) 8 (srcValue s 64 x).toNat).setGpr 4 (s.rsp - 8)) := by
  simp only [push, bind_ok, gate_ok, readSrc_ok, store_ok, pure_ok]
  simp [and_assoc, stackAccess]

theorem pop_ok {s t : State} (d : Dst) :
    pop d s = .ok t ↔
      s.apxEnabled = true ∧
      accessOk s (stackAccess s.rsp 8 .read true) ∧
      dstReady (s.setGpr 4 (s.rsp + 8)) 64 d ∧
      t =
      (putDst (s.setGpr 4 (s.rsp + 8)) 64 d (memValue s 64 s.rsp)) := by
  simp only [pop, bind_ok, gate_ok, writeDst_ok, load_ok]
  simp [and_assoc, memValue, stackAccess]

theorem push2_ok {s t : State} (v b : RegId) :
    push2 v b s = .ok t ↔
      s.apxEnabled = true ∧
      v ≠ 4 ∧
      b ≠ 4 ∧
      s.rsp.toNat % 16 = 0 ∧
      accessOk s (stackAccess (s.rsp - 16) 16 .write false) ∧
      t =
      (((s.poke (s.rsp - 8) 8 (s.getGpr v).toNat).poke (s.rsp - 16) 8 (s.getGpr b).toNat).setGpr 4 (s.rsp - 16)) := by
  simp only [push2, bind_ok, gate_ok, pure_ok, require_ok, checkAccess_ok]
  simp [and_assoc, stackAccess]

theorem pop2_ok {s t : State} (v b : RegId) :
    pop2 v b s = .ok t ↔
      s.apxEnabled = true ∧
      v ≠ 4 ∧
      b ≠ 4 ∧
      v ≠ b ∧
      s.rsp.toNat % 16 = 0 ∧
      accessOk s (stackAccess s.rsp 16 .read false) ∧
      t =
      (((s.setGpr v (memValue s 64 s.rsp)).setGpr b (memValue s 64 (s.rsp + 8))).setGpr 4 (s.rsp + 16)) := by
  simp only [pop2, bind_ok, gate_ok, pure_ok, require_ok, checkAccess_ok]
  simp [and_assoc, memValue, stackAccess]

theorem jumpAbs_ok {s t : State} (target : Word) :
    jumpAbs target s = .ok t ↔
      s.apxEnabled = true ∧
      canonical s.params.laWidth target = true ∧
      t =
      ({ s with rip := target, ripWrapped := false }) := by
  simp only [jumpAbs, bind_ok, gate_ok, pure_ok, require_ok]
  simp [and_assoc]

/-! ### Tiles -/

theorem rowsReady_succ {s : State} {m : Mem} {c : Nat} {kind : AccessKind} {i n : Nat} :
    rowsReady s m c kind i (n + 1) ↔ accessOk s (tileRowAccess s m c kind i) ∧ rowsReady s m c kind (i + 1) n := by
  constructor
  · intro h
    refine ⟨by simpa using h 0 (by omega), fun j hj => ?_⟩
    have := h (j + 1) (by omega)
    rwa [Nat.add_comm j 1, ← Nat.add_assoc] at this
  · rintro ⟨h0, h⟩ j hj
    cases j with
    | zero => simpa using h0
    | succ j =>
      have := h j (by omega)
      rwa [Nat.add_assoc, Nat.add_comm 1 j] at this

theorem readRows_ok {s : State} {m : Mem} {c i n : Nat} {rows : List (List Byte)} :
    readRows s m c i n = .ok rows ↔ rowsReady s m c .read i n ∧ rows = tileRows s m c i n := by
  induction n generalizing i rows with
  | zero =>
    simp only [readRows, pure_ok, tileRows]
    exact ⟨fun h => ⟨fun _ hj => absurd hj (Nat.not_lt_zero _), h⟩, fun h => h.2⟩
  | succ n ih =>
    simp only [readRows, bind_ok, checkAccess_ok, pure_ok, ih, rowsReady_succ, tileRows]
    constructor
    · rintro ⟨_, h1, _, ⟨h2, rfl⟩, h3⟩
      exact ⟨⟨h1, h2⟩, h3⟩
    · rintro ⟨⟨h1, h2⟩, rfl⟩
      exact ⟨(), h1, _, ⟨h2, rfl⟩, rfl⟩

theorem checkRows_ok {s : State} {m : Mem} {c i n : Nat} {u : Unit} :
    checkRows s m c i n = .ok u ↔ rowsReady s m c .write i n := by
  induction n generalizing i with
  | zero =>
    simp only [checkRows, pure_ok]
    exact ⟨fun _ _ hj => absurd hj (Nat.not_lt_zero _), fun _ => trivial⟩
  | succ n ih =>
    simp only [checkRows, bind_ok, checkAccess_ok, ih, rowsReady_succ]
    exact ⟨fun ⟨_, h⟩ => h, fun h => ⟨(), h⟩⟩

theorem tileGate_ok {s : State} {k : ShortId} {m : Mem} {u : Unit} :
    tileGate s k m = .ok u ↔ s.apxEnabled = true ∧ tileReady s k ∧ hasSib m.form = true := by
  simp only [tileGate, gate_ok, tileReady, Bool.and_eq_true]
  tauto

theorem tileLoad_ok {s t : State} {k : ShortId} {m : Mem} :
    tileLoad k m s = .ok t ↔
      s.apxEnabled = true ∧ (tileReady s k ∧ hasSib m.form = true) ∧
        rowsReady s m (s.tileShape k.id).colsb .read 0 (s.tileShape k.id).rows ∧
        t = { s with tile := { s.tile with
          contents := Config.tileLoad s.tile.contents k.id.toNat
            (tileRows s m (s.tileShape k.id).colsb 0 (s.tileShape k.id).rows) } } := by
  simp only [tileLoad, bind_ok, tileGate_ok, readRows_ok, pure_ok]
  constructor
  · rintro ⟨_, ⟨h1, h2⟩, _, ⟨h3, rfl⟩, h⟩
    exact ⟨h1, h2, h3, h⟩
  · rintro ⟨h1, h2, h3, rfl⟩
    exact ⟨(), ⟨h1, h2⟩, _, ⟨h3, rfl⟩, rfl⟩

theorem tileStore_ok {s t : State} {k : ShortId} {m : Mem} :
    tileStore m k s = .ok t ↔
      s.apxEnabled = true ∧ (tileReady s k ∧ hasSib m.form = true) ∧
        rowsReady s m (s.tileShape k.id).colsb .write 0 (s.tileShape k.id).rows ∧
        t = { s with mem := writeRows s m k.id (s.tileShape k.id).colsb 0 s.mem (s.tileShape k.id).rows } := by
  simp only [tileStore, bind_ok, tileGate_ok, checkRows_ok, pure_ok]
  constructor
  · rintro ⟨_, ⟨h1, h2⟩, _, h3, h⟩
    exact ⟨h1, h2, h3, h⟩
  · rintro ⟨h1, h2, h3, rfl⟩
    exact ⟨(), ⟨h1, h2⟩, (), h3, rfl⟩

end Sys2Proof.Machine
end

