-- ==== Sys2Proof/Tests/Slice0.lean ====
section
/-! SUPPORT. Tests of the model: ill-formed terms, decoded words of every opcode-table row, single steps with results
from 95_test_vectors.md, and a witness for the hypotheses of every statement. -/
namespace Sys2Proof.Tests
set_option Elab.async false
open Sys2Proof.Machine

/-! ### WellFormed refuses what no encoding expresses -/

/-- `[r18]`. -/
def mBase : Mem := ⟨none, false, .base 18 .none⟩

/-- `[r18]` written with a SIB byte. -/
def mSib : Mem := ⟨none, false, .sib 18 none .none⟩

/-- 30_encoding.md R153. -/
theorem test_wf_refuses_base_without_disp : Instr.wf (.addRmR .o64 (.mem ⟨none, false, .base 5 .none⟩) 0 none false) = false := by decide
/-- 30_encoding.md R153. -/
theorem test_wf_refuses_egpr_base_without_disp : Instr.wf (.negRm .o64 (.mem ⟨none, false, .base 21 .none⟩) none false) = false := by decide
/-- 30_encoding.md R153. -/
theorem test_wf_refuses_base_that_needs_sib : Instr.wf (.rex2MovRRm .o64 0 (.mem ⟨none, false, .base 20 (.d8 0)⟩)) = false := by decide
/-- 30_encoding.md R154. -/
theorem test_wf_refuses_sib_base_without_disp : Instr.wf (.invept 0 ⟨none, false, .sib 13 none .none⟩) = false := by decide
/-- 30_encoding.md R154. -/
theorem test_wf_refuses_rsp_as_index : Instr.wf (.rex2Lea .o64 0 ⟨none, false, .sib 18 (some ⟨4, 0⟩) .none⟩) = false := by decide
/-- 30_encoding.md R154. -/
theorem test_wf_refuses_rsp_as_index_without_base : Instr.wf (.kmovqMK ⟨none, false, .sibNoBase (some ⟨4, 3⟩) 0⟩ ⟨1, false⟩) = false := by decide
/-- 30_encoding.md R153. -/
theorem test_wf_refuses_xmm_memory : Instr.wf (.sha1msg1 0 (.mem ⟨none, false, .base 4 .none⟩)) = false := by decide
/-- 30_encoding.md R153. -/
theorem test_wf_refuses_mask_memory : Instr.wf (.kmovbKKm ⟨0, false⟩ (.mem ⟨none, false, .base 5 .none⟩)) = false := by decide
/-- 30_encoding.md R157. -/
theorem test_wf_refuses_tile_without_sib : Instr.wf (.tileloadd ⟨0, false⟩ mBase) = false := by decide
/-- 30_encoding.md R157. -/
theorem test_wf_refuses_tile_rip_relative : Instr.wf (.tilestored ⟨none, false, .ripRel 0⟩ ⟨0, false⟩) = false := by decide
/-- The same operands in expressible forms. -/
theorem test_wf_accepts : Instr.wf (.addRmR .o64 (.mem ⟨none, false, .base 5 (.d8 0)⟩) 0 none false) = true ∧
    Instr.wf (.rex2Lea .o64 0 ⟨none, false, .sib 18 (some ⟨20, 0⟩) .none⟩) = true ∧
    Instr.wf (.tileloadd ⟨0, false⟩ mSib) = true := by decide

/-! ### Decoding: one word for every row of the opcode table

The bytes are assembled from the row's `encoding` pattern and the rules 30_encoding.md R103, R113 to R116, R153, R154 and
R160, not with the model's encoder. -/

theorem test_decode_arithmetic1 :
    decode [0x62, 0xC4, 0x7C, 0x08, 0x10, 0x4B, 0x70] =
      .ok (.adcRmR .o8 (.mem ⟨none, false, .base 11 (.d8 0x70)⟩) 17 none) [] ∧
    decode [0x62, 0xD4, 0xD4, 0x18, 0x11, 0xD4] = .ok (.adcRmR .o64 (.reg 12) 2 (some 5)) [] ∧
    decode [0x62, 0x04, 0x7C, 0x08, 0x12, 0x34, 0x8C] =
      .ok (.adcRRm .o8 30 (.mem ⟨none, false, .sib 12 (some ⟨9, 2⟩) .none⟩) none) [] ∧
    decode [0x62, 0x7C, 0x74, 0x10, 0x13, 0xCB] = .ok (.adcRRm .o32 9 (.reg 19) (some 17)) [] ∧
    decode [0x62, 0xD4, 0x7C, 0x08, 0x80, 0x53, 0x74, 0x85] =
      .ok (.adcRmImm (.mem ⟨none, false, .base 11 (.d8 0x74)⟩) (.i8 0x85) none) [] ∧
    decode [0x62, 0xF4, 0x0D, 0x10, 0x81, 0xD2, 0x26, 0x43] = .ok (.adcRmImm (.reg 2) (.i16 0x4326) (some 30)) [] ∧
    decode [0x62, 0xD4, 0x7C, 0x08, 0x83, 0x53, 0x76, 0x96] =
      .ok (.adcRmI8 .o32 (.mem ⟨none, false, .base 11 (.d8 0x76)⟩) 0x96 none) [] ∧
    decode [0x62, 0xC4, 0xBD, 0x10, 0x66, 0xD9] = .ok (.adcx .y64 19 (.reg 9) (some 24)) [] ∧
    decode [0x62, 0xC4, 0x7C, 0x08, 0x00, 0x0C, 0x11] =
      .ok (.addRmR .o8 (.mem ⟨none, false, .sib 9 (some ⟨2, 0⟩) .none⟩) 17 none false) [] ∧
    decode [0x62, 0xD4, 0x54, 0x18, 0x01, 0xD4] = .ok (.addRmR .o32 (.reg 12) 2 (some 5) false) [] ∧
    decode [0x62, 0x44, 0x7C, 0x0C, 0x02, 0x73, 0x7A] =
      .ok (.addRRm .o8 30 (.mem ⟨none, false, .base 11 (.d8 0x7A)⟩) none true) [] ∧
    decode [0x62, 0x7C, 0x75, 0x14, 0x03, 0xCB] = .ok (.addRRm .o16 9 (.reg 19) (some 17) true) [] ∧
    decode [0x62, 0xD4, 0x7C, 0x08, 0x80, 0x43, 0x7C, 0x8D] =
      .ok (.addRmImm (.mem ⟨none, false, .base 11 (.d8 0x7C)⟩) (.i8 0x8D) none false) [] ∧
    decode [0x62, 0xF4, 0x8C, 0x10, 0x81, 0xC2, 0x2E, 0x43, 0x65, 0x87] =
      .ok (.addRmImm (.reg 2) (.i64 0x8765432E) (some 30) false) [] ∧
    decode [0x62, 0xF4, 0x79, 0x0C, 0x83, 0x04, 0x9A, 0x9E] =
      .ok (.addRmI8 .o16 (.mem ⟨none, false, .sib 2 (some ⟨19, 2⟩) .none⟩) 0x9E none true) [] ∧
    decode [0x62, 0xC4, 0xBE, 0x10, 0x66, 0xD9] = .ok (.adox .y64 19 (.reg 9) (some 24)) [] ∧
    decode [0x62, 0xC4, 0x7C, 0x08, 0x20, 0x4B, 0x78] =
      .ok (.andRmR .o8 (.mem ⟨none, false, .base 11 (.d8 0x78)⟩) 17 none false) [] ∧
    decode [0x62, 0xD4, 0xD4, 0x18, 0x21, 0xD4] = .ok (.andRmR .o64 (.reg 12) 2 (some 5) false) [] ∧
    decode [0x62, 0x04, 0x7C, 0x0C, 0x22, 0x34, 0x8C] =
      .ok (.andRRm .o8 30 (.mem ⟨none, false, .sib 12 (some ⟨9, 2⟩) .none⟩) none true) [] ∧
    decode [0x62, 0x7C, 0x74, 0x14, 0x23, 0xCB] = .ok (.andRRm .o32 9 (.reg 19) (some 17) true) [] ∧
    decode [0x62, 0xD4, 0x7C, 0x08, 0x80, 0x63, 0x7C, 0x9D] =
      .ok (.andRmImm (.mem ⟨none, false, .base 11 (.d8 0x7C)⟩) (.i8 0x9D) none false) [] ∧
    decode [0x62, 0xF4, 0x0D, 0x10, 0x81, 0xE2, 0x3E, 0x43] =
      .ok (.andRmImm (.reg 2) (.i16 0x433E) (some 30) false) [] ∧
    decode [0x62, 0xD4, 0x7C, 0x0C, 0x83, 0x63, 0x7E, 0xAE] =
      .ok (.andRmI8 .o32 (.mem ⟨none, false, .base 11 (.d8 0x7E)⟩) 0xAE none true) [] ∧
    decode [0x62, 0xD4, 0x54, 0x18, 0xFE, 0xCC] = .ok (.decRm .o8 (.reg 12) (some 5) false) [] := by
  decide

theorem test_decode_crypto :
    decode [0x62, 0x54, 0x7E, 0x08, 0xDD, 0x6B, 0x70] = .ok (.aesdec128kl 13 ⟨none, false, .base 11 (.d8 0x70)⟩) [] ∧
    decode [0x62, 0x1C, 0x7A, 0x08, 0xDF, 0x34, 0x70] =
      .ok (.aesdec256kl 14 ⟨none, false, .sib 24 (some ⟨30, 1⟩) .none⟩) [] ∧
    decode [0x62, 0xD4, 0x7E, 0x08, 0xD8, 0x4B, 0x72] = .ok (.aesdecwide128kl ⟨none, false, .base 11 (.d8 0x72)⟩) [] ∧
    decode [0x62, 0xFC, 0x7E, 0x08, 0xD8, 0x5A, 0x73] = .ok (.aesdecwide256kl ⟨none, false, .base 18 (.d8 0x73)⟩) [] ∧
    decode [0x62, 0x3C, 0x7E, 0x08, 0xDC, 0x1C, 0x23] =
      .ok (.aesenc128kl 11 ⟨none, false, .sib 19 (some ⟨12, 0⟩) .none⟩) [] ∧
    decode [0x62, 0x7C, 0x7E, 0x08, 0xDE, 0x62, 0x75] = .ok (.aesenc256kl 12 ⟨none, false, .base 18 (.d8 0x75)⟩) [] ∧
    decode [0x62, 0xD4, 0x7E, 0x08, 0xD8, 0x43, 0x76] = .ok (.aesencwide128kl ⟨none, false, .base 11 (.d8 0x76)⟩) [] ∧
    decode [0x62, 0xDC, 0x7A, 0x08, 0xD8, 0x14, 0xCE] =
      .ok (.aesencwide256kl ⟨none, false, .sib 30 (some ⟨17, 3⟩) .none⟩) [] ∧
    decode [0x62, 0x7C, 0x7E, 0x08, 0xDA, 0xE3] = .ok (.encodekey128 12 19) [] ∧
    decode [0x62, 0xFC, 0x7E, 0x08, 0xDB, 0xE9] = .ok (.encodekey256 5 17) [] ∧
    decode [0x62, 0x54, 0x7C, 0x08, 0xD9, 0xD2] = .ok (.sha1msg1 10 (.xmm 10)) [] ∧
    decode [0x62, 0x3C, 0x7C, 0x08, 0xDA, 0x1C, 0x23] =
      .ok (.sha1msg2 11 (.mem ⟨none, false, .sib 19 (some ⟨12, 0⟩) .none⟩)) [] ∧
    decode [0x62, 0x54, 0x7C, 0x08, 0xD8, 0xE4] = .ok (.sha1nexte 12 (.xmm 12)) [] ∧
    decode [0x62, 0x54, 0x7C, 0x08, 0xD4, 0x6B, 0x7E, 0x9E] =
      .ok (.sha1rnds4 13 (.mem ⟨none, false, .base 11 (.d8 0x7E)⟩) 0x9E) [] ∧
    decode [0x62, 0x54, 0x7C, 0x08, 0xDC, 0xF6] = .ok (.sha256msg1 14 (.xmm 14)) [] ∧
    decode [0x62, 0x54, 0x7C, 0x08, 0xDD, 0x4B, 0x70] =
      .ok (.sha256msg2 9 (.mem ⟨none, false, .base 11 (.d8 0x70)⟩)) [] ∧
    decode [0x62, 0x54, 0x7C, 0x08, 0xDB, 0xD0] = .ok (.sha256rnds2 10 (.xmm 8)) [] := by
  decide

theorem test_decode_bits :
    decode [0x62, 0xC2, 0x9C, 0x0C, 0xF2, 0xD9] = .ok (.andn .y64 19 12 (.reg 9) true) [] ∧
    decode [0x62, 0xC2, 0x54, 0x08, 0xF7, 0x0C, 0x11] =
      .ok (.bextr .y32 17 (.mem ⟨none, false, .sib 9 (some ⟨2, 0⟩) .none⟩) 5 false) [] ∧
    decode [0x62, 0xD2, 0xE4, 0x00, 0xF3, 0xDC] = .ok (.blsi .y64 19 (.reg 12) false) [] ∧
    decode [0x62, 0xD2, 0x74, 0x04, 0xF3, 0x53, 0x72] =
      .ok (.blsmsk .y32 17 (.mem ⟨none, false, .base 11 (.d8 0x72)⟩) true) [] ∧
    decode [0x62, 0xFA, 0xEC, 0x0C, 0xF3, 0xCB] = .ok (.blsr .y64 2 (.reg 19) true) [] ∧
    decode [0x62, 0x42, 0x0C, 0x00, 0xF5, 0x43, 0x74] =
      .ok (.bzhi .y32 24 (.mem ⟨none, false, .base 11 (.d8 0x74)⟩) 30 false) [] ∧
    decode [0x62, 0xC4, 0xFC, 0x08, 0xF0, 0xD9] = .ok (.crc32Rm8 .y64 19 (.reg 9)) [] ∧
    decode [0x62, 0xC4, 0xFC, 0x08, 0xF1, 0x4B, 0x78] =
      .ok (.crc32Rm .o64 17 (.mem ⟨none, false, .base 11 (.d8 0x78)⟩)) [] ∧
    decode [0x62, 0xD4, 0x7C, 0x0C, 0xF5, 0x6B, 0x7E] =
      .ok (.lzcnt .o32 5 (.mem ⟨none, false, .base 11 (.d8 0x7E)⟩) true) [] ∧
    decode [0x62, 0xC4, 0xFC, 0x08, 0x60, 0xD9] = .ok (.movbeRRm .o64 19 (.reg 9)) [] ∧
    decode [0x62, 0xC4, 0x7D, 0x08, 0x61, 0x0C, 0x11] =
      .ok (.movbeRmR .o16 (.mem ⟨none, false, .sib 9 (some ⟨2, 0⟩) .none⟩) 17) [] ∧
    decode [0x62, 0xD2, 0xE7, 0x00, 0xF5, 0xD4] = .ok (.pdep .y64 2 19 (.reg 12)) [] ∧
    decode [0x62, 0x02, 0x76, 0x00, 0xF5, 0x34, 0x8C] =
      .ok (.pext .y32 30 17 (.mem ⟨none, false, .sib 12 (some ⟨9, 2⟩) .none⟩)) [] ∧
    decode [0x62, 0x7C, 0x7C, 0x0C, 0x88, 0xCB] = .ok (.popcnt .o32 9 (.reg 19) true) [] ∧
    decode [0x62, 0x43, 0x7F, 0x08, 0xF0, 0x43, 0x7C, 0xCC] =
      .ok (.rorx .y32 24 (.mem ⟨none, false, .base 11 (.d8 0x7C)⟩) 0xCC) [] ∧
    decode [0x62, 0x7A, 0xEE, 0x08, 0xF7, 0xCB] = .ok (.sarx .y64 9 (.reg 19) 2) [] ∧
    decode [0x62, 0xC2, 0x55, 0x08, 0xF7, 0x4B, 0x70] =
      .ok (.shlx .y32 17 (.mem ⟨none, false, .base 11 (.d8 0x70)⟩) 5) [] ∧
    decode [0x62, 0xD2, 0xE7, 0x00, 0xF7, 0xD4] = .ok (.shrx .y64 2 (.reg 12) 19) [] ∧
    decode [0x62, 0x74, 0xFC, 0x08, 0xF4, 0xE2] = .ok (.tzcnt .o64 12 (.reg 2) false) [] := by
  decide

theorem test_decode_conditional :
    decode [0x62, 0x74, 0xB4, 0x18, 0x45, 0xE2] = .ok (.cmov .nz .o64 9 12 (.reg 2)) [] ∧
    decode [0x62, 0xF2, 0x39, 0x00, 0xE6, 0x2C, 0x9A] =
      .ok (.cmpccxadd .be .y32 ⟨none, false, .sib 2 (some ⟨19, 2⟩) .none⟩ 5 24) [] ∧
    decode [0x62, 0xD4, 0x64, 0x08, 0x38, 0xD4] = .ok (.ccmpRmR .s ⟨true, true, false, false⟩ .o8 (.reg 12) 2) [] ∧
    decode [0x62, 0x04, 0x7D, 0x0D, 0x39, 0x34, 0x8C] =
      .ok (.ccmpRmR .nl ⟨true, true, true, true⟩ .o16 (.mem ⟨none, false, .sib 12 (some ⟨9, 2⟩) .none⟩) 30) [] ∧
    decode [0x62, 0x7C, 0x14, 0x02, 0x3A, 0xCB] = .ok (.ccmpRRm .b ⟨false, false, true, false⟩ .o8 9 (.reg 19)) [] ∧
    decode [0x62, 0x44, 0xAC, 0x07, 0x3B, 0x43, 0x74] =
      .ok (.ccmpRRm .nbe ⟨false, true, false, true⟩ .o64 24 (.mem ⟨none, false, .base 11 (.d8 0x74)⟩)) [] ∧
    decode [0x62, 0xF4, 0x44, 0x0C, 0x80, 0xFA, 0x86] =
      .ok (.ccmpRmImm .l ⟨true, false, false, false⟩ (.reg 2) (.i8 0x86)) [] ∧
    decode [0x62, 0xD4, 0x5C, 0x01, 0x81, 0x7B, 0x76, 0x27, 0x43, 0x65, 0x87] =
      .ok (.ccmpRmImm .no ⟨true, false, true, true⟩ (.mem ⟨none, false, .base 11 (.d8 0x76)⟩) (.i32 0x87654327)) [] ∧
    decode [0x62, 0xD4, 0xF4, 0x06, 0x83, 0xF9, 0x97] =
      .ok (.ccmpRmI8 .be ⟨true, true, true, false⟩ .o64 (.reg 9) 0x97) [] ∧
    decode [0x62, 0xC4, 0x7D, 0x08, 0x48, 0x0C, 0x11] =
      .ok (.cfcmovLoad .s .o16 17 (.mem ⟨none, false, .sib 9 (some ⟨2, 0⟩) .none⟩)) [] ∧
    decode [0x62, 0xD4, 0x7C, 0x0C, 0x49, 0xD1] = .ok (.cfcmovReg .ns .o32 9 2) [] ∧
    decode [0x62, 0x44, 0xFC, 0x0C, 0x4A, 0x73, 0x7A] =
      .ok (.cfcmovStore .p .o64 ⟨none, false, .base 11 (.d8 0x7A)⟩ 30) [] ∧
    decode [0x62, 0x7C, 0x6D, 0x1C, 0x4B, 0xCB] = .ok (.cfcmovNdd .np .o16 2 9 (.reg 19)) [] ∧
    decode [0x62, 0x44, 0x6C, 0x0F, 0x84, 0x43, 0x7C] =
      .ok (.ctestRmR .nle ⟨true, true, false, true⟩ .o8 (.mem ⟨none, false, .base 11 (.d8 0x7C)⟩) 24) [] ∧
    decode [0x62, 0x74, 0x84, 0x04, 0x85, 0xE2] = .ok (.ctestRmR .z ⟨false, false, false, false⟩ .o64 (.reg 2) 12) [] ∧
    decode [0x62, 0xF4, 0x18, 0x09, 0xF6, 0x04, 0x9A, 0x8F] =
      .ok (.ctestRmImm .ns ⟨false, false, true, true⟩ false (.mem ⟨none, false, .sib 2 (some ⟨19, 2⟩) .none⟩) (.i8 0x8F)) [] ∧
    decode [0x62, 0xD4, 0x34, 0x0E, 0xF6, 0xC9, 0x90] =
      .ok (.ctestRmImm .le ⟨false, true, true, false⟩ true (.reg 9) (.i8 0x90)) [] ∧
    decode [0x62, 0xD4, 0xCC, 0x03, 0xF7, 0x43, 0x70, 0x31, 0x43, 0x65, 0x87] =
      .ok (.ctestRmImm .nb ⟨true, false, false, true⟩ false (.mem ⟨none, false, .base 11 (.d8 0x70)⟩) (.i64 0x87654331)) [] ∧
    decode [0x62, 0xD4, 0x65, 0x08, 0xF7, 0xCC, 0x32, 0x43] =
      .ok (.ctestRmImm .s ⟨true, true, false, false⟩ true (.reg 12) (.i16 0x4332)) [] ∧
    decode [0x62, 0xD4, 0x7F, 0x08, 0x42, 0x43, 0x72] =
      .ok (.setcc .b (.mem ⟨none, false, .base 11 (.d8 0x72)⟩) false) [] := by
  decide

theorem test_decode_arithmetic2 :
    decode [0x62, 0xD4, 0x7C, 0x0C, 0xFF, 0x4B, 0x7A] =
      .ok (.decRm .o32 (.mem ⟨none, false, .base 11 (.d8 0x7A)⟩) none true) [] ∧
    decode [0x62, 0xD4, 0x7C, 0x08, 0xFE, 0x04, 0x11] =
      .ok (.incRm .o8 (.mem ⟨none, false, .sib 9 (some ⟨2, 0⟩) .none⟩) none false) [] ∧
    decode [0x62, 0xD4, 0x54, 0x18, 0xFF, 0xC4] = .ok (.incRm .o32 (.reg 12) (some 5) false) [] ∧
    decode [0x62, 0xF4, 0x78, 0x0C, 0xF6, 0x1C, 0x9A] =
      .ok (.negRm .o8 (.mem ⟨none, false, .sib 2 (some ⟨19, 2⟩) .none⟩) none true) [] ∧
    decode [0x62, 0xD4, 0x3C, 0x14, 0xF7, 0xD9] = .ok (.negRm .o32 (.reg 9) (some 24) true) [] ∧
    decode [0x62, 0xD4, 0x7C, 0x08, 0xF6, 0x53, 0x78] =
      .ok (.notRm .o8 (.mem ⟨none, false, .base 11 (.d8 0x78)⟩) none) [] ∧
    decode [0x62, 0xD4, 0x55, 0x18, 0xF7, 0xD4] = .ok (.notRm .o16 (.reg 12) (some 5)) [] ∧
    decode [0x62, 0x44, 0x7C, 0x0C, 0x0A, 0x73, 0x7A] =
      .ok (.orRRm .o8 30 (.mem ⟨none, false, .base 11 (.d8 0x7A)⟩) none true) [] ∧
    decode [0x62, 0x7C, 0xF4, 0x14, 0x0B, 0xCB] = .ok (.orRRm .o64 9 (.reg 19) (some 17) true) [] ∧
    decode [0x62, 0x2C, 0x7C, 0x08, 0x08, 0x04, 0x23] =
      .ok (.orRmR .o8 (.mem ⟨none, false, .sib 19 (some ⟨12, 0⟩) .none⟩) 24 none false) [] ∧
    decode [0x62, 0xF4, 0x0C, 0x10, 0x80, 0xCA, 0x9E] = .ok (.orRmImm (.reg 2) (.i8 0x9E) (some 30) false) [] ∧
    decode [0x62, 0xD4, 0xFC, 0x0C, 0x81, 0x4B, 0x7E, 0x3F, 0x43, 0x65, 0x87] =
      .ok (.orRmImm (.mem ⟨none, false, .base 11 (.d8 0x7E)⟩) (.i64 0x8765433F) none true) [] ∧
    decode [0x62, 0xD4, 0x3D, 0x14, 0x83, 0xC9, 0xAF] = .ok (.orRmI8 .o16 (.reg 9) 0xAF (some 24) true) [] ∧
    decode [0x62, 0xC4, 0x7C, 0x08, 0x09, 0x4B, 0x70] =
      .ok (.orRmR .o32 (.mem ⟨none, false, .base 11 (.d8 0x70)⟩) 17 none false) [] ∧
    decode [0x62, 0x44, 0x7C, 0x08, 0x18, 0x43, 0x74] =
      .ok (.sbbRmR .o8 (.mem ⟨none, false, .base 11 (.d8 0x74)⟩) 24 none) [] ∧
    decode [0x62, 0x74, 0x8C, 0x10, 0x19, 0xE2] = .ok (.sbbRmR .o64 (.reg 2) 12 (some 30)) [] ∧
    decode [0x62, 0xF4, 0x78, 0x08, 0x1A, 0x2C, 0x9A] =
      .ok (.sbbRRm .o8 5 (.mem ⟨none, false, .sib 2 (some ⟨19, 2⟩) .none⟩) none) [] ∧
    decode [0x62, 0xC4, 0x3C, 0x10, 0x1B, 0xD9] = .ok (.sbbRRm .o32 19 (.reg 9) (some 24)) [] ∧
    decode [0x62, 0xD4, 0x7C, 0x08, 0x80, 0x5B, 0x78, 0x89] =
      .ok (.sbbRmImm (.mem ⟨none, false, .base 11 (.d8 0x78)⟩) (.i8 0x89) none) [] ∧
    decode [0x62, 0xD4, 0x55, 0x18, 0x81, 0xDC, 0x2A, 0x43] = .ok (.sbbRmImm (.reg 12) (.i16 0x432A) (some 5)) [] ∧
    decode [0x62, 0xD4, 0x7C, 0x08, 0x83, 0x5B, 0x7A, 0x9A] =
      .ok (.sbbRmI8 .o32 (.mem ⟨none, false, .base 11 (.d8 0x7A)⟩) 0x9A none) [] ∧
    decode [0x62, 0x7C, 0x74, 0x14, 0x28, 0xCB] = .ok (.subRmR .o8 (.reg 19) 9 (some 17) true) [] ∧
    decode [0x62, 0x44, 0xFC, 0x08, 0x29, 0x43, 0x7C] =
      .ok (.subRmR .o64 (.mem ⟨none, false, .base 11 (.d8 0x7C)⟩) 24 none false) [] ∧
    decode [0x62, 0x74, 0x0C, 0x10, 0x2A, 0xE2] = .ok (.subRRm .o8 12 (.reg 2) (some 30) false) [] := by
  decide

theorem test_decode_muldiv :
    decode [0x62, 0xFC, 0x7C, 0x0C, 0xF6, 0xF3] = .ok (.divRm .o8 (.reg 19) true) [] ∧
    decode [0x62, 0xBC, 0x7D, 0x08, 0xF7, 0x34, 0x23] =
      .ok (.divRm .o16 (.mem ⟨none, false, .sib 19 (some ⟨12, 0⟩) .none⟩) false) [] ∧
    decode [0x62, 0xD4, 0x7C, 0x08, 0xF6, 0xFC] = .ok (.idivRm .o8 (.reg 12) false) [] ∧
    decode [0x62, 0x94, 0x7D, 0x0C, 0xF7, 0x3C, 0x8C] =
      .ok (.idivRm .o16 (.mem ⟨none, false, .sib 12 (some ⟨9, 2⟩) .none⟩) true) [] ∧
    decode [0x62, 0x7C, 0x7C, 0x1C, 0x69, 0xCB, 0x54, 0x43, 0x65, 0x87] =
      .ok (.imulRRmIz 9 (.reg 19) (.i32 0x87654354) true true) [] ∧
    decode [0x62, 0x44, 0xFC, 0x08, 0x6B, 0x43, 0x74, 0xC4] =
      .ok (.imulRRmI8 .o64 24 (.mem ⟨none, false, .base 11 (.d8 0x74)⟩) 0xC4 false false) [] ∧
    decode [0x62, 0x74, 0x0D, 0x10, 0xAF, 0xE2] = .ok (.imulRRm .o16 12 (.reg 2) (some 30) false) [] ∧
    decode [0x62, 0xD4, 0x7C, 0x0C, 0xF6, 0x6B, 0x76] =
      .ok (.imulRm .o8 (.mem ⟨none, false, .base 11 (.d8 0x76)⟩) true) [] ∧
    decode [0x62, 0xD4, 0xFC, 0x0C, 0xF7, 0xE9] = .ok (.imulRm .o64 (.reg 9) true) [] ∧
    decode [0x62, 0xFC, 0x7C, 0x0C, 0xF6, 0xE3] = .ok (.mulRm .o8 (.reg 19) true) [] ∧
    decode [0x62, 0xD4, 0x7C, 0x08, 0xF7, 0x63, 0x74] =
      .ok (.mulRm .o32 (.mem ⟨none, false, .base 11 (.d8 0x74)⟩) false) [] ∧
    decode [0x62, 0x72, 0xB7, 0x08, 0xF6, 0xE2] = .ok (.mulx .y64 12 9 (.reg 2)) [] := by
  decide

theorem test_decode_system :
    decode [0x62, 0xCC, 0x7B, 0x08, 0xF8, 0x1C, 0xCE] =
      .ok (.enqcmd 19 ⟨none, false, .sib 30 (some ⟨17, 3⟩) .none⟩) [] ∧
    decode [0x62, 0xC4, 0x7E, 0x08, 0xF8, 0x4B, 0x70] = .ok (.enqcmds 17 ⟨none, false, .base 11 (.d8 0x70)⟩) [] ∧
    decode [0x62, 0x44, 0x7E, 0x08, 0xF0, 0x73, 0x7A] = .ok (.invept 30 ⟨none, false, .base 11 (.d8 0x7A)⟩) [] ∧
    decode [0x62, 0x3C, 0x7A, 0x08, 0xF2, 0x0C, 0xC2] =
      .ok (.invpcid 9 ⟨none, false, .sib 18 (some ⟨24, 3⟩) .none⟩) [] ∧
    decode [0x62, 0x44, 0x7E, 0x08, 0xF1, 0x43, 0x7C] = .ok (.invvpid 24 ⟨none, false, .base 11 (.d8 0x7C)⟩) [] ∧
    decode [0x62, 0xFC, 0x7D, 0x08, 0xF8, 0x52, 0x71] = .ok (.movdir64b 2 ⟨none, false, .base 18 (.d8 0x71)⟩) [] ∧
    decode [0x62, 0x44, 0x7C, 0x08, 0xF9, 0x73, 0x72] = .ok (.movdiri .y32 ⟨none, false, .base 11 (.d8 0x72)⟩ 30) [] ∧
    decode [0x62, 0xF4, 0x78, 0x08, 0x66, 0x2C, 0x9A] = .ok (.wrssd ⟨none, false, .sib 2 (some ⟨19, 2⟩) .none⟩ 5) [] ∧
    decode [0x62, 0xEC, 0xFC, 0x08, 0x66, 0x5A, 0x77] = .ok (.wrssq ⟨none, false, .base 18 (.d8 0x77)⟩ 19) [] ∧
    decode [0x62, 0xC4, 0x7D, 0x08, 0x65, 0x4B, 0x78] = .ok (.wrussd ⟨none, false, .base 11 (.d8 0x78)⟩ 17) [] ∧
    decode [0x62, 0x9C, 0xF9, 0x08, 0x65, 0x14, 0x70] = .ok (.wrussq ⟨none, false, .sib 24 (some ⟨30, 1⟩) .none⟩ 2) [] := by
  decide

theorem test_decode_mask :
    decode [0x62, 0xF1, 0x7D, 0x08, 0x90, 0xF2] = .ok (.kmovbKKm ⟨6, false⟩ (.k ⟨2, false⟩)) [] ∧
    decode [0x62, 0xF9, 0x7D, 0x08, 0x92, 0xF9] = .ok (.kmovbKR ⟨7, false⟩ 17) [] ∧
    decode [0x62, 0xE1, 0x7D, 0x08, 0x93, 0xD9] = .ok (.kmovbRK 19 ⟨1, false⟩) [] ∧
    decode [0x62, 0xD1, 0x7D, 0x08, 0x91, 0x53, 0x70] =
      .ok (.kmovbMK ⟨none, false, .base 11 (.d8 0x70)⟩ ⟨2, false⟩) [] ∧
    decode [0x62, 0xF1, 0x7F, 0x08, 0x93, 0xD3] = .ok (.kmovdRK 2 ⟨3, false⟩) [] ∧
    decode [0x62, 0xD1, 0xFD, 0x08, 0x90, 0x63, 0x72] =
      .ok (.kmovdKKm ⟨4, false⟩ (.mem ⟨none, false, .base 11 (.d8 0x72)⟩)) [] ∧
    decode [0x62, 0xD1, 0x7F, 0x08, 0x92, 0xEC] = .ok (.kmovdKR ⟨5, false⟩ 12) [] ∧
    decode [0x62, 0xB9, 0xFD, 0x08, 0x91, 0x34, 0x23] =
      .ok (.kmovdMK ⟨none, false, .sib 19 (some ⟨12, 0⟩) .none⟩ ⟨6, false⟩) [] ∧
    decode [0x62, 0xF1, 0xFC, 0x08, 0x90, 0xFC] = .ok (.kmovqKKm ⟨7, false⟩ (.k ⟨4, false⟩)) [] ∧
    decode [0x62, 0xF9, 0xFF, 0x08, 0x92, 0xC9] = .ok (.kmovqKR ⟨1, false⟩ 17) [] ∧
    decode [0x62, 0xE1, 0xFF, 0x08, 0x93, 0xDA] = .ok (.kmovqRK 19 ⟨2, false⟩) [] ∧
    decode [0x62, 0xD1, 0xFC, 0x08, 0x91, 0x5B, 0x78] =
      .ok (.kmovqMK ⟨none, false, .base 11 (.d8 0x78)⟩ ⟨3, false⟩) [] ∧
    decode [0x62, 0xF1, 0x7C, 0x08, 0x90, 0xE2] = .ok (.kmovwKKm ⟨4, false⟩ (.k ⟨2, false⟩)) [] ∧
    decode [0x62, 0xD9, 0x7C, 0x08, 0x92, 0xE8] = .ok (.kmovwKR ⟨5, false⟩ 24) [] ∧
    decode [0x62, 0x71, 0x7C, 0x08, 0x93, 0xCE] = .ok (.kmovwRK 9 ⟨6, false⟩) [] ∧
    decode [0x62, 0xD1, 0x7C, 0x08, 0x91, 0x7B, 0x7C] =
      .ok (.kmovwMK ⟨none, false, .base 11 (.d8 0x7C)⟩ ⟨7, false⟩) [] := by
  decide

theorem test_decode_tile :
    decode [0x62, 0xFA, 0x7C, 0x08, 0x49, 0x04, 0x69] = .ok (.ldtilecfg ⟨none, false, .sib 17 (some ⟨5, 1⟩) .none⟩) [] ∧
    decode [0x62, 0x92, 0x7D, 0x08, 0x49, 0x04, 0x8C] = .ok (.sttilecfg ⟨none, false, .sib 12 (some ⟨9, 2⟩) .none⟩) [] ∧
    decode [0x62, 0x92, 0x7F, 0x08, 0x4B, 0x24, 0x8C] =
      .ok (.tileloadd ⟨4, false⟩ ⟨none, false, .sib 12 (some ⟨9, 2⟩) .none⟩) [] ∧
    decode [0x62, 0xBA, 0x79, 0x08, 0x4B, 0x2C, 0xC2] =
      .ok (.tileloaddt1 ⟨5, false⟩ ⟨none, false, .sib 18 (some ⟨24, 3⟩) .none⟩) [] ∧
    decode [0x62, 0xBA, 0x7E, 0x08, 0x4B, 0x34, 0x23] =
      .ok (.tilestored ⟨none, false, .sib 19 (some ⟨12, 0⟩) .none⟩ ⟨6, false⟩) [] := by
  decide

theorem test_decode_shift1 :
    decode [0x62, 0xD4, 0x7C, 0x08, 0xC0, 0x53, 0x74, 0xB4] =
      .ok (.rclRmI8 .o8 (.mem ⟨none, false, .base 11 (.d8 0x74)⟩) 0xB4 none) [] ∧
    decode [0x62, 0xF4, 0x0D, 0x10, 0xC1, 0xD2, 0xB5] = .ok (.rclRmI8 .o16 (.reg 2) 0xB5 (some 30)) [] ∧
    decode [0x62, 0xD4, 0x7C, 0x08, 0xD0, 0x53, 0x76] =
      .ok (.rclRmOne .o8 (.mem ⟨none, false, .base 11 (.d8 0x76)⟩) none) [] ∧
    decode [0x62, 0xD4, 0xBC, 0x10, 0xD1, 0xD1] = .ok (.rclRmOne .o64 (.reg 9) (some 24)) [] ∧
    decode [0x62, 0xD4, 0x7C, 0x08, 0xD2, 0x14, 0x11] =
      .ok (.rclRmCl .o8 (.mem ⟨none, false, .sib 9 (some ⟨2, 0⟩) .none⟩) none) [] ∧
    decode [0x62, 0xD4, 0x54, 0x18, 0xD3, 0xD4] = .ok (.rclRmCl .o32 (.reg 12) (some 5)) [] ∧
    decode [0x62, 0xD4, 0x7C, 0x08, 0xC0, 0x5B, 0x7A, 0xBA] =
      .ok (.rcrRmI8 .o8 (.mem ⟨none, false, .base 11 (.d8 0x7A)⟩) 0xBA none) [] ∧
    decode [0x62, 0xFC, 0x75, 0x10, 0xC1, 0xDB, 0xBB] = .ok (.rcrRmI8 .o16 (.reg 19) 0xBB (some 17)) [] ∧
    decode [0x62, 0xD4, 0x7C, 0x08, 0xD0, 0x5B, 0x7C] =
      .ok (.rcrRmOne .o8 (.mem ⟨none, false, .base 11 (.d8 0x7C)⟩) none) [] ∧
    decode [0x62, 0xF4, 0x8C, 0x10, 0xD1, 0xDA] = .ok (.rcrRmOne .o64 (.reg 2) (some 30)) [] ∧
    decode [0x62, 0xF4, 0x78, 0x08, 0xD2, 0x1C, 0x9A] =
      .ok (.rcrRmCl .o8 (.mem ⟨none, false, .sib 2 (some ⟨19, 2⟩) .none⟩) none) [] ∧
    decode [0x62, 0xD4, 0x3C, 0x10, 0xD3, 0xD9] = .ok (.rcrRmCl .o32 (.reg 9) (some 24)) [] ∧
    decode [0x62, 0xD4, 0x7C, 0x08, 0xC0, 0x43, 0x70, 0xC0] =
      .ok (.rolRmI8 .o8 (.mem ⟨none, false, .base 11 (.d8 0x70)⟩) 0xC0 none false) [] ∧
    decode [0x62, 0xD4, 0x55, 0x18, 0xC1, 0xC4, 0xC1] = .ok (.rolRmI8 .o16 (.reg 12) 0xC1 (some 5) false) [] ∧
    decode [0x62, 0xD4, 0x7C, 0x0C, 0xD0, 0x43, 0x72] =
      .ok (.rolRmOne .o8 (.mem ⟨none, false, .base 11 (.d8 0x72)⟩) none true) [] ∧
    decode [0x62, 0xFC, 0xF4, 0x14, 0xD1, 0xC3] = .ok (.rolRmOne .o64 (.reg 19) (some 17) true) [] ∧
    decode [0x62, 0xBC, 0x7C, 0x08, 0xD2, 0x04, 0x23] =
      .ok (.rolRmCl .o8 (.mem ⟨none, false, .sib 19 (some ⟨12, 0⟩) .none⟩) none false) [] ∧
    decode [0x62, 0xF4, 0x0C, 0x10, 0xD3, 0xC2] = .ok (.rolRmCl .o32 (.reg 2) (some 30) false) [] ∧
    decode [0x62, 0xD4, 0x7C, 0x0C, 0xC0, 0x4B, 0x76, 0xC6] =
      .ok (.rorRmI8 .o8 (.mem ⟨none, false, .base 11 (.d8 0x76)⟩) 0xC6 none true) [] ∧
    decode [0x62, 0xD4, 0x3D, 0x14, 0xC1, 0xC9, 0xC7] = .ok (.rorRmI8 .o16 (.reg 9) 0xC7 (some 24) true) [] ∧
    decode [0x62, 0xD4, 0x7C, 0x08, 0xD0, 0x4B, 0x78] =
      .ok (.rorRmOne .o8 (.mem ⟨none, false, .base 11 (.d8 0x78)⟩) none false) [] ∧
    decode [0x62, 0xD4, 0xD4, 0x18, 0xD1, 0xCC] = .ok (.rorRmOne .o64 (.reg 12) (some 5) false) [] ∧
    decode [0x62, 0x94, 0x7C, 0x0C, 0xD2, 0x0C, 0x8C] =
      .ok (.rorRmCl .o8 (.mem ⟨none, false, .sib 12 (some ⟨9, 2⟩) .none⟩) none true) [] ∧
    decode [0x62, 0xFC, 0x74, 0x14, 0xD3, 0xCB] = .ok (.rorRmCl .o32 (.reg 19) (some 17) true) [] := by
  decide

theorem test_decode_shift2 :
    decode [0x62, 0xF4, 0x0C, 0x10, 0xC0, 0xFA, 0xCD] = .ok (.sarRmI8 .o8 (.reg 2) 0xCD (some 30) false) [] ∧
    decode [0x62, 0xD4, 0x7C, 0x0C, 0xC1, 0x7B, 0x7E, 0xCE] =
      .ok (.sarRmI8 .o32 (.mem ⟨none, false, .base 11 (.d8 0x7E)⟩) 0xCE none true) [] ∧
    decode [0x62, 0xD4, 0x3C, 0x14, 0xD0, 0xF9] = .ok (.sarRmOne .o8 (.reg 9) (some 24) true) [] ∧
    decode [0x62, 0xD4, 0x7D, 0x08, 0xD1, 0x3C, 0x11] =
      .ok (.sarRmOne .o16 (.mem ⟨none, false, .sib 9 (some ⟨2, 0⟩) .none⟩) none false) [] ∧
    decode [0x62, 0xD4, 0x54, 0x18, 0xD2, 0xFC] = .ok (.sarRmCl .o8 (.reg 12) (some 5) false) [] ∧
    decode [0x62, 0xD4, 0xFC, 0x0C, 0xD3, 0x7B, 0x72] =
      .ok (.sarRmCl .o64 (.mem ⟨none, false, .base 11 (.d8 0x72)⟩) none true) [] ∧
    decode [0x62, 0x94, 0x7C, 0x0C, 0xC0, 0x24, 0x8C, 0xA2] =
      .ok (.shlRmI8 false .o8 (.mem ⟨none, false, .sib 12 (some ⟨9, 2⟩) .none⟩) 0xA2 none true) [] ∧
    decode [0x62, 0xFC, 0x74, 0x14, 0xC0, 0xF3, 0xA3] = .ok (.shlRmI8 true .o8 (.reg 19) 0xA3 (some 17) true) [] ∧
    decode [0x62, 0xD4, 0xFC, 0x08, 0xC1, 0x63, 0x74, 0xA4] =
      .ok (.shlRmI8 false .o64 (.mem ⟨none, false, .base 11 (.d8 0x74)⟩) 0xA4 none false) [] ∧
    decode [0x62, 0xF4, 0x0D, 0x10, 0xC1, 0xF2, 0xA5] = .ok (.shlRmI8 true .o16 (.reg 2) 0xA5 (some 30) false) [] ∧
    decode [0x62, 0xD4, 0x7C, 0x0C, 0xD0, 0x63, 0x76] =
      .ok (.shlRmOne false .o8 (.mem ⟨none, false, .base 11 (.d8 0x76)⟩) none true) [] ∧
    decode [0x62, 0xD4, 0x3C, 0x14, 0xD0, 0xF1] = .ok (.shlRmOne true .o8 (.reg 9) (some 24) true) [] ∧
    decode [0x62, 0xD4, 0x7D, 0x08, 0xD1, 0x24, 0x11] =
      .ok (.shlRmOne false .o16 (.mem ⟨none, false, .sib 9 (some ⟨2, 0⟩) .none⟩) none false) [] ∧
    decode [0x62, 0xD4, 0x54, 0x18, 0xD1, 0xF4] = .ok (.shlRmOne true .o32 (.reg 12) (some 5) false) [] ∧
    decode [0x62, 0xD4, 0x7C, 0x0C, 0xD2, 0x63, 0x7A] =
      .ok (.shlRmCl false .o8 (.mem ⟨none, false, .base 11 (.d8 0x7A)⟩) none true) [] ∧
    decode [0x62, 0xFC, 0x74, 0x14, 0xD2, 0xF3] = .ok (.shlRmCl true .o8 (.reg 19) (some 17) true) [] ∧
    decode [0x62, 0xD4, 0x7C, 0x08, 0xD3, 0x63, 0x7C] =
      .ok (.shlRmCl false .o32 (.mem ⟨none, false, .base 11 (.d8 0x7C)⟩) none false) [] ∧
    decode [0x62, 0xF4, 0x8C, 0x10, 0xD3, 0xF2] = .ok (.shlRmCl true .o64 (.reg 2) (some 30) false) [] ∧
    decode [0x62, 0xF4, 0x79, 0x0C, 0x24, 0x2C, 0x9A, 0xAE] =
      .ok (.shldRmRI8 .o16 (.mem ⟨none, false, .sib 2 (some ⟨19, 2⟩) .none⟩) 5 0xAE none true) [] ∧
    decode [0x62, 0xC4, 0x3C, 0x14, 0xA5, 0xD9] = .ok (.shldRmRCl .o32 (.reg 9) 19 (some 24) true) [] ∧
    decode [0x62, 0xD4, 0x54, 0x18, 0xC0, 0xEC, 0xB1] = .ok (.shrRmI8 .o8 (.reg 12) 0xB1 (some 5) false) [] ∧
    decode [0x62, 0xD4, 0x7C, 0x0C, 0xC1, 0x6B, 0x72, 0xB2] =
      .ok (.shrRmI8 .o32 (.mem ⟨none, false, .base 11 (.d8 0x72)⟩) 0xB2 none true) [] ∧
    decode [0x62, 0xFC, 0x74, 0x14, 0xD0, 0xEB] = .ok (.shrRmOne .o8 (.reg 19) (some 17) true) [] ∧
    decode [0x62, 0xBC, 0x7D, 0x08, 0xD1, 0x2C, 0x23] =
      .ok (.shrRmOne .o16 (.mem ⟨none, false, .sib 19 (some ⟨12, 0⟩) .none⟩) none false) [] := by
  decide

theorem test_decode_shift3 :
    decode [0x62, 0xF4, 0x0C, 0x10, 0xD2, 0xEA] = .ok (.shrRmCl .o8 (.reg 2) (some 30) false) [] ∧
    decode [0x62, 0xD4, 0xFC, 0x0C, 0xD3, 0x6B, 0x76] =
      .ok (.shrRmCl .o64 (.mem ⟨none, false, .base 11 (.d8 0x76)⟩) none true) [] ∧
    decode [0x62, 0xC4, 0x3D, 0x14, 0x2C, 0xD9, 0xB7] = .ok (.shrdRmRI8 .o16 (.reg 9) 19 0xB7 (some 24) true) [] ∧
    decode [0x62, 0xC4, 0x7C, 0x08, 0xAD, 0x4B, 0x78] =
      .ok (.shrdRmRCl .o32 (.mem ⟨none, false, .base 11 (.d8 0x78)⟩) 17 none false) [] := by
  decide

theorem test_decode_arithmetic3 :
    decode [0x62, 0xD4, 0x7C, 0x0C, 0x2B, 0x6B, 0x7E] =
      .ok (.subRRm .o32 5 (.mem ⟨none, false, .base 11 (.d8 0x7E)⟩) none true) [] ∧
    decode [0x62, 0xD4, 0x3C, 0x14, 0x80, 0xE9, 0xB0] = .ok (.subRmImm (.reg 9) (.i8 0xB0) (some 24) true) [] ∧
    decode [0x62, 0xD4, 0x7D, 0x08, 0x81, 0x2C, 0x11, 0x51, 0x43] =
      .ok (.subRmImm (.mem ⟨none, false, .sib 9 (some ⟨2, 0⟩) .none⟩) (.i16 0x4351) none false) [] ∧
    decode [0x62, 0xD4, 0x54, 0x18, 0x83, 0xEC, 0xC1] = .ok (.subRmI8 .o32 (.reg 12) 0xC1 (some 5) false) [] ∧
    decode [0x62, 0x44, 0x7C, 0x0C, 0x30, 0x73, 0x7A] =
      .ok (.xorRmR .o8 (.mem ⟨none, false, .base 11 (.d8 0x7A)⟩) 30 none true) [] ∧
    decode [0x62, 0x7C, 0xF4, 0x14, 0x31, 0xCB] = .ok (.xorRmR .o64 (.reg 19) 9 (some 17) true) [] ∧
    decode [0x62, 0x2C, 0x7C, 0x08, 0x32, 0x04, 0x23] =
      .ok (.xorRRm .o8 24 (.mem ⟨none, false, .sib 19 (some ⟨12, 0⟩) .none⟩) none false) [] ∧
    decode [0x62, 0x74, 0x0C, 0x10, 0x33, 0xE2] = .ok (.xorRRm .o32 12 (.reg 2) (some 30) false) [] ∧
    decode [0x62, 0xD4, 0x7C, 0x0C, 0x80, 0x73, 0x7E, 0xBF] =
      .ok (.xorRmImm (.mem ⟨none, false, .base 11 (.d8 0x7E)⟩) (.i8 0xBF) none true) [] ∧
    decode [0x62, 0xD4, 0x3D, 0x14, 0x81, 0xF1, 0x60, 0x43] = .ok (.xorRmImm (.reg 9) (.i16 0x4360) (some 24) true) [] ∧
    decode [0x62, 0xD4, 0x7C, 0x08, 0x83, 0x73, 0x70, 0x90] =
      .ok (.xorRmI8 .o32 (.mem ⟨none, false, .base 11 (.d8 0x70)⟩) 0x90 none false) [] := by
  decide

theorem test_decode_stack :
    decode [0x62, 0xD4, 0x6C, 0x18, 0x8F, 0xC4] = .ok (.pop2 2 12) [] ∧
    decode [0x62, 0xF4, 0x8C, 0x10, 0x8F, 0xC5] = .ok (.pop2p 30 5) [] ∧
    decode [0x62, 0xFC, 0x34, 0x18, 0xFF, 0xF3] = .ok (.push2 9 19) [] ∧
    decode [0x62, 0xFC, 0xBC, 0x10, 0xFF, 0xF1] = .ok (.push2p 24 17) [] := by
  decide

theorem test_decode_rex2_alu1 :
    decode [0xD5, 0x41, 0x00, 0xD9] = .ok (.rex2AddRmR .o8 (.reg 9) 19) [] ∧
    decode [0xD5, 0x41, 0x01, 0x4B, 0x78] = .ok (.rex2AddRmR .o32 (.mem ⟨none, false, .base 11 (.d8 0x78)⟩) 17) [] ∧
    decode [0xD5, 0x01, 0x02, 0xD4] = .ok (.rex2AddRRm .o8 2 (.reg 12)) [] ∧
    decode [0x66, 0xD5, 0x47, 0x03, 0x34, 0x8C] =
      .ok (.rex2AddRRm .o16 30 (.mem ⟨none, false, .sib 12 (some ⟨9, 2⟩) .none⟩)) [] ∧
    decode [0xD5, 0x10, 0x80, 0xC3, 0x9C] = .ok (.rex2AddRmImm (.reg 19) (.i8 0x9C)) [] ∧
    decode [0xD5, 0x09, 0x81, 0x43, 0x7C, 0x3D, 0x43, 0x65, 0x87] =
      .ok (.rex2AddRmImm (.mem ⟨none, false, .base 11 (.d8 0x7C)⟩) (.i64 0x8765433D)) [] ∧
    decode [0x66, 0xD5, 0x00, 0x83, 0xC2, 0xAD] = .ok (.rex2AddRmI8 .o16 (.reg 2) 0xAD) [] ∧
    decode [0xD5, 0x01, 0x08, 0x6B, 0x7E] = .ok (.rex2OrRmR .o8 (.mem ⟨none, false, .base 11 (.d8 0x7E)⟩) 5) [] ∧
    decode [0xD5, 0x49, 0x09, 0xD9] = .ok (.rex2OrRmR .o64 (.reg 9) 19) [] ∧
    decode [0xD5, 0x41, 0x0A, 0x0C, 0x11] =
      .ok (.rex2OrRRm .o8 17 (.mem ⟨none, false, .sib 9 (some ⟨2, 0⟩) .none⟩)) [] ∧
    decode [0xD5, 0x01, 0x0B, 0xD4] = .ok (.rex2OrRRm .o32 2 (.reg 12)) [] ∧
    decode [0xD5, 0x01, 0x80, 0x4B, 0x72, 0xA3] =
      .ok (.rex2OrRmImm (.mem ⟨none, false, .base 11 (.d8 0x72)⟩) (.i8 0xA3)) [] ∧
    decode [0x66, 0xD5, 0x10, 0x81, 0xCB, 0x44, 0x43] = .ok (.rex2OrRmImm (.reg 19) (.i16 0x4344)) [] ∧
    decode [0xD5, 0x01, 0x83, 0x4B, 0x74, 0xB4] =
      .ok (.rex2OrRmI8 .o32 (.mem ⟨none, false, .base 11 (.d8 0x74)⟩) 0xB4) [] ∧
    decode [0xD5, 0x04, 0x10, 0xE2] = .ok (.rex2AdcRmR .o8 (.reg 2) 12) [] ∧
    decode [0x66, 0xD5, 0x20, 0x11, 0x2C, 0x9A] =
      .ok (.rex2AdcRmR .o16 (.mem ⟨none, false, .sib 2 (some ⟨19, 2⟩) .none⟩) 5) [] ∧
    decode [0xD5, 0x41, 0x12, 0xD9] = .ok (.rex2AdcRRm .o8 19 (.reg 9)) [] ∧
    decode [0xD5, 0x49, 0x13, 0x4B, 0x78] = .ok (.rex2AdcRRm .o64 17 (.mem ⟨none, false, .base 11 (.d8 0x78)⟩)) [] ∧
    decode [0xD5, 0x01, 0x80, 0xD4, 0xAA] = .ok (.rex2AdcRmImm (.reg 12) (.i8 0xAA)) [] ∧
    decode [0xD5, 0x01, 0x81, 0x53, 0x7A, 0x4B, 0x43, 0x65, 0x87] =
      .ok (.rex2AdcRmImm (.mem ⟨none, false, .base 11 (.d8 0x7A)⟩) (.i32 0x8765434B)) [] ∧
    decode [0xD5, 0x18, 0x83, 0xD3, 0xBB] = .ok (.rex2AdcRmI8 .o64 (.reg 19) 0xBB) [] ∧
    decode [0xD5, 0x56, 0x18, 0x04, 0x23] =
      .ok (.rex2SbbRmR .o8 (.mem ⟨none, false, .sib 19 (some ⟨12, 0⟩) .none⟩) 24) [] ∧
    decode [0xD5, 0x04, 0x19, 0xE2] = .ok (.rex2SbbRmR .o32 (.reg 2) 12) [] ∧
    decode [0xD5, 0x01, 0x1A, 0x6B, 0x7E] = .ok (.rex2SbbRRm .o8 5 (.mem ⟨none, false, .base 11 (.d8 0x7E)⟩)) [] := by
  decide

theorem test_decode_rex2_alu2 :
    decode [0x66, 0xD5, 0x41, 0x1B, 0xD9] = .ok (.rex2SbbRRm .o16 19 (.reg 9)) [] ∧
    decode [0xD5, 0x01, 0x80, 0x5B, 0x70, 0xB1] =
      .ok (.rex2SbbRmImm (.mem ⟨none, false, .base 11 (.d8 0x70)⟩) (.i8 0xB1)) [] ∧
    decode [0xD5, 0x09, 0x81, 0xDC, 0x52, 0x43, 0x65, 0x87] = .ok (.rex2SbbRmImm (.reg 12) (.i64 0x87654352)) [] ∧
    decode [0x66, 0xD5, 0x03, 0x83, 0x1C, 0x8C, 0xC2] =
      .ok (.rex2SbbRmI8 .o16 (.mem ⟨none, false, .sib 12 (some ⟨9, 2⟩) .none⟩) 0xC2) [] ∧
    decode [0xD5, 0x14, 0x20, 0xCB] = .ok (.rex2AndRmR .o8 (.reg 19) 9) [] ∧
    decode [0xD5, 0x4D, 0x21, 0x43, 0x74] = .ok (.rex2AndRmR .o64 (.mem ⟨none, false, .base 11 (.d8 0x74)⟩) 24) [] ∧
    decode [0xD5, 0x04, 0x22, 0xE2] = .ok (.rex2AndRRm .o8 12 (.reg 2)) [] ∧
    decode [0xD5, 0x01, 0x23, 0x6B, 0x76] = .ok (.rex2AndRRm .o32 5 (.mem ⟨none, false, .base 11 (.d8 0x76)⟩)) [] ∧
    decode [0xD5, 0x01, 0x80, 0xE1, 0xB8] = .ok (.rex2AndRmImm (.reg 9) (.i8 0xB8)) [] ∧
    decode [0x66, 0xD5, 0x01, 0x81, 0x24, 0x11, 0x59, 0x43] =
      .ok (.rex2AndRmImm (.mem ⟨none, false, .sib 9 (some ⟨2, 0⟩) .none⟩) (.i16 0x4359)) [] ∧
    decode [0xD5, 0x01, 0x83, 0xE4, 0xC9] = .ok (.rex2AndRmI8 .o32 (.reg 12) 0xC9) [] ∧
    decode [0xD5, 0x45, 0x28, 0x73, 0x7A] = .ok (.rex2SubRmR .o8 (.mem ⟨none, false, .base 11 (.d8 0x7A)⟩) 30) [] ∧
    decode [0x66, 0xD5, 0x14, 0x29, 0xCB] = .ok (.rex2SubRmR .o16 (.reg 19) 9) [] ∧
    decode [0xD5, 0x45, 0x2A, 0x43, 0x7C] = .ok (.rex2SubRRm .o8 24 (.mem ⟨none, false, .base 11 (.d8 0x7C)⟩)) [] ∧
    decode [0xD5, 0x0C, 0x2B, 0xE2] = .ok (.rex2SubRRm .o64 12 (.reg 2)) [] ∧
    decode [0xD5, 0x20, 0x80, 0x2C, 0x9A, 0xBF] =
      .ok (.rex2SubRmImm (.mem ⟨none, false, .sib 2 (some ⟨19, 2⟩) .none⟩) (.i8 0xBF)) [] ∧
    decode [0xD5, 0x01, 0x81, 0xE9, 0x60, 0x43, 0x65, 0x87] = .ok (.rex2SubRmImm (.reg 9) (.i32 0x87654360)) [] ∧
    decode [0xD5, 0x09, 0x83, 0x6B, 0x70, 0x90] =
      .ok (.rex2SubRmI8 .o64 (.mem ⟨none, false, .base 11 (.d8 0x70)⟩) 0x90) [] ∧
    decode [0xD5, 0x01, 0x30, 0xD4] = .ok (.rex2XorRmR .o8 (.reg 12) 2) [] ∧
    decode [0xD5, 0x45, 0x31, 0x73, 0x72] = .ok (.rex2XorRmR .o32 (.mem ⟨none, false, .base 11 (.d8 0x72)⟩) 30) [] ∧
    decode [0xD5, 0x14, 0x32, 0xCB] = .ok (.rex2XorRRm .o8 9 (.reg 19)) [] ∧
    decode [0x66, 0xD5, 0x56, 0x33, 0x04, 0x23] =
      .ok (.rex2XorRRm .o16 24 (.mem ⟨none, false, .sib 19 (some ⟨12, 0⟩) .none⟩)) [] ∧
    decode [0xD5, 0x00, 0x80, 0xF2, 0x86] = .ok (.rex2XorRmImm (.reg 2) (.i8 0x86)) [] ∧
    decode [0xD5, 0x09, 0x81, 0x73, 0x76, 0x27, 0x43, 0x65, 0x87] =
      .ok (.rex2XorRmImm (.mem ⟨none, false, .base 11 (.d8 0x76)⟩) (.i64 0x87654327)) [] := by
  decide

theorem test_decode_rex2_alu3 :
    decode [0x66, 0xD5, 0x01, 0x83, 0xF1, 0x97] = .ok (.rex2XorRmI8 .o16 (.reg 9) 0x97) [] ∧
    decode [0xD5, 0x41, 0x38, 0x4B, 0x78] = .ok (.rex2CmpRmR .o8 (.mem ⟨none, false, .base 11 (.d8 0x78)⟩) 17) [] ∧
    decode [0xD5, 0x09, 0x39, 0xD4] = .ok (.rex2CmpRmR .o64 (.reg 12) 2) [] ∧
    decode [0xD5, 0x47, 0x3A, 0x34, 0x8C] =
      .ok (.rex2CmpRRm .o8 30 (.mem ⟨none, false, .sib 12 (some ⟨9, 2⟩) .none⟩)) [] ∧
    decode [0xD5, 0x14, 0x3B, 0xCB] = .ok (.rex2CmpRRm .o32 9 (.reg 19)) [] ∧
    decode [0xD5, 0x01, 0x80, 0x7B, 0x7C, 0x8D] =
      .ok (.rex2CmpRmImm (.mem ⟨none, false, .base 11 (.d8 0x7C)⟩) (.i8 0x8D)) [] ∧
    decode [0x66, 0xD5, 0x00, 0x81, 0xFA, 0x2E, 0x43] = .ok (.rex2CmpRmImm (.reg 2) (.i16 0x432E)) [] ∧
    decode [0xD5, 0x01, 0x83, 0x7B, 0x7E, 0x9E] =
      .ok (.rex2CmpRmI8 .o32 (.mem ⟨none, false, .base 11 (.d8 0x7E)⟩) 0x9E) [] ∧
    decode [0xD5, 0x41, 0x84, 0xD9] = .ok (.rex2TestRmR .o8 (.reg 9) 19) [] ∧
    decode [0x66, 0xD5, 0x41, 0x85, 0x0C, 0x11] =
      .ok (.rex2TestRmR .o16 (.mem ⟨none, false, .sib 9 (some ⟨2, 0⟩) .none⟩) 17) [] ∧
    decode [0xD5, 0x01, 0xF6, 0xC4, 0x92] = .ok (.rex2TestRmImm false (.reg 12) (.i8 0x92)) [] ∧
    decode [0xD5, 0x09, 0xF7, 0x43, 0x72, 0x33, 0x43, 0x65, 0x87] =
      .ok (.rex2TestRmImm false (.mem ⟨none, false, .base 11 (.d8 0x72)⟩) (.i64 0x87654333)) [] ∧
    decode [0xD5, 0x10, 0xF6, 0xCB, 0x94] = .ok (.rex2TestRmImm true (.reg 19) (.i8 0x94)) [] ∧
    decode [0xD5, 0x01, 0xF7, 0x4B, 0x74, 0x35, 0x43, 0x65, 0x87] =
      .ok (.rex2TestRmImm true (.mem ⟨none, false, .base 11 (.d8 0x74)⟩) (.i32 0x87654335)) [] := by
  decide

theorem test_decode_rex2_moves :
    decode [0xD5, 0x04, 0x88, 0xE2] = .ok (.rex2MovRmR .o8 (.reg 2) 12) [] ∧
    decode [0x66, 0xD5, 0x20, 0x89, 0x2C, 0x9A] =
      .ok (.rex2MovRmR .o16 (.mem ⟨none, false, .sib 2 (some ⟨19, 2⟩) .none⟩) 5) [] ∧
    decode [0xD5, 0x41, 0x8A, 0xD9] = .ok (.rex2MovRRm .o8 19 (.reg 9)) [] ∧
    decode [0xD5, 0x49, 0x8B, 0x4B, 0x78] = .ok (.rex2MovRRm .o64 17 (.mem ⟨none, false, .base 11 (.d8 0x78)⟩)) [] ∧
    decode [0xD5, 0x01, 0xC6, 0xC4, 0x9A] = .ok (.rex2MovRmImm (.reg 12) (.i8 0x9A)) [] ∧
    decode [0xD5, 0x01, 0xC7, 0x43, 0x7A, 0x3B, 0x43, 0x65, 0x87] =
      .ok (.rex2MovRmImm (.mem ⟨none, false, .base 11 (.d8 0x7A)⟩) (.i32 0x8765433B)) [] ∧
    decode [0xD5, 0x01, 0xB4, 0x9A] = .ok (.rex2MovRImm 12 (.b8 0x9A)) [] ∧
    decode [0xD5, 0x08, 0xBD, 0x01, 0x02, 0x03, 0x04, 0x05, 0x06, 0x07, 0x08] =
      .ok (.rex2MovRImm 5 (.q64 0x807060504030201)) [] ∧
    decode [0xD5, 0x14, 0x8D, 0x62, 0x7D] = .ok (.rex2Lea .o32 12 ⟨none, false, .base 18 (.d8 0x7D)⟩) [] ∧
    decode [0xD5, 0x01, 0x63, 0x6B, 0x7E] = .ok (.rex2Movsxd .y32 5 (.mem ⟨none, false, .base 11 (.d8 0x7E)⟩)) [] ∧
    decode [0x66, 0xD5, 0xC1, 0xB6, 0xD9] = .ok (.rex2Movzx .o16 .b8 19 (.reg 9)) [] ∧
    decode [0xD5, 0xC1, 0xB7, 0x4B, 0x70] = .ok (.rex2Movzx .o32 .w16 17 (.mem ⟨none, false, .base 11 (.d8 0x70)⟩)) [] ∧
    decode [0xD5, 0x89, 0xBE, 0xD4] = .ok (.rex2Movsx .o64 .b8 2 (.reg 12)) [] ∧
    decode [0x66, 0xD5, 0xC7, 0xBF, 0x34, 0x8C] =
      .ok (.rex2Movsx .o16 .w16 30 (.mem ⟨none, false, .sib 12 (some ⟨9, 2⟩) .none⟩)) [] ∧
    decode [0xD5, 0x01, 0xFF, 0x73, 0x7C] = .ok (.rex2PushRm (.mem ⟨none, false, .base 11 (.d8 0x7C)⟩)) [] ∧
    decode [0xD5, 0x00, 0x8F, 0xC2] = .ok (.rex2PopRm (.reg 2)) [] := by
  decide

theorem test_decode_rex2_rest1 :
    decode [0xD5, 0x14, 0x69, 0xCB, 0x44, 0x43, 0x65, 0x87] = .ok (.rex2ImulRRmIz 9 (.reg 19) (.i32 0x87654344)) [] ∧
    decode [0xD5, 0x4D, 0x6B, 0x43, 0x74, 0xB4] =
      .ok (.rex2ImulRRmI8 .o64 24 (.mem ⟨none, false, .base 11 (.d8 0x74)⟩) 0xB4) [] ∧
    decode [0x66, 0xD5, 0x84, 0xAF, 0xE2] = .ok (.rex2ImulRRm .o16 12 (.reg 2)) [] ∧
    decode [0xD5, 0x01, 0xF6, 0x53, 0x7A] = .ok (.rex2NotRm .o8 (.mem ⟨none, false, .base 11 (.d8 0x7A)⟩)) [] ∧
    decode [0x66, 0xD5, 0x10, 0xF7, 0xD3] = .ok (.rex2NotRm .o16 (.reg 19)) [] ∧
    decode [0xD5, 0x01, 0xF6, 0x5B, 0x7C] = .ok (.rex2NegRm .o8 (.mem ⟨none, false, .base 11 (.d8 0x7C)⟩)) [] ∧
    decode [0xD5, 0x08, 0xF7, 0xDA] = .ok (.rex2NegRm .o64 (.reg 2)) [] ∧
    decode [0xD5, 0x20, 0xF6, 0x24, 0x9A] = .ok (.rex2MulRm .o8 (.mem ⟨none, false, .sib 2 (some ⟨19, 2⟩) .none⟩)) [] ∧
    decode [0xD5, 0x01, 0xF7, 0xE1] = .ok (.rex2MulRm .o32 (.reg 9)) [] ∧
    decode [0xD5, 0x01, 0xF6, 0x6B, 0x70] = .ok (.rex2ImulRm .o8 (.mem ⟨none, false, .base 11 (.d8 0x70)⟩)) [] ∧
    decode [0x66, 0xD5, 0x01, 0xF7, 0xEC] = .ok (.rex2ImulRm .o16 (.reg 12)) [] ∧
    decode [0xD5, 0x01, 0xF6, 0x73, 0x72] = .ok (.rex2DivRm .o8 (.mem ⟨none, false, .base 11 (.d8 0x72)⟩)) [] ∧
    decode [0xD5, 0x18, 0xF7, 0xF3] = .ok (.rex2DivRm .o64 (.reg 19)) [] ∧
    decode [0xD5, 0x12, 0xF6, 0x3C, 0x23] =
      .ok (.rex2IdivRm .o8 (.mem ⟨none, false, .sib 19 (some ⟨12, 0⟩) .none⟩)) [] ∧
    decode [0xD5, 0x00, 0xF7, 0xFA] = .ok (.rex2IdivRm .o32 (.reg 2)) [] ∧
    decode [0xD5, 0x01, 0xFE, 0x43, 0x76] = .ok (.rex2IncRm .o8 (.mem ⟨none, false, .base 11 (.d8 0x76)⟩)) [] ∧
    decode [0x66, 0xD5, 0x01, 0xFF, 0xC1] = .ok (.rex2IncRm .o16 (.reg 9)) [] ∧
    decode [0xD5, 0x01, 0xFE, 0x4B, 0x78] = .ok (.rex2DecRm .o8 (.mem ⟨none, false, .base 11 (.d8 0x78)⟩)) [] ∧
    decode [0xD5, 0x09, 0xFF, 0xCC] = .ok (.rex2DecRm .o64 (.reg 12)) [] ∧
    decode [0x66, 0xD5, 0xC7, 0x4A, 0x34, 0x8C] =
      .ok (.rex2Cmov .p .o16 30 (.mem ⟨none, false, .sib 12 (some ⟨9, 2⟩) .none⟩)) [] ∧
    decode [0xD5, 0x90, 0x9B, 0xC3] = .ok (.rex2Setcc .np (.reg 19)) [] ∧
    decode [0xD5, 0x10, 0x51] = .ok (.rex2PushR 17) [] ∧
    decode [0xD5, 0x08, 0x52] = .ok (.rex2Pushp 2) [] ∧
    decode [0xD5, 0x11, 0x5E] = .ok (.rex2PopR 30) [] := by
  decide

theorem test_decode_rex2_shift1 :
    decode [0xD5, 0x01, 0xC0, 0x43, 0x76, 0xB6] =
      .ok (.rex2RolRmI8 .o8 (.mem ⟨none, false, .base 11 (.d8 0x76)⟩) 0xB6) [] ∧
    decode [0xD5, 0x01, 0xC0, 0xC9, 0xB7] = .ok (.rex2RorRmI8 .o8 (.reg 9) 0xB7) [] ∧
    decode [0xD5, 0x01, 0xC0, 0x14, 0x11, 0xB8] =
      .ok (.rex2RclRmI8 .o8 (.mem ⟨none, false, .sib 9 (some ⟨2, 0⟩) .none⟩) 0xB8) [] ∧
    decode [0xD5, 0x01, 0xC0, 0xDC, 0xB9] = .ok (.rex2RcrRmI8 .o8 (.reg 12) 0xB9) [] ∧
    decode [0xD5, 0x01, 0xC0, 0x63, 0x7A, 0xBA] =
      .ok (.rex2ShlRmI8 false .o8 (.mem ⟨none, false, .base 11 (.d8 0x7A)⟩) 0xBA) [] ∧
    decode [0xD5, 0x10, 0xC0, 0xEB, 0xBB] = .ok (.rex2ShrRmI8 .o8 (.reg 19) 0xBB) [] ∧
    decode [0xD5, 0x01, 0xC0, 0x73, 0x7C, 0xBC] =
      .ok (.rex2ShlRmI8 true .o8 (.mem ⟨none, false, .base 11 (.d8 0x7C)⟩) 0xBC) [] ∧
    decode [0xD5, 0x00, 0xC0, 0xFA, 0xBD] = .ok (.rex2SarRmI8 .o8 (.reg 2) 0xBD) [] ∧
    decode [0x66, 0xD5, 0x20, 0xC1, 0x04, 0x9A, 0xBE] =
      .ok (.rex2RolRmI8 .o16 (.mem ⟨none, false, .sib 2 (some ⟨19, 2⟩) .none⟩) 0xBE) [] ∧
    decode [0xD5, 0x01, 0xC1, 0xC9, 0xBF] = .ok (.rex2RorRmI8 .o32 (.reg 9) 0xBF) [] ∧
    decode [0xD5, 0x09, 0xC1, 0x53, 0x70, 0xC0] =
      .ok (.rex2RclRmI8 .o64 (.mem ⟨none, false, .base 11 (.d8 0x70)⟩) 0xC0) [] ∧
    decode [0x66, 0xD5, 0x01, 0xC1, 0xDC, 0xC1] = .ok (.rex2RcrRmI8 .o16 (.reg 12) 0xC1) [] ∧
    decode [0xD5, 0x01, 0xC1, 0x63, 0x72, 0xC2] =
      .ok (.rex2ShlRmI8 false .o32 (.mem ⟨none, false, .base 11 (.d8 0x72)⟩) 0xC2) [] ∧
    decode [0xD5, 0x18, 0xC1, 0xEB, 0xC3] = .ok (.rex2ShrRmI8 .o64 (.reg 19) 0xC3) [] ∧
    decode [0x66, 0xD5, 0x12, 0xC1, 0x34, 0x23, 0xC4] =
      .ok (.rex2ShlRmI8 true .o16 (.mem ⟨none, false, .sib 19 (some ⟨12, 0⟩) .none⟩) 0xC4) [] ∧
    decode [0xD5, 0x00, 0xC1, 0xFA, 0xC5] = .ok (.rex2SarRmI8 .o32 (.reg 2) 0xC5) [] ∧
    decode [0xD5, 0x01, 0xD0, 0x43, 0x76] = .ok (.rex2RolRmOne .o8 (.mem ⟨none, false, .base 11 (.d8 0x76)⟩)) [] ∧
    decode [0xD5, 0x01, 0xD0, 0xC9] = .ok (.rex2RorRmOne .o8 (.reg 9)) [] ∧
    decode [0xD5, 0x01, 0xD0, 0x53, 0x78] = .ok (.rex2RclRmOne .o8 (.mem ⟨none, false, .base 11 (.d8 0x78)⟩)) [] ∧
    decode [0xD5, 0x01, 0xD0, 0xDC] = .ok (.rex2RcrRmOne .o8 (.reg 12)) [] ∧
    decode [0xD5, 0x03, 0xD0, 0x24, 0x8C] =
      .ok (.rex2ShlRmOne false .o8 (.mem ⟨none, false, .sib 12 (some ⟨9, 2⟩) .none⟩)) [] ∧
    decode [0xD5, 0x10, 0xD0, 0xEB] = .ok (.rex2ShrRmOne .o8 (.reg 19)) [] ∧
    decode [0xD5, 0x01, 0xD0, 0x73, 0x7C] = .ok (.rex2ShlRmOne true .o8 (.mem ⟨none, false, .base 11 (.d8 0x7C)⟩)) [] ∧
    decode [0xD5, 0x00, 0xD0, 0xFA] = .ok (.rex2SarRmOne .o8 (.reg 2)) [] := by
  decide

theorem test_decode_rex2_shift2 :
    decode [0xD5, 0x01, 0xD1, 0x43, 0x7E] = .ok (.rex2RolRmOne .o32 (.mem ⟨none, false, .base 11 (.d8 0x7E)⟩)) [] ∧
    decode [0xD5, 0x09, 0xD1, 0xC9] = .ok (.rex2RorRmOne .o64 (.reg 9)) [] ∧
    decode [0x66, 0xD5, 0x01, 0xD1, 0x14, 0x11] =
      .ok (.rex2RclRmOne .o16 (.mem ⟨none, false, .sib 9 (some ⟨2, 0⟩) .none⟩)) [] ∧
    decode [0xD5, 0x01, 0xD1, 0xDC] = .ok (.rex2RcrRmOne .o32 (.reg 12)) [] ∧
    decode [0xD5, 0x09, 0xD1, 0x63, 0x72] =
      .ok (.rex2ShlRmOne false .o64 (.mem ⟨none, false, .base 11 (.d8 0x72)⟩)) [] ∧
    decode [0x66, 0xD5, 0x10, 0xD1, 0xEB] = .ok (.rex2ShrRmOne .o16 (.reg 19)) [] ∧
    decode [0xD5, 0x01, 0xD1, 0x73, 0x74] = .ok (.rex2ShlRmOne true .o32 (.mem ⟨none, false, .base 11 (.d8 0x74)⟩)) [] ∧
    decode [0xD5, 0x08, 0xD1, 0xFA] = .ok (.rex2SarRmOne .o64 (.reg 2)) [] ∧
    decode [0xD5, 0x20, 0xD2, 0x04, 0x9A] =
      .ok (.rex2RolRmCl .o8 (.mem ⟨none, false, .sib 2 (some ⟨19, 2⟩) .none⟩)) [] ∧
    decode [0xD5, 0x01, 0xD2, 0xC9] = .ok (.rex2RorRmCl .o8 (.reg 9)) [] ∧
    decode [0xD5, 0x01, 0xD2, 0x53, 0x78] = .ok (.rex2RclRmCl .o8 (.mem ⟨none, false, .base 11 (.d8 0x78)⟩)) [] ∧
    decode [0xD5, 0x01, 0xD2, 0xDC] = .ok (.rex2RcrRmCl .o8 (.reg 12)) [] ∧
    decode [0xD5, 0x01, 0xD2, 0x63, 0x7A] = .ok (.rex2ShlRmCl false .o8 (.mem ⟨none, false, .base 11 (.d8 0x7A)⟩)) [] ∧
    decode [0xD5, 0x10, 0xD2, 0xEB] = .ok (.rex2ShrRmCl .o8 (.reg 19)) [] ∧
    decode [0xD5, 0x12, 0xD2, 0x34, 0x23] =
      .ok (.rex2ShlRmCl true .o8 (.mem ⟨none, false, .sib 19 (some ⟨12, 0⟩) .none⟩)) [] ∧
    decode [0xD5, 0x00, 0xD2, 0xFA] = .ok (.rex2SarRmCl .o8 (.reg 2)) [] ∧
    decode [0xD5, 0x09, 0xD3, 0x43, 0x7E] = .ok (.rex2RolRmCl .o64 (.mem ⟨none, false, .base 11 (.d8 0x7E)⟩)) [] ∧
    decode [0x66, 0xD5, 0x01, 0xD3, 0xC9] = .ok (.rex2RorRmCl .o16 (.reg 9)) [] ∧
    decode [0xD5, 0x01, 0xD3, 0x53, 0x70] = .ok (.rex2RclRmCl .o32 (.mem ⟨none, false, .base 11 (.d8 0x70)⟩)) [] ∧
    decode [0xD5, 0x09, 0xD3, 0xDC] = .ok (.rex2RcrRmCl .o64 (.reg 12)) [] ∧
    decode [0x66, 0xD5, 0x03, 0xD3, 0x24, 0x8C] =
      .ok (.rex2ShlRmCl false .o16 (.mem ⟨none, false, .sib 12 (some ⟨9, 2⟩) .none⟩)) [] ∧
    decode [0xD5, 0x10, 0xD3, 0xEB] = .ok (.rex2ShrRmCl .o32 (.reg 19)) [] ∧
    decode [0xD5, 0x09, 0xD3, 0x73, 0x74] = .ok (.rex2ShlRmCl true .o64 (.mem ⟨none, false, .base 11 (.d8 0x74)⟩)) [] ∧
    decode [0x66, 0xD5, 0x00, 0xD3, 0xFA] = .ok (.rex2SarRmCl .o16 (.reg 2)) [] := by
  decide

theorem test_decode_rex2_shift3 :
    decode [0xD5, 0x81, 0xA4, 0x6B, 0x76, 0xA6] =
      .ok (.rex2ShldRmRI8 .o32 (.mem ⟨none, false, .base 11 (.d8 0x76)⟩) 5 0xA6) [] ∧
    decode [0xD5, 0xC9, 0xA5, 0xD9] = .ok (.rex2ShldRmRCl .o64 (.reg 9) 19) [] ∧
    decode [0x66, 0xD5, 0xC1, 0xAC, 0x0C, 0x11, 0xA8] =
      .ok (.rex2ShrdRmRI8 .o16 (.mem ⟨none, false, .sib 9 (some ⟨2, 0⟩) .none⟩) 17 0xA8) [] ∧
    decode [0xD5, 0x81, 0xAD, 0xD4] = .ok (.rex2ShrdRmRCl .o32 (.reg 12) 2) [] := by
  decide

theorem test_decode_rex2_rest2 :
    decode [0xD5, 0x09, 0x59] = .ok (.rex2Popp 9) [] ∧
    decode [0xD5, 0x00, 0xA1, 0x11, 0x22, 0x33, 0x44, 0x55, 0x66, 0x00, 0x00] = .ok (.jmpabs 0x665544332211) [] := by
  decide

/-- Refused and reserved bytes (95_test_vectors.md B2 row 14, B3 row 20, B6 rows 5, 21 to 23, B8 row 8, B9 rows 5 to 9;
30_encoding.md R141). -/
theorem test_decode_rejects :
    decode [0x62, 0xFC, 0xFC, 0x14, 0xD1, 0xD1] = .ud ∧ decode [0x62, 0xEC, 0x7D, 0x08, 0xF8, 0xC1] = .ud ∧
    decode [0xD5, 0x08, 0xA1, 0, 0x20, 0, 0, 0, 0, 0, 0] = .ud ∧ decode [0xD5, 0x00, 0x70, 0x00] = .ud ∧
    decode [0x48, 0xD5, 0x58, 0x01, 0xC8] = .ud ∧ decode [0xD5, 0x58, 0x87, 0xC8] = .refused .rex2Outside ∧
    decode [0x62, 0xFC, 0x7C, 0x08, 0xFF, 0xF1] = .ud ∧ decode [0x62, 0xF4, 0x6C, 0x38, 0x01, 0xC8] = .ud ∧
    decode [0x66, 0x62, 0xF4, 0x6C, 0x18, 0x01, 0xC8] = .ud ∧ decode [0x62, 0xF4, 0x6C, 0x18, 0x0F, 0xC8] = .ud ∧
    decode [0xF0, 0xD5, 0x58, 0x01, 0xC8] = .ud ∧ decode [0x90] = .refused .notApx ∧
    decode [0x62, 0xF4, 0x6C] = .truncated ∧
    decode [0x62, 0xF1, 0x7C, 0x48, 0x58, 0xC1] = .refused (.existingEvex false) := by
  decide

/-- REX2 and a prefix byte (30_encoding.md R108, R109), opcodes that already raise #UD without REX2 (R107), MOV to and from
control and debug registers with five-bit ids (10_state.md R42), XABORT. -/
theorem test_decode_rex2_rejects :
    decode [0xD5, 0x00, 0xC4, 0xE2] = .ud ∧ decode [0xD5, 0x00, 0xC5, 0xF8] = .ud ∧ decode [0xD5, 0x00, 0xD5, 0x00] = .ud ∧
    decode [0xD5, 0x00, 0x06] = .ud ∧ decode [0xD5, 0x80, 0x0B] = .ud ∧ decode [0xD5, 0x00, 0xFE, 0xD0] = .ud ∧
    decode [0xD5, 0x00, 0xC6, 0xC8, 0x01] = .ud ∧ decode [0xD5, 0x00, 0xC6, 0xF8, 0x01] = .refused .rex2Outside ∧
    decode [0xD5, 0x00, 0xFF, 0xD0] = .refused .rex2Outside ∧ decode [0xD5, 0x80, 0xBA, 0xC0, 0x01] = .ud ∧
    decode [0xD5, 0xC4, 0x20, 0xD8] = .refused (.movSystemReg false 27) ∧
    decode [0xD5, 0x80, 0x23, 0xF8] = .refused (.movSystemReg true 7) ∧ decode [0xD5, 0x80, 0xAE, 0x20] = .ud := by
  decide

/-- Opcodes that already raise #UD without REX2 by their ModRM byte or prefix (30_encoding.md R107, notes/assumptions/40.md):
C7 /0 and /2, 71 /0, 73 /1, B8 without F3, 8C /6, 8E /1, FF /3 and FF /5 with a register, PSLLDQ without 66, MOVNTI with 66,
DB E5, XGETBV with 66, STAC with F3, VMFUNC with F2, EMMS with 66;
beside them forms that exist and are refused. -/
theorem test_decode_rex2_already_ud :
    decode [0xD5, 0x80, 0xC7, 0x00] = .ud ∧ decode [0xD5, 0x80, 0xC7, 0xD0] = .ud ∧ decode [0xD5, 0x80, 0x71, 0xC0] = .ud ∧
    decode [0xD5, 0x80, 0x73, 0xC8] = .ud ∧ decode [0xD5, 0x80, 0xB8, 0xC0] = .ud ∧ decode [0xD5, 0x00, 0x8C, 0xF0] = .ud ∧
    decode [0xD5, 0x00, 0x8E, 0x08] = .ud ∧ decode [0xD5, 0x00, 0xFF, 0xD8] = .ud ∧ decode [0xD5, 0x00, 0xFF, 0xE8] = .ud ∧
    decode [0xD5, 0x80, 0x73, 0xF8] = .ud ∧ decode [0x66, 0xD5, 0x80, 0xC3, 0x00] = .ud ∧
    decode [0xD5, 0x00, 0xDB, 0xE5] = .ud ∧ decode [0x66, 0xD5, 0x80, 0x01, 0xD0] = .ud ∧
    decode [0xF3, 0xD5, 0x80, 0x01, 0xCB] = .ud ∧ decode [0xF2, 0xD5, 0x80, 0x01, 0xD4] = .ud ∧
    decode [0x66, 0xD5, 0x80, 0x77] = .ud ∧ decode [0xD5, 0x80, 0x77] = .refused .rex2Outside ∧
    decode [0xD5, 0x80, 0x01, 0xD0] = .refused .rex2Outside ∧ decode [0xD5, 0x00, 0xDB, 0xE4] = .refused .rex2Outside ∧
    decode [0xF3, 0xD5, 0x80, 0xB8, 0xC0] = .refused .rex2Outside ∧ decode [0xD5, 0x80, 0xC7, 0x08] = .refused .rex2Outside ∧
    decode [0x66, 0xD5, 0x80, 0x73, 0xF8] = .refused .rex2Outside ∧ decode [0xD5, 0x00, 0x8E, 0x10] = .refused .rex2Outside ∧
    decode [0xD5, 0x00, 0xFF, 0x18] = .refused .rex2Outside ∧ decode [0xD5, 0x80, 0x71, 0xD0] = .refused .rex2Outside := by
  decide

/-- Missing bytes come before the #UD of REX before REX2 and of XSAVE under REX2 (60_exceptions.md R432, 30_encoding.md R107,
R108): a ModRM byte, a displacement, an immediate, the target of JMPABS. -/
theorem test_decode_rex_before_rex2 :
    decode [0x48, 0xD5, 0x18, 0x01] = .truncated ∧ decode [0x48, 0xD5, 0x18, 0x01, 0x41] = .truncated ∧
    decode [0x48, 0xD5, 0x18, 0x83, 0xC1] = .truncated ∧ decode [0x48, 0xD5, 0x00, 0xA1, 0, 0, 0, 0, 0, 0, 0] = .truncated ∧
    decode [0xD5, 0x80, 0xAE, 0x60] = .truncated ∧ decode [0xD5, 0x80, 0xAE, 0x60, 0x08] = .ud ∧
    decode [0x48, 0xD5, 0x18, 0x01, 0x41, 0x08] = .ud ∧ decode [0x48, 0xD5, 0x18, 0x83, 0xC1, 0x01] = .ud ∧
    decode [0x48, 0xD5, 0x00, 0xA1, 0, 0, 0, 0, 0, 0, 0, 0] = .ud ∧ decode [0x48, 0xD5, 0x00, 0x40] = .ud := by
  decide

/-- 0x66 where the rule has no OSIZE of 16 (45_jmpabs_rex2.md R375, R387, R388): SETcc, MOVSXD, PUSH r/m64; LOCK on a register
destination is #UD (R376); PUSH r64 with W = 1 and 0x66 is the 64-bit push (R372). -/
theorem test_decode_no_operand_size16 :
    decode [0x66, 0xD5, 0x90, 0x94, 0xC0] = .refused .operandSize16 ∧
    decode [0x66, 0xF0, 0xD5, 0x90, 0x94, 0xC0] = .ud ∧ decode [0x66, 0xD5, 0x58, 0x63, 0xC1] = .refused .operandSize16 ∧
    decode [0x66, 0xD5, 0x18, 0xFF, 0xF0] = .refused .operandSize16 ∧
    decode [0x66, 0xD5, 0x18, 0x50] = .ok (.rex2Pushp 16) [] ∧ decode [0x66, 0xD5, 0x10, 0x50] = .refused .operandSize16 ∧
    decode [0xD5, 0x90, 0x94, 0xC0] = .ok (.rex2Setcc .z (.reg 16)) [] := by
  decide

/-- Promoted VEX opcodes with a W or a digit that no row lists are refused unless a #UD condition of their format holds
(00_scope.md R8, 30_encoding.md R139, R162): KMOVB 92 and LDTILECFG with W = 1, NP F3 /0, and the same with V or P2 or Mod
that the format forbids. -/
theorem test_decode_unlisted_vex :
    decode [0x62, 0xF1, 0xFD, 0x08, 0x92, 0xC0] = .refused .unlistedVex ∧
    decode [0x62, 0xF1, 0xF5, 0x08, 0x92, 0xC0] = .ud ∧ decode [0x62, 0xF1, 0xFD, 0x08, 0x92, 0x00] = .ud ∧
    decode [0x62, 0xF2, 0xFC, 0x08, 0x49, 0x00] = .refused .unlistedVex ∧
    decode [0x62, 0xF2, 0x7C, 0x08, 0xF3, 0xC0] = .refused .unlistedVex ∧ decode [0x62, 0xF2, 0x7C, 0x28, 0xF3, 0xC0] = .ud := by
  decide

/-- A table word with its first byte highest, and with its first byte lowest (notes/assumptions/14.md). -/
theorem test_table_words :
    decodeTableWord 48 0x62F46C1801C8 = some (.addRmR .o32 (.reg 0) 1 (some 2) false) ∧
    decodeTableWord 48 0xC801186CF462 = some (.addRmR .o32 (.reg 0) 1 (some 2) false) ∧
    decodeTableWord 24 0xD51050 = some (.rex2PushR 16) := by
  decide

/-! ### Single steps -/

/-- Reset with every feature and control on, at CPL 3, RIP = 0x1000. -/
def base : State :=
  { State.reset with
    rip := 0x1000
    ctrl := ⟨true, true, false, false, true, true, true, false, true, true, true, true, true, true, true, true, true,
      true⟩ }

/-- The outcome of one step from `base` with these code bytes, registers, flags and stores (address, bytes, value). -/
def go (code : List Byte) (regs : List (RegId × Word)) (f : Flags) (stores : List (Word × Nat × Nat)) : Result :=
  step { base with
    gpr := regs.foldl (fun g p => g.set p.1.toNat p.2) base.gpr
    flags := f
    mem := stores.foldl (fun m p => writeBytes m p.1 (leBytes p.2.1 p.2.2)) (writeBytes [] base.rip code) }

/-- A view of the next state, if there is one. -/
def after {α : Type} (o : Result) (f : State → α) : Option α :=
  match o with
  | .next t => some (f t)
  | .fault _ => none
  | .refused _ => none

/-- The exception of an outcome, if it is one. -/
def excOf (o : Result) : Option Exc :=
  match o with
  | .next _ => none
  | .fault (.exception e) => some e
  | .fault .stopAddress => none
  | .refused _ => none

/-- The n-byte value at an address. -/
def peek (t : State) (a : Word) (n : Nat) : Nat := leValue (readBytes t.mem a n)

/-- No flag set. -/
def f0 : Flags := Flags.clear

/-- CF alone. -/
def fC : Flags := ⟨true, false, false, false, false, false⟩

/-- ZF alone. -/
def fZ : Flags := ⟨false, false, false, true, false, false⟩

/-- 95_test_vectors.md B1 row 1. -/
theorem test_step_inc_ndd :
    after (go [0x62, 0xF4, 0xFC, 0x18, 0xFF, 0x03] [(3, 0x9000)] fC
      [(0x9000, 8, 0xFFFFFFFF)]) (fun t => (t.getGpr 0, t.flags)) = some ((0x100000000, ⟨true, true, true, false, false, false⟩)) := by
  decide +kernel
/-- 95_test_vectors.md B1 row 2. -/
theorem test_step_add_ndd32 :
    after (go [0x62, 0xF4, 0x6C, 0x18, 0x01, 0xC8] [(0, 0xFFFFFFFF7FFFFFFF), (1, 0x1)] f0
      []) (fun t => (t.getGpr 2, t.flags)) = some ((0x80000000, ⟨false, true, true, false, true, true⟩)) := by
  decide +kernel
/-- 95_test_vectors.md B1 row 3. -/
theorem test_step_add_ndd8 :
    after (go [0x62, 0xEC, 0x7C, 0x10, 0x00, 0xD1] [(16, 0xFFFFFFFFFFFFFFFF), (17, 0xFF), (18, 0x1)] f0
      []) (fun t => (t.getGpr 16, t.flags)) = some ((0, ⟨true, true, true, true, false, false⟩)) := by
  decide +kernel
/-- 95_test_vectors.md B1 row 4. -/
theorem test_step_sub_merge16 :
    after (go [0x62, 0xEC, 0x7D, 0x08, 0x29, 0xC8] [(16, 0xAAAAAAAAAAAA0001), (17, 0x2)] f0
      []) (fun t => (t.getGpr 16, t.flags)) = some ((0xAAAAAAAAAAAAFFFF, ⟨true, true, true, false, true, false⟩)) := by
  decide +kernel
/-- 95_test_vectors.md B1 row 5. -/
theorem test_step_sub_ndd16 :
    after (go [0x62, 0xEC, 0x6D, 0x10, 0x29, 0xC8] [(16, 0xAAAAAAAAAAAA0001), (17, 0x2), (18, 0x5555555555555555)] f0
      []) (fun t => (t.getGpr 18, t.getGpr 16)) = some ((0xFFFF, 0xAAAAAAAAAAAA0001)) := by
  decide +kernel
/-- 95_test_vectors.md B1 row 7. -/
theorem test_step_adc_ndd :
    after (go [0x62, 0xEC, 0xFC, 0x10, 0x11, 0xD1] [(17, 0xFFFFFFFFFFFFFFFF)] fC
      []) (fun t => (t.getGpr 16, t.flags)) = some ((0, ⟨true, true, true, true, false, false⟩)) := by
  decide +kernel
/-- 95_test_vectors.md B1 row 9. -/
theorem test_step_and_ndd :
    after (go [0x62, 0xEC, 0xFC, 0x10, 0x23, 0x4A, 0x08] [(17, 0xFF00FF00FF00FF00), (18, 0x9000)] fC
      [(0x9008, 8, 0xFF00FF00FF00FF0)]) (fun t => (t.getGpr 16, t.flags.cf, t.flags.pf)) = some ((0x0F000F000F000F00, false, true)) := by
  decide +kernel
/-- 95_test_vectors.md B1 row 10. -/
theorem test_step_xor_imm16 :
    after (go [0x62, 0xFC, 0x7D, 0x10, 0x81, 0xF1, 0x00, 0xFF] [(17, 0xF0F0)] f0
      []) (fun t => (t.getGpr 16, t.flags.zf)) = some ((0xFF0, false)) := by
  decide +kernel
/-- 95_test_vectors.md B1 row 11. -/
theorem test_step_or_imm8 :
    after (go [0x62, 0xFC, 0x7C, 0x10, 0x80, 0xC9, 0x80] [(17, 0x1)] f0
      []) (fun t => (t.getGpr 16, t.flags.sf)) = some ((0x81, true)) := by
  decide +kernel
/-- 95_test_vectors.md B1 row 13. -/
theorem test_step_sbb :
    after (go [0x62, 0xEC, 0x7C, 0x08, 0x19, 0xC8] [] fC
      []) (fun t => (t.getGpr 16, t.flags)) = some ((0xFFFFFFFF, ⟨true, true, true, false, true, false⟩)) := by
  decide +kernel
/-- 95_test_vectors.md B1 row 14. -/
theorem test_step_neg :
    after (go [0x62, 0xFC, 0xFC, 0x10, 0xF7, 0xD9] [(17, 0x1)] f0
      []) (fun t => (t.getGpr 16, t.flags)) = some ((0xFFFFFFFFFFFFFFFF, ⟨true, true, true, false, true, false⟩)) := by
  decide +kernel
/-- 95_test_vectors.md B1 row 15. -/
theorem test_step_not :
    after (go [0x62, 0xFC, 0xFC, 0x10, 0xF7, 0xD1] [(17, 0xFFFFFFFF)] fZ
      []) (fun t => (t.getGpr 16, t.flags)) = some ((0xFFFFFFFF00000000, fZ)) := by
  decide +kernel
/-- 95_test_vectors.md B1 row 16. -/
theorem test_step_dec8 :
    after (go [0x62, 0xFC, 0x7C, 0x08, 0xFE, 0xC8] [(16, 0x1234567890ABCD80)] fC
      []) (fun t => (t.getGpr 16, t.flags)) = some ((0x1234567890ABCD7F, ⟨true, false, true, false, false, true⟩)) := by
  decide +kernel
/-- 95_test_vectors.md B1 row 18. -/
theorem test_step_adcx :
    after (go [0x62, 0xEC, 0xFD, 0x10, 0x66, 0xCA] [(17, 0xFFFFFFFFFFFFFFFF)] fC
      []) (fun t => (t.getGpr 16, t.flags)) = some ((0, fC)) := by
  decide +kernel
/-- 95_test_vectors.md B1 row 19. -/
theorem test_step_adox :
    after (go [0x62, 0xEC, 0x7E, 0x08, 0x66, 0xC1] [(16, 0xFFFFFFFF), (17, 0x1)] f0
      []) (fun t => (t.getGpr 16, t.flags)) = some ((0, ⟨false, false, false, false, false, true⟩)) := by
  decide +kernel
/-- 95_test_vectors.md B1 row 20. -/
theorem test_step_add_rip_relative :
    after (go [0x62, 0xE4, 0xF4, 0x10, 0x03, 0x05, 0x10, 0x00, 0x00, 0x00] [(16, 0x1)] f0
      [(0x101A, 8, 0x2)]) (fun t => (t.getGpr 17, t.rip)) = some ((3, 0x100A)) := by
  decide +kernel
/-- 95_test_vectors.md B2 row 1. -/
theorem test_step_shl :
    after (go [0x62, 0xFC, 0xFC, 0x10, 0xC1, 0xE1, 0x04] [(17, 0x1000000000000001)] f0
      []) (fun t => (t.getGpr 16, t.flags.cf, t.flags.zf)) = some ((0x10, true, false)) := by
  decide +kernel
/-- 95_test_vectors.md B2 row 3. -/
theorem test_step_shl_zero_count :
    after (go [0x62, 0xFC, 0x7C, 0x08, 0xC1, 0xE0, 0x00] [(16, 0xFFFFFFFF00000001)] fC
      []) (fun t => (t.getGpr 16, t.flags)) = some ((1, fC)) := by
  decide +kernel
/-- 95_test_vectors.md B2 row 4. -/
theorem test_step_sar :
    after (go [0x62, 0xF4, 0xFC, 0x18, 0xC1, 0xFB, 0x3F] [(3, 0x8000000000000001)] f0
      []) (fun t => (t.getGpr 0, t.flags.cf, t.flags.sf)) = some ((0xFFFFFFFFFFFFFFFF, false, true)) := by
  decide +kernel
/-- 95_test_vectors.md B2 row 5. -/
theorem test_step_shr :
    after (go [0x62, 0xFC, 0x7D, 0x10, 0xD1, 0xE9] [(17, 0xFFFFFFFFFFFF8001)] f0
      []) (fun t => (t.getGpr 16, t.flags.cf, t.flags.of)) = some ((0x4000, true, true)) := by
  decide +kernel
/-- 95_test_vectors.md B2 row 6. -/
theorem test_step_rol_nf :
    after (go [0x62, 0xFC, 0x7C, 0x14, 0xC1, 0xC1, 0x08] [(17, 0x11223344)] fZ
      []) (fun t => (t.getGpr 16, t.flags)) = some ((0x22334411, fZ)) := by
  decide +kernel
/-- 95_test_vectors.md B2 row 8. -/
theorem test_step_ror :
    after (go [0x62, 0xFC, 0xFC, 0x08, 0xD1, 0xC8] [(16, 0x1)] f0
      []) (fun t => (t.getGpr 16, t.flags)) = some ((0x8000000000000000, ⟨true, false, false, false, false, true⟩)) := by
  decide +kernel
/-- 95_test_vectors.md B2 row 9. -/
theorem test_step_rcl :
    after (go [0x62, 0xFC, 0xFC, 0x10, 0xD1, 0xD1] [(17, 0x8000000000000000)] f0
      []) (fun t => (t.getGpr 16, t.flags)) = some ((0, ⟨true, false, false, false, false, true⟩)) := by
  decide +kernel
/-- 95_test_vectors.md B2 row 10. -/
theorem test_step_rcl_full_turn :
    after (go [0x62, 0xFC, 0x7C, 0x10, 0xC0, 0xD1, 0x09] [(16, 0xFFFFFFFFFFFFFFFF), (17, 0xA5)] fC
      []) (fun t => (t.getGpr 16, t.flags.cf)) = some ((0xA5, true)) := by
  decide +kernel
/-- 95_test_vectors.md B2 row 11. -/
theorem test_step_rcr :
    after (go [0x62, 0xFC, 0x7C, 0x10, 0xD1, 0xD9] [(17, 0x1)] fC
      []) (fun t => (t.getGpr 16, t.flags)) = some ((0x80000000, ⟨true, false, false, false, false, true⟩)) := by
  decide +kernel
/-- 95_test_vectors.md B2 row 12. -/
theorem test_step_shld :
    after (go [0x62, 0xEC, 0xFC, 0x10, 0x24, 0xD1, 0x0C] [(17, 0xABC), (18, 0xDEF0000000000000)] f0
      []) (fun t => (t.getGpr 16, t.flags.pf)) = some ((0xABCDEF, false)) := by
  decide +kernel
/-- 95_test_vectors.md B2 row 13. -/
theorem test_step_shrd :
    after (go [0x62, 0xEC, 0x7C, 0x10, 0xAD, 0x11] [(17, 0x9000), (18, 0xAB), (1, 0x8)] f0
      [(0x9000, 4, 0x12345678)]) (fun t => (t.getGpr 16, peek t 0x9000 4)) = some ((0xAB123456, 0x12345678)) := by
  decide +kernel
/-- 95_test_vectors.md B3 row 1. -/
theorem test_step_mul8 :
    after (go [0x62, 0xFC, 0x7C, 0x08, 0xF6, 0xE0] [(0, 0xFFFFFFFFFFFF0010), (16, 0x10)] f0
      []) (fun t => (t.getGpr 0, t.flags.cf, t.flags.of)) = some ((0xFFFFFFFFFFFF0100, true, true)) := by
  decide +kernel
/-- 95_test_vectors.md B3 row 2. -/
theorem test_step_div_nf :
    after (go [0x62, 0xFC, 0xFC, 0x0C, 0xF7, 0xF0] [(0, 0x64), (16, 0x7)] fZ
      []) (fun t => (t.getGpr 0, t.getGpr 2, t.flags)) = some ((14, 2, fZ)) := by
  decide +kernel
/-- 95_test_vectors.md B3 row 5. -/
theorem test_step_idiv :
    after (go [0x62, 0xFC, 0x7C, 0x08, 0xF7, 0xF9] [(0, 0xFFFFFFF9), (2, 0xFFFFFFFF), (17, 0x2)] f0
      []) (fun t => (t.getGpr 0, t.getGpr 2)) = some ((0xFFFFFFFD, 0xFFFFFFFF)) := by
  decide +kernel
/-- 95_test_vectors.md B3 row 7. -/
theorem test_step_imul :
    after (go [0x62, 0xEC, 0xFC, 0x10, 0xAF, 0xCA] [(17, 0x100000000), (18, 0x100000000)] f0
      []) (fun t => (t.getGpr 16, t.flags.cf, t.flags.of)) = some ((0, true, true)) := by
  decide +kernel
/-- 95_test_vectors.md B3 row 8. -/
theorem test_step_imul_zu :
    after (go [0x62, 0xEC, 0x7D, 0x18, 0x69, 0xC1, 0x34, 0x12] [(16, 0xFFFFFFFFFFFFFFFF), (17, 0x2)] f0
      []) (fun t => (t.getGpr 16, t.flags.cf)) = some ((0x2468, false)) := by
  decide +kernel
/-- 95_test_vectors.md B3 row 10. -/
theorem test_step_lzcnt :
    after (go [0x62, 0xEC, 0xFC, 0x08, 0xF5, 0xC1] [] f0
      []) (fun t => (t.getGpr 16, t.flags.cf, t.flags.zf)) = some ((64, true, false)) := by
  decide +kernel
/-- 95_test_vectors.md B3 row 11. -/
theorem test_step_tzcnt :
    after (go [0x62, 0xEC, 0x7D, 0x08, 0xF4, 0xC1] [(16, 0xFFFFFFFFFFFFFFFF), (17, 0x8)] fZ
      []) (fun t => (t.getGpr 16, t.flags.cf, t.flags.zf)) = some ((0xFFFFFFFFFFFF0003, false, false)) := by
  decide +kernel
/-- 95_test_vectors.md B3 row 13. -/
theorem test_step_popcnt :
    after (go [0x62, 0xEC, 0x7C, 0x08, 0x88, 0xC1] [(16, 0x5)] fC
      []) (fun t => (t.getGpr 16, t.flags)) = some ((0, fZ)) := by
  decide +kernel
/-- 95_test_vectors.md B3 row 15. -/
theorem test_step_crc32 :
    after (go [0x62, 0xEC, 0x7C, 0x08, 0xF0, 0xC1] [(17, 0x1)] f0
      []) (fun t => t.getGpr 16) = some (0xF26B8303) := by
  decide +kernel
/-- 95_test_vectors.md B3 row 16. -/
theorem test_step_movbe :
    after (go [0x62, 0xEC, 0x7C, 0x08, 0x60, 0xC1] [(17, 0x11223344)] f0
      []) (fun t => t.getGpr 16) = some (0x44332211) := by
  decide +kernel
/-- 95_test_vectors.md B3 row 18. -/
theorem test_step_movdir64b :
    after (go [0x62, 0xEC, 0x7D, 0x08, 0xF8, 0x01] [(16, 0xA000), (17, 0x9000)] f0
      [(0x9000, 8, 0x1122334455667788), (0x9038, 8, 0x99)]) (fun t => (peek t 0xA000 8, peek t 0xA038 8)) = some ((0x1122334455667788, 0x99)) := by
  decide +kernel
/-- 95_test_vectors.md B4 row 1. -/
theorem test_step_andn :
    after (go [0x62, 0xEA, 0xF4, 0x00, 0xF2, 0xC2] [(17, 0xF), (18, 0xFF)] fC
      []) (fun t => (t.getGpr 16, t.flags.cf)) = some ((0xF0, false)) := by
  decide +kernel
/-- 95_test_vectors.md B4 row 3. -/
theorem test_step_bextr :
    after (go [0x62, 0xEA, 0x6C, 0x00, 0xF7, 0x01] [(17, 0x9000), (18, 0x804)] f0
      [(0x9000, 4, 0x12345678)]) (fun t => (t.getGpr 16, t.flags.zf)) = some ((0x67, false)) := by
  decide +kernel
/-- 95_test_vectors.md B4 row 5. -/
theorem test_step_blsmsk :
    after (go [0x62, 0xFA, 0x7C, 0x00, 0xF3, 0xD1] [] f0
      []) (fun t => (t.getGpr 16, t.flags.cf, t.flags.sf)) = some ((0xFFFFFFFF, true, true)) := by
  decide +kernel
/-- 95_test_vectors.md B4 row 7. -/
theorem test_step_bzhi :
    after (go [0x62, 0xEA, 0xEC, 0x00, 0xF5, 0xC1] [(17, 0xFFFF), (18, 0x4)] fC
      []) (fun t => (t.getGpr 16, t.flags.cf)) = some ((0xF, false)) := by
  decide +kernel
/-- 95_test_vectors.md B4 row 8. -/
theorem test_step_cmpccxadd :
    after (go [0x62, 0xEA, 0xED, 0x00, 0xE2, 0x08] [(16, 0x9000), (17, 0x9), (18, 0x64)] f0
      [(0x9000, 8, 0x5)]) (fun t => (peek t 0x9000 8, t.getGpr 17, t.flags)) = some ((105, 5, ⟨true, true, true, false, true, false⟩)) := by
  decide +kernel
/-- 95_test_vectors.md B4 row 10. -/
theorem test_step_mulx :
    after (go [0x62, 0xEA, 0xF7, 0x00, 0xF6, 0xC2] [(2, 0x8000000000000000), (18, 0x4)] fZ
      []) (fun t => (t.getGpr 17, t.getGpr 16, t.flags)) = some ((0, 2, fZ)) := by
  decide +kernel
/-- 95_test_vectors.md B4 row 11. -/
theorem test_step_pdep :
    after (go [0x62, 0xEA, 0xF7, 0x00, 0xF5, 0xC2] [(17, 0xB), (18, 0xF0F0)] f0
      []) (fun t => t.getGpr 16) = some (0xB0) := by
  decide +kernel
/-- 95_test_vectors.md B4 row 12. -/
theorem test_step_pext :
    after (go [0x62, 0xEA, 0xF6, 0x00, 0xF5, 0xC2] [(17, 0xABCD), (18, 0xF0F0)] f0
      []) (fun t => t.getGpr 16) = some (0xAC) := by
  decide +kernel
/-- 95_test_vectors.md B4 row 14. -/
theorem test_step_shlx :
    after (go [0x62, 0xEA, 0x6D, 0x00, 0xF7, 0xC1] [(17, 0x1), (18, 0x23)] f0
      []) (fun t => t.getGpr 16) = some (8) := by
  decide +kernel
/-- 95_test_vectors.md B4 row 15. -/
theorem test_step_sarx :
    after (go [0x62, 0xEA, 0xEE, 0x00, 0xF7, 0xC1] [(17, 0x8000000000000000), (18, 0x4)] f0
      []) (fun t => t.getGpr 16) = some (0xF800000000000000) := by
  decide +kernel
/-- 95_test_vectors.md B4 row 19. -/
theorem test_step_kmovw :
    after (go [0x62, 0xF9, 0x7C, 0x08, 0x92, 0xC8] [(16, 0xFFFFFFFFFFFF1234)] f0
      []) (fun t => t.getK 1) = some (0x1234) := by
  decide +kernel
/-- 95_test_vectors.md B5 row 10. -/
theorem test_step_wrssd :
    after (go [0x62, 0xEC, 0x7C, 0x08, 0x66, 0x08] [(16, 0x9004), (17, 0x11223344)] f0
      []) (fun t => peek t 0x9004 4) = some (0x11223344) := by
  decide +kernel
/-- 95_test_vectors.md B6 row 4. -/
theorem test_step_jmpabs :
    after (go [0xD5, 0x77, 0xA1, 0xBC, 0x9A, 0x78, 0x56, 0x34, 0x12, 0x00, 0x00] [] f0
      []) (fun t => t.rip) = some (0x123456789ABC) := by
  decide +kernel
/-- 95_test_vectors.md B6 row 7. -/
theorem test_step_push :
    after (go [0xD5, 0x10, 0x50] [(4, 0x8000), (16, 0x1122334455667788)] f0
      []) (fun t => (t.rsp, peek t 0x7FF8 8)) = some ((0x7FF8, 0x1122334455667788)) := by
  decide +kernel
/-- 95_test_vectors.md B6 row 8. -/
theorem test_step_popp :
    after (go [0xD5, 0x19, 0x5F] [(4, 0x7FF8)] f0
      [(0x7FF8, 8, 0x7)]) (fun t => (t.getGpr 31, t.rsp)) = some ((7, 0x8000)) := by
  decide +kernel
/-- 95_test_vectors.md B6 row 10. -/
theorem test_step_rex2_sub16 :
    after (go [0x66, 0xD5, 0x50, 0x2B, 0x01] [(16, 0xAAAAAAAAAAAA0005), (17, 0x9000)] f0
      [(0x9000, 2, 0x6)]) (fun t => (t.getGpr 16, t.flags)) = some ((0xAAAAAAAAAAAAFFFF, ⟨true, true, true, false, true, false⟩)) := by
  decide +kernel
/-- 95_test_vectors.md B6 row 14. -/
theorem test_step_rex2_lea :
    after (go [0xD5, 0x78, 0x8D, 0x44, 0x91, 0x10] [(17, 0x1000), (18, 0x3)] f0
      []) (fun t => t.getGpr 16) = some (0x101C) := by
  decide +kernel
/-- 95_test_vectors.md B6 row 15. -/
theorem test_step_rex2_cmp :
    after (go [0xD5, 0x18, 0x83, 0xF8, 0x05] [(16, 0x5)] fC
      []) (fun t => (t.getGpr 16, t.flags)) = some ((5, ⟨false, true, false, true, false, false⟩)) := by
  decide +kernel
/-- 95_test_vectors.md B6 row 18. -/
theorem test_step_rex2_cmov_false32 :
    after (go [0xD5, 0xD0, 0x42, 0xC1] [(16, 0xFFFFFFFF00000001)] f0
      []) (fun t => t.getGpr 16) = some (1) := by
  decide +kernel
/-- 95_test_vectors.md B6 row 20. -/
theorem test_step_rex2_movzx :
    after (go [0xD5, 0xD0, 0xB6, 0x01] [(16, 0x5), (17, 0x9000)] f0
      [(0x9000, 1, 0xFF)]) (fun t => t.getGpr 16) = some (0xFF) := by
  decide +kernel
/-- 95_test_vectors.md B7 row 1. -/
theorem test_step_ccmp_true :
    after (go [0x62, 0xEC, 0xCC, 0x02, 0x39, 0xC8] [(16, 0x3), (17, 0x3)] fC
      []) (fun t => t.flags) = some (⟨false, true, false, true, false, false⟩) := by
  decide +kernel
/-- 95_test_vectors.md B7 row 2. -/
theorem test_step_ccmp_false :
    after (go [0x62, 0xEC, 0xCC, 0x02, 0x39, 0xC8] [(16, 0x3), (17, 0x3)] f0
      []) (fun t => t.flags) = some (⟨true, true, false, false, false, true⟩) := by
  decide +kernel
/-- 95_test_vectors.md B7 row 7. -/
theorem test_step_ctest_false :
    after (go [0x62, 0xEC, 0x8C, 0x04, 0x85, 0xC0] [(16, 0x8000000000000000)] f0
      []) (fun t => t.flags) = some (⟨true, true, false, false, false, false⟩) := by
  decide +kernel
/-- 95_test_vectors.md B7 row 10. -/
theorem test_step_cfcmov_suppressed :
    after (go [0x62, 0xEC, 0xFC, 0x08, 0x44, 0x01] [(16, 0x77), (17, 0xDEAD000000000000)] f0
      []) (fun t => t.getGpr 16) = some (0) := by
  decide +kernel
/-- 95_test_vectors.md B7 row 12. -/
theorem test_step_cfcmov_16 :
    after (go [0x62, 0xEC, 0x7D, 0x08, 0x45, 0x01] [(16, 0xFFFFFFFFFFFFFFFF), (17, 0x9000)] f0
      [(0x9000, 2, 0xBEEF)]) (fun t => t.getGpr 16) = some (0xBEEF) := by
  decide +kernel
/-- 95_test_vectors.md B7 row 17. -/
theorem test_step_setcc :
    after (go [0x62, 0xFC, 0x7F, 0x08, 0x44, 0xC0] [(16, 0xFFFFFFFFFFFFFFFF)] fZ
      []) (fun t => t.getGpr 16) = some (0xFFFFFFFFFFFFFF01) := by
  decide +kernel
/-- 95_test_vectors.md B7 row 18. -/
theorem test_step_setcc_zu :
    after (go [0x62, 0xFC, 0x7F, 0x18, 0x44, 0xC0] [(16, 0xFFFFFFFFFFFFFFFF)] fZ
      []) (fun t => t.getGpr 16) = some (1) := by
  decide +kernel
/-- 95_test_vectors.md B8 row 1. -/
theorem test_step_push2 :
    after (go [0x62, 0xFC, 0x7C, 0x10, 0xFF, 0xF1] [(4, 0x8000), (16, 0x1111111111111111), (17, 0x2222222222222222)] f0
      []) (fun t => (peek t 0x7FF8 8, peek t 0x7FF0 8, t.rsp)) = some ((0x1111111111111111, 0x2222222222222222, 0x7FF0)) := by
  decide +kernel
/-- 95_test_vectors.md B8 row 2. -/
theorem test_step_pop2 :
    after (go [0x62, 0xFC, 0x74, 0x10, 0x8F, 0xC0] [(4, 0x7FF0)] f0
      [(0x7FF0, 8, 0x2222), (0x7FF8, 8, 0x1111)]) (fun t => (t.getGpr 17, t.getGpr 16, t.rsp)) = some ((0x2222, 0x1111, 0x8000)) := by
  decide +kernel
/-- 95_test_vectors.md B3 row 3. -/
theorem test_trap_div_by_zero : excOf (go [0x62, 0xFC, 0xFC, 0x0C, 0xF7, 0xF0] [] f0 []) = some .de := by
  decide +kernel
/-- 95_test_vectors.md B3 row 6. -/
theorem test_trap_idiv_overflow : excOf (go [0x62, 0xFC, 0x7C, 0x08, 0xF7, 0xF9] [(0, 0x80000000), (2, 0xFFFFFFFF), (17, 0xFFFFFFFF)] f0 []) = some .de := by
  decide +kernel
/-- 95_test_vectors.md B3 row 19. -/
theorem test_trap_movdir64b_misaligned : excOf (go [0x62, 0xEC, 0x7D, 0x08, 0xF8, 0x01] [(16, 0xA008), (17, 0x9000)] f0 []) = some .gp := by
  decide +kernel
/-- 95_test_vectors.md B3 row 21. -/
theorem test_trap_enqcmds_user : excOf (go [0x62, 0xEC, 0x7E, 0x08, 0xF8, 0x01] [] f0 []) = some .gp := by
  decide +kernel
/-- 95_test_vectors.md B4 row 9. -/
theorem test_trap_cmpccxadd_misaligned : excOf (go [0x62, 0xEA, 0x6D, 0x00, 0xE4, 0x48, 0x02] [(16, 0x9000)] f0 []) = some .gp := by
  decide +kernel
/-- 95_test_vectors.md B5 row 8. -/
theorem test_trap_invept_user : excOf (go [0x62, 0xEC, 0x7E, 0x08, 0xF0, 0x01] [] f0 []) = some .gp := by
  decide +kernel
/-- 95_test_vectors.md B5 row 9. -/
theorem test_trap_invpcid_user : excOf (go [0x62, 0xEC, 0x7E, 0x08, 0xF2, 0x01] [] f0 []) = some .gp := by
  decide +kernel
/-- 95_test_vectors.md B5 row 11. -/
theorem test_trap_wrussq_user : excOf (go [0x62, 0xEC, 0xFD, 0x08, 0x65, 0x08] [(16, 0x9000)] f0 []) = some .gp := by
  decide +kernel
/-- 95_test_vectors.md B6 row 2. -/
theorem test_trap_jmpabs_non_canonical : excOf (go [0xD5, 0x00, 0xA1, 0x00, 0x00, 0x00, 0x00, 0x00, 0x80, 0x00, 0x00] [] f0 []) = some .gp := by
  decide +kernel
/-- 95_test_vectors.md B7 row 5. -/
theorem test_trap_ccmp_not_suppressed : excOf (go [0x62, 0xFC, 0x84, 0x0B, 0x83, 0x38, 0x05] [(16, 0x800000000000)] f0 []) = some .gp := by
  decide +kernel
/-- 95_test_vectors.md B7 row 16. -/
theorem test_trap_cmov_not_suppressed : excOf (go [0x62, 0xEC, 0xEC, 0x10, 0x42, 0x01] [(17, 0xDEAD000000000000)] f0 []) = some .gp := by
  decide +kernel
/-- 95_test_vectors.md B8 row 4. -/
theorem test_trap_push2_misaligned : excOf (go [0x62, 0xF4, 0x7C, 0x18, 0xFF, 0xF3] [(4, 0x7FF8)] f0 []) = some .gp := by
  decide +kernel
/-- 95_test_vectors.md B8 row 5. -/
theorem test_trap_push2_rsp : excOf (go [0x62, 0xF4, 0x5C, 0x18, 0xFF, 0xF0] [(4, 0x8000)] f0 []) = some .ud := by
  decide +kernel
/-- 95_test_vectors.md B8 row 6. -/
theorem test_trap_pop2_same : excOf (go [0x62, 0xF4, 0x7C, 0x18, 0x8F, 0xC0] [(4, 0x8000)] f0 []) = some .ud := by
  decide +kernel
/-- 95_test_vectors.md B8 row 10. -/
theorem test_trap_push2_non_canonical : excOf (go [0x62, 0xF4, 0x7C, 0x18, 0xFF, 0xF3] [(4, 0x800000000010)] f0 []) = some .ss := by
  decide +kernel
/-- 95_test_vectors.md B9 row 11. -/
theorem test_trap_base_rbp_is_ss : excOf (go [0x62, 0xF4, 0xFC, 0x08, 0x03, 0x45, 0x00] [(5, 0x800000000000)] f0 []) = some .ss := by
  decide +kernel
/-- 95_test_vectors.md B9 row 12. -/
theorem test_trap_last_byte_non_canonical : excOf (go [0x62, 0xFC, 0xFC, 0x08, 0x03, 0x00] [(16, 0x7FFFFFFFFFFC)] f0 []) = some .gp := by
  decide +kernel
/-- 95_test_vectors.md B9 row 15. -/
theorem test_trap_too_long : excOf (go [0x2E, 0x67, 0x62, 0xFC, 0x78, 0x08, 0x81, 0x84, 0x91, 0x78, 0x56, 0x34, 0x12, 0x44, 0x33, 0x22, 0x11] [] f0 []) = some .gp := by
  decide +kernel
/-- REX2 MOV from CR1 and from CR16 raises #UD, from CR3 it is refused (10_state.md R42). -/
theorem test_absent_control_register :
    excOf (step { base with mem := writeBytes [] base.rip [0xD5, 0x80, 0x20, 0xC8] }) = some .ud ∧
    excOf (step { base with mem := writeBytes [] base.rip [0xD5, 0xC0, 0x20, 0xC0] }) = some .ud ∧
    (step { base with mem := writeBytes [] base.rip [0xD5, 0x80, 0x20, 0xD8] }) = .refused .rex2OutsideSubset :=
  ⟨by decide +kernel, by decide +kernel, rfl⟩

/-- The component orders and the place of the component (10_state.md R47), the combined features (00_scope.md R9). -/
theorem test_events :
    compactedOrder 0xC0007 = [0, 1, 2, 18, 19] ∧ apxOffset = 960 ∧
    Features.avx10_1 { Features.all with avx10Version := 0 } = false ∧
    Features.keylockerWide { Features.all with aeskle := false } = false ∧ Features.keylockerWide Features.all = true := by
  decide +kernel

/-- Without APX enabled every APX instruction is #UD (95_test_vectors.md B9 row 1); with a table word placed it runs. -/
theorem test_enabling :
    excOf (step { State.reset with mem := writeBytes [] 0 [0xD5, 0x58, 0x01, 0xC8] }) = some .ud ∧
    after (step (State.reset.withFetchWord 48 0x62F46C1801C8)) (fun t => t.rip) = some 6 := by
  decide +kernel

/-! ### Witnesses: a concrete state and operands that meet the hypotheses of each statement -/

/-- Every control on, at CPL 0, APX state in use, R18 and RSP at 0x9000, one tile of two rows of four bytes. -/
def on : State :=
  { base with
    gpr := (base.gpr.set 18 0x9000).set 4 0x9000
    xinuse19 := true
    cpl := 0
    tile := ⟨true, Vector.replicate 8 ⟨true, 2, 4⟩, 0⟩
    mem := [(0x1000, 0xD5), (0x1001, 0x58), (0x1002, 0x01), (0x1003, 0xC8)] }

/-- `on` at CPL 3. -/
def user : State := { on with cpl := 3 }

/-- `on` with CR0.TS = 1. -/
def tsSet : State := { on with ctrl := { on.ctrl with cr0Ts := true } }

/-- `on` with these GPRs replaced. -/
def onWith (regs : List (RegId × Word)) : State :=
  { on with gpr := regs.foldl (fun g p => g.set p.1.toNat p.2) on.gpr }

/-- `on` with these code bytes at RIP. -/
def coded (code : List Byte) : State := { on with mem := writeBytes [] on.rip code }

/-- Reset with `add rax, rcx` placed: the EGPRs are 0 and XINUSE[19] = 0. -/
def fresh : State := State.reset.placeCode [0xD5, 0x08, 0x01, 0xC8]

/-- An access at an address: read or written, class with #AC, no mandatory alignment. -/
def acc (a : Word) (n : Nat) (align : Nat) : Access := ⟨a, n, .read, false, true, align⟩

/-- A negation of an equality by evaluation. -/
theorem some_ne_none {α : Type} (a : α) : (none : Option α) ≠ some a := nofun

theorem witness_ResetPowerUpAndInitValues :
    8 ≤ (8 : RegId).toNat ∧ (8 : RegId).toNat < 16 ∧ 8 ≤ (15 : RegId).toNat ∧ (15 : RegId).toNat < 16 ∧
      16 ≤ (16 : RegId).toNat ∧ 16 ≤ (31 : RegId).toNat := by decide

theorem witness_StepKeepsMemoryForm : fresh.memOk ∧ completes (step fresh) := ⟨rfl, _, rfl⟩

theorem fresh_apxInitOk : fresh.apxInitOk := by
  intro _ i _
  simp [fresh, State.placeCode, State.reset, State.getGpr]

theorem witness_StepKeepsApxInitState :
    (fresh.apxInitOk ∧ fresh.xinuse19 = false ∧ completes (step fresh)) ∧
      on.xinuse19 = true ∧ completes (step on) :=
  ⟨⟨fresh_apxInitOk, rfl, _, rfl⟩, rfl, _, rfl⟩

theorem witness_StepKeepsSystemState : completes (step on) ∧ completes (step fresh) := ⟨⟨_, rfl⟩, _, rfl⟩

theorem witness_StepRunsTheDecodedInstruction :
    on.params.stopAddress ≠ some on.rip ∧ Instr.wf (.rex2AddRmR .o64 (.reg 16) 17) = true ∧
      decode (fetchBytes on 0 15).1 = .ok (.rex2AddRmR .o64 (.reg 16) 17) (List.replicate 11 0) :=
  ⟨some_ne_none _, rfl, by decide⟩

theorem witness_StepRunsTheEncodedInstruction :
    Instr.wf (.rex2AddRmR .o64 (.reg 16) 17) = true ∧ (encode (.rex2AddRmR .o64 (.reg 16) 17)).length ≤ 15 ∧
      on.params.stopAddress ≠ some on.rip ∧
      (∀ j < (encode (.rex2AddRmR .o64 (.reg 16) 17)).length, fetchFault on j = none) ∧
      ∀ j < (encode (.rex2AddRmR .o64 (.reg 16) 17)).length,
        (encode (.rex2AddRmR .o64 (.reg 16) 17))[j]? = some (on.byteAt (on.rip + BitVec.ofNat 64 j)) :=
  ⟨rfl, by decide, some_ne_none _, by decide, by decide⟩

theorem witness_StepStops :
    (∃ s : State, s.params.stopAddress = some s.rip) ∧
    (decode (fetchBytes (coded [0xD5, 0x00, 0x70]) 0 15).1 = .ud) ∧
    (∃ s : State, s.params.stopAddress ≠ some s.rip ∧ decode (fetchBytes s 0 15).1 = .truncated ∧
      (fetchBytes s 0 15).2 = some .gp) ∧
    (∃ s : State, s.params.stopAddress ≠ some s.rip ∧ decode (fetchBytes s 0 15).1 = .truncated ∧
      (fetchBytes s 0 15).2 = none) ∧
    (decode (fetchBytes (coded [0x90]) 0 15).1 = .refused .notApx ∧ refusalUsesApx .notApx = false) ∧
    (decode (fetchBytes (coded [0xD5, 0x58, 0x87, 0xC8]) 0 15).1 = .refused .rex2Outside ∧
      (coded [0xD5, 0x58, 0x87, 0xC8]).apxEnabled = true ∧ refusalUsesApx .rex2Outside = true) ∧
    (decode (fetchBytes (coded [0xD5, 0x80, 0x20, 0xC8]) 0 15).1 = .refused (.movSystemReg false 1) ∧
      1 ∉ (coded [0xD5, 0x80, 0x20, 0xC8]).params.controlRegs) ∧
    (decode (fetchBytes (coded [0xD5, 0x84, 0x23, 0xC0]) 0 15).1 = .refused (.movSystemReg true 8) ∧
      8 ∉ (coded [0xD5, 0x84, 0x23, 0xC0]).params.debugRegs) ∧
    (decode (fetchBytes (coded [0xD5, 0x80, 0x20, 0xD8]) 0 15).1 = .refused (.movSystemReg false 3) ∧
      3 ∈ (coded [0xD5, 0x80, 0x20, 0xD8]).params.controlRegs) ∧
    ∃ s : State, decode (fetchBytes s 0 15).1 = .refused .rex2Outside ∧ s.params.stopAddress ≠ some s.rip ∧
      s.apxEnabled = false :=
  ⟨⟨{ on with params := { on.params with stopAddress := some on.rip } }, rfl⟩, by decide,
    ⟨{ on with rip := 0x800000000000 }, some_ne_none _, by decide, by decide⟩,
    ⟨coded [0x2E, 0x67, 0x62, 0xFC, 0x78, 0x08, 0x81, 0x84, 0x91, 0x78, 0x56, 0x34, 0x12, 0x44, 0x33],
      some_ne_none _, by decide, by decide⟩,
    by decide, by decide, by decide, by decide, by decide,
    { coded [0xD5, 0x58, 0x87, 0xC8] with ctrl := Control.reset }, by decide, some_ne_none _, by decide⟩

theorem witness_DecodeOfEncodeIsTheInstruction :
    Instr.wf (.subRmI8 .o64 (.mem ⟨some .fs, true, .sib 17 (some ⟨18, 3⟩) (.d8 0x10)⟩) 0xFF (some 16) true) = true := rfl

theorem witness_ForbiddenPrefixBeforeEvexIsUd :
    0x40 ≤ (0x40 : Byte).toNat ∧ (0x4F : Byte).toNat ≤ 0x4F ∧ 14 ≤ (List.replicate 14 (0 : Byte)).length := by decide

theorem witness_Rex2ReservedOpcodeRows :
    ((0x7F : Byte).getLsbD 7 = false ∧ (0x40 : Byte) ≠ 0xA1 ∧ (0x40 : Byte).toNat / 16 = 4 ∧
      (0x7F : Byte).toNat / 16 = 7 ∧ (0xA0 : Byte).toNat / 16 = 10 ∧ (0xEF : Byte).toNat / 16 = 14) ∧
    ((0x80 : Byte).getLsbD 7 = true ∧ (0x30 : Byte).toNat / 16 = 3 ∧ (0x8F : Byte).toNat / 16 = 8) ∧
    ((0x77 : Byte).getLsbD 7 = false ∧ (0x77 : Byte).getLsbD 3 = false ∧ (0x7F : Byte).getLsbD 3 = true) ∧
    (0xC4 : Byte).toNat ∈ [0x0F, 0x26, 0x2E, 0x36, 0x3E, 0x62, 0x64, 0x65, 0x66, 0x67, 0xC4, 0xC5, 0xD5, 0xF0, 0xF2, 0xF3] ∧
    (0x20 : Byte).toNat / 4 = 8 ∧ (0x23 : Byte).toNat / 4 = 8 ∧
    ((0x40 : Byte).toNat / 16 = 4 ∧ (0x4F : Byte).toNat / 16 = 4 ∧ decode [0xD5, 0x18, 0x01] = .truncated ∧
      decode [0xD5, 0x18, 0x01, 0xC1] ≠ .truncated) := by decide

theorem witness_ApxEnablingCondition :
    State.reset.apxEnabled = false ∧ on.apxEnabled = true ∧ { on with mode := .compatibility }.apxEnabled = false := by
  decide

theorem witness_FrameOfRegistersAndFlags : completes (exec (.addRmR .o64 (.reg 16) 17 (some 18) false) on) := ⟨_, rfl⟩

theorem witness_FrameOfMemory : on.memOk ∧ completes (exec (.addRmR .o64 (.mem mBase) 17 none true) on) ∧
    ∀ p ∈ (footprint on (.addRmR .o64 (.mem mBase) 17 none true)).stores, ∀ j < p.2,
      (0x9008 : Word) ≠ p.1 + BitVec.ofNat 64 j := ⟨rfl, ⟨_, rfl⟩, by decide⟩

theorem witness_FrameOfTheRest : completes (exec (.rex2CmpRmR .o64 (.mem mBase) 17) on) := ⟨_, rfl⟩

theorem witness_UpperBitsOfAWrittenRegister : (1 : RegId) ≠ 0 ∧ (63 : Nat) < 64 ∧ (8 : Nat) = 8 := by decide

theorem witness_MemoryIsLittleEndian : on.memOk ∧ (8 : Nat) ≤ 2 ^ 64 ∧ (7 : Nat) < 8 := ⟨rfl, by decide, by decide⟩

theorem witness_OrderOfAccessChecks :
    canonical on.params.laWidth (acc 0x800000000000 2 1).addr = false ∧
    canonical on.params.laWidth (0x7FFFFFFFFFFF + BitVec.ofNat 64 ((acc 0x7FFFFFFFFFFF 2 1).bytes - 1)) = false ∧
    (canonical on.params.laWidth 0x7FFFFFFFFFF0 = true ∧
      canonical on.params.laWidth (0x7FFFFFFFFFF0 + BitVec.ofNat 64 15) = true) ∧
    (acc 0x9001 4 4).addr.toNat % 4 ≠ 0 ∧ (acc 0x9004 4 4).addr.toNat % 4 = 0 ∧
    translateBytes [⟨0x9003, 0x9003, .read, 5⟩] .read 0x9000 4 = some 5 ∧
    translateBytes [⟨0x9004, 0x9004, .read, 5⟩] .read 0x9000 4 = none ∧
    user.cpl = 3 ∧ (acc 0x9001 2 1).addr.toNat % (acc 0x9001 2 1).bytes ≠ 0 := by
  decide

theorem witness_MeaningOfAddAndSubtractFlags : 0 < OpSize.bits .o8 := by decide

theorem witness_MeaningOfShiftsAndRotates :
    0 < OpSize.bits .o8 ∧ (63 : Nat) < OpSize.bits .o64 ∧ (1 : Nat) ≠ 0 ∧ (8 : Nat) ≤ OpSize.bits .o8 ∧
      2 ≤ OpSize.bits .o8 := by decide

theorem witness_MeaningOfRotatesThroughCarry :
    ((1 : Nat) < (if (8 : Nat) = 64 then 64 else 32) ∧ (1 : Nat) ≠ 0 ∧ (7 : Nat) < 8) ∧
      (63 : Nat) < (if (64 : Nat) = 64 then 64 else 32) ∧ (31 : Nat) < (if (8 : Nat) = 64 then 64 else 32) := by decide

theorem witness_MeaningOfBitCounts :
    (0 : BitVec 16) = 0 ∧ (1 : BitVec 16) ≠ 0 ∧ (0x8000 : BitVec 16) ≠ 0 ∧ 0 < 16 ∧ 31 < 32 := by decide

theorem witness_MeaningOfDepositAndExtract :
    15 < 16 ∧ (0x8001 : BitVec 16).getLsbD 15 = true ∧
      ((List.range 16).countP fun j => (0x8001 : BitVec 16).getLsbD j) ≤ 2 := by decide

theorem witness_MeaningOfDivision : 0 < OpSize.bits .o8 := by decide

theorem witness_MeaningOfMultiplication : 0 < OpSize.bits .o8 := by decide

theorem witness_LayoutOfTheApxStateComponent : (16 : Nat) ≤ 31 ∧ (31 : Nat) ≤ 31 ∧ (7 : Nat) < 8 := by decide

/-- `fresh` with R31 = 1 and so with XINUSE[19] = 1. -/
def used31 : State := fresh.setGpr 31 1

theorem witness_RestoringTheApxStateComponent :
    fresh.apxInitOk ∧ on.xinuse19 = true ∧ (∃ r : RegId, 16 ≤ r.toNat ∧ used31.getGpr r ≠ 0) ∧
      (0x80000 : BitVec 64).getLsbD 19 = true ∧ (0x7FFFF : BitVec 64).getLsbD 19 = false ∧
      1088 ≤ (List.replicate 1088 (0 : Byte)).length :=
  ⟨fresh_apxInitOk, rfl, ⟨31, by decide, by decide⟩, by decide, by decide, le_of_eq List.length_replicate.symm⟩

theorem witness_FieldsOfTheVmExitInformation :
    (Eii.scale ⟨some 0, 2, false, 2, 3, some 31, some 16, some 31, some 1⟩ = some 0 ∧
      Eii.reg1 ⟨some 0, 2, false, 2, 3, some 31, some 16, some 31, some 1⟩ = some 31 ∧
      Eii.reg2 ⟨some 0, 2, false, 2, 3, some 31, some 16, some 31, some 1⟩ = some 1) ∧
    (Eii.index ⟨some 0, 2, false, 2, 3, some 31, some 16, none, some 1⟩ = some 31) ∧
      Eii.base ⟨some 0, 2, false, 2, 3, some 31, some 16, none, some 1⟩ = some 16 := by decide

/-- The hypotheses of the families that read and write `r/m` operands of every size. -/
theorem ready :
    on.apxEnabled = true ∧ (∀ sz : OpSize, rmReady on sz.bits (.mem mBase)) ∧
    (∀ sz : OSize, rmReady on sz.bits (.mem mBase)) ∧ (∀ sz : YSize, rmReady on sz.bits (.mem mBase)) ∧
    (∀ i : Imm, rmReady on i.bits (.mem mBase)) ∧ (∀ i : ImmZ, rmReady on i.bits (.mem mBase)) ∧
    (∀ sz : SrcSize, rmReady on sz.bits (.mem mBase)) ∧
    (∀ sz : OpSize, dstReady on sz.bits (dstRM (.mem mBase) none)) ∧
    (∀ sz : OSize, dstReady on sz.bits (dstRM (.mem mBase) none)) ∧
    (∀ sz : YSize, dstReady on sz.bits (.mem mBase)) ∧
    (∀ i : Imm, dstReady on i.bits (dstRM (.mem mBase) none)) ∧
    ∀ sz : OpSize, dstReady on sz.bits (dstRM (.reg 18) (some 17)) := by
  have h8 : rmReady on 8 (.mem mBase) ∧ dstReady on 8 (dstRM (.mem mBase) none) := ⟨rfl, rfl⟩
  have h16 : rmReady on 16 (.mem mBase) ∧ dstReady on 16 (dstRM (.mem mBase) none) := ⟨rfl, rfl⟩
  have h32 : rmReady on 32 (.mem mBase) ∧ dstReady on 32 (dstRM (.mem mBase) none) := ⟨rfl, rfl⟩
  have h64 : rmReady on 64 (.mem mBase) ∧ dstReady on 64 (dstRM (.mem mBase) none) := ⟨rfl, rfl⟩
  refine ⟨rfl, ?_, ?_, ?_, ?_, ?_, ?_, ?_, ?_, ?_, ?_, ?_⟩ <;> intro x <;> cases x <;>
    first
      | exact h8.1
      | exact h16.1
      | exact h32.1
      | exact h64.1
      | exact h8.2
      | exact h16.2
      | exact h32.2
      | exact h64.2
      | trivial

theorem witness_EvexArithmeticAndLogic : on.apxEnabled = true ∧
    (∀ sz : OpSize, rmReady on sz.bits (.mem mBase)) ∧ (∀ i : Imm, rmReady on i.bits (.mem mBase)) ∧
    (∀ sz : OSize, rmReady on sz.bits (.mem mBase)) ∧ (∀ i : Imm, dstReady on i.bits (dstRM (.mem mBase) none)) ∧
    (∀ sz : OSize, dstReady on sz.bits (dstRM (.mem mBase) none)) ∧
    ∀ sz : OpSize, dstReady on sz.bits (dstRM (.mem mBase) none) :=
  ⟨ready.1, ready.2.1, ready.2.2.2.2.1, ready.2.2.1, ready.2.2.2.2.2.2.2.2.2.2.1, ready.2.2.2.2.2.2.2.2.1,
    ready.2.2.2.2.2.2.2.1⟩

theorem witness_Rex2ArithmeticAndLogic : on.apxEnabled = true ∧
    (∀ sz : OpSize, rmReady on sz.bits (.mem mBase)) ∧ (∀ i : Imm, rmReady on i.bits (.mem mBase)) ∧
    (∀ sz : OSize, rmReady on sz.bits (.mem mBase)) ∧ (∀ i : Imm, dstReady on i.bits (dstRM (.mem mBase) none)) ∧
    (∀ sz : OSize, dstReady on sz.bits (dstRM (.mem mBase) none)) ∧
    ∀ sz : OpSize, dstReady on sz.bits (dstRM (.mem mBase) none) := witness_EvexArithmeticAndLogic

theorem witness_CompareAndTest : on.apxEnabled = true ∧
    (∀ sz : OpSize, rmReady on sz.bits (.mem mBase)) ∧ (∀ i : Imm, rmReady on i.bits (.mem mBase)) ∧
    ∀ sz : OSize, rmReady on sz.bits (.mem mBase) := ⟨ready.1, ready.2.1, ready.2.2.2.2.1, ready.2.2.1⟩

theorem witness_OneOperandAndCarryChains : on.apxEnabled = true ∧ on.params.features.adx = true ∧
    (∀ sz : OpSize, rmReady on sz.bits (.mem mBase)) ∧ (∀ sz : YSize, rmReady on sz.bits (.mem mBase)) ∧
    ∀ sz : OpSize, dstReady on sz.bits (dstRM (.mem mBase) none) :=
  ⟨ready.1, rfl, ready.2.1, ready.2.2.2.1, ready.2.2.2.2.2.2.2.1⟩

theorem witness_EvexShiftsAndRotates : on.apxEnabled = true ∧ (∀ sz : OpSize, rmReady on sz.bits (.mem mBase)) ∧
    ∀ sz : OpSize, dstReady on sz.bits (dstRM (.mem mBase) none) := ⟨ready.1, ready.2.1, ready.2.2.2.2.2.2.2.1⟩

theorem witness_Rex2ShiftsAndRotates : on.apxEnabled = true ∧ (∀ sz : OpSize, rmReady on sz.bits (.mem mBase)) ∧
    ∀ sz : OpSize, dstReady on sz.bits (dstRM (.mem mBase) none) := witness_EvexShiftsAndRotates

theorem witness_DoubleShifts : on.apxEnabled = true ∧ (∀ sz : OSize, rmReady on sz.bits (.mem mBase)) ∧
    (∀ sz : OSize, dstReady on sz.bits (dstRM (.mem mBase) none)) ∧
    (0 < OSize.bits .o16 ∧ (1 : Nat) ≠ 0 ∧ 1 ≤ OSize.bits .o16 ∧ (16 : Nat) ≤ OSize.bits .o16 ∧ OSize.bits .o16 < 17) :=
  ⟨ready.1, ready.2.2.1, ready.2.2.2.2.2.2.2.2.1, by decide⟩

theorem witness_Multiplications : on.apxEnabled = true ∧ on.params.features.bmi2 = true ∧
    (∀ i : ImmZ, rmReady on i.bits (.mem mBase)) ∧ (∀ sz : OSize, rmReady on sz.bits (.mem mBase)) ∧
    (∀ sz : YSize, rmReady on sz.bits (.mem mBase)) ∧ ∀ sz : OpSize, rmReady on sz.bits (.mem mBase) :=
  ⟨ready.1, rfl, ready.2.2.2.2.2.1, ready.2.2.1, ready.2.2.2.1, ready.2.1⟩

theorem witness_Divisions :
    (on.apxEnabled = true ∧ rmReady on 64 (.mem mBase) ∧ rmValue on 64 (.mem mBase) = 0) ∧
    (divide false (dividend 64 (onWith [(0, 100), (3, 7)])) (rmValue (onWith [(0, 100), (3, 7)]) 64 (.reg 3)) =
      some (14, 2)) ∧
    (divide true (dividend 64 (onWith [(0, 100), (3, 7)])) (rmValue (onWith [(0, 100), (3, 7)]) 64 (.reg 3)) =
      some (14, 2)) ∧
    (2 ^ 8 ≤ (dividend 8 (onWith [(0, 0x200), (3, 2)])).toNat / (rmValue (onWith [(0, 0x200), (3, 2)]) 8 (.reg 3)).toNat ∧
      rmValue (onWith [(0, 0x200), (3, 2)]) 8 (.reg 3) ≠ 0) ∧
    (2 ^ (8 - 1) : Int) ≤ (dividend 8 (onWith [(0, 0x100), (3, 2)])).toInt.tdiv
      (rmValue (onWith [(0, 0x100), (3, 2)]) 8 (.reg 3)).toInt :=
  ⟨⟨rfl, rfl, by decide⟩, by decide +kernel, by decide +kernel, by decide, by decide⟩

theorem witness_CountsChecksumsAndByteSwaps : on.apxEnabled = true ∧ on.params.features.lzcnt = true ∧
    on.params.features.movbe = true ∧ on.params.features.bmi1 = true ∧ rmReady on 8 (.mem mBase) ∧
    (∀ sz : OSize, rmReady on sz.bits (.mem mBase)) ∧ ∀ sz : OSize, dstReady on sz.bits (dstRM (.mem mBase) none) :=
  ⟨rfl, rfl, rfl, rfl, rfl, ready.2.2.1, ready.2.2.2.2.2.2.2.2.1⟩

theorem witness_BitManipulation : on.apxEnabled = true ∧ on.params.features.bmi1 = true ∧
    on.params.features.bmi2 = true ∧ ∀ sz : YSize, rmReady on sz.bits (.mem mBase) := ⟨rfl, rfl, rfl, ready.2.2.2.1⟩

theorem witness_ConditionalMovesAndSetByte : on.apxEnabled = true ∧ on.flags.cond .z = false ∧ on.flags.cond .nz = true ∧
    (∀ sz : OSize, rmReady on sz.bits (.mem mBase)) ∧ (∀ sz : OSize, dstReady on sz.bits (.mem mBase)) ∧
    dstReady on 8 (.mem mBase) := ⟨rfl, rfl, rfl, ready.2.2.1, ready.2.2.2.2.2.2.2.2.1, rfl⟩

theorem witness_CompareAndAdd :
    (on.apxEnabled = true ∧ on.params.features.cmpccxadd = true ∧ accessOk on (cmpxaddAccess on 32 mBase .read) ∧
      accessOk on (cmpxaddAccess on 32 mBase .write) ∧
      (subFlags (memValue on 32 (linAddr on mBase)) (on.readGpr 32 4) false).cond .b = true ∧
      (subFlags (memValue on 32 (linAddr on mBase)) (on.readGpr 32 4) false).cond .z = false) ∧
    ((cmpxaddAccess (onWith [(18, 0x9004)]) 64 mBase .read).canonicalOk on.params.laWidth = true ∧
      (linAddr (onWith [(18, 0x9004)]) mBase).toNat % (64 / 8) ≠ 0) :=
  ⟨⟨rfl, rfl, rfl, rfl, by decide, by decide⟩, by decide, by decide⟩

theorem witness_OpmaskMoves : on.apxEnabled = true ∧ kmovbOk on.params.features = true ∧
    kmovwOk on.params.features = true ∧ kmovdqOk on.params.features = true ∧
    (∀ i : BitVec 3, shortIdOk on.params ⟨i, true⟩ = true) ∧ on.ctrl.cr0Ts = false ∧ rmReady on 8 (.mem mBase) ∧
    rmReady on 16 (.mem mBase) ∧ rmReady on 32 (.mem mBase) ∧ rmReady on 64 (.mem mBase) ∧ dstReady on 8 (.mem mBase) ∧
    dstReady on 16 (.mem mBase) ∧ dstReady on 32 (.mem mBase) ∧ dstReady on 64 (.mem mBase) :=
  ⟨rfl, rfl, rfl, rfl, fun _ => rfl, rfl, rfl, rfl, rfl, rfl, rfl, rfl, rfl, rfl⟩

theorem witness_TileInstructions :
    (on.apxEnabled = true ∧ on.params.features.amxTile = true ∧ accessOk on (memAccess on mBase 64 .read false 1) ∧
      accessOk on (memAccess on mBase 64 .write false 1) ∧
      memValue on 512 (linAddr on mBase) ∉ on.params.tileCfgRejected) ∧
    (tileReady on ⟨3, false⟩ ∧ hasSib mSib.form = true ∧
      rowsReady on mSib (on.tileShape 3).colsb .read 0 (on.tileShape 3).rows ∧
      rowsReady on mSib (on.tileShape 3).colsb .write 0 (on.tileShape 3).rows) := by
  refine ⟨⟨rfl, rfl, rfl, rfl, by decide⟩, ⟨rfl, rfl, rfl, rfl⟩, rfl, ?_, ?_⟩ <;> intro j hj <;>
    match j, hj with
    | 0, _ => rfl
    | 1, _ => rfl

theorem witness_KeyLockerAndSha :
    on.apxEnabled = true ∧ klReady on on.params.features.keylocker ∧ klReady on on.params.features.keylockerWide ∧
      shaReady on ∧ accessOk on (memAccess on mBase (384 / 8) .read false 1) ∧
      accessOk on (memAccess on mBase (512 / 8) .read false 1) ∧ xrmReady on (.mem mBase) :=
  ⟨rfl, ⟨rfl, rfl, rfl, rfl, rfl⟩, ⟨rfl, rfl, rfl, rfl, rfl⟩, ⟨rfl, rfl, rfl, rfl⟩, rfl, rfl, rfl⟩

theorem witness_InvalidationsAndShadowStackWrites :
    (on.apxEnabled = true ∧ on.params.features.vmx = true ∧ on.ctrl.inVmxOperation = true ∧
      on.ctrl.eptSupported = true ∧ on.ctrl.inveptSupported = true ∧ on.ctrl.vpidSupported = true ∧
      on.ctrl.invvpidSupported = true ∧ on.cpl = 0 ∧ accessOk on (memAccess on mBase 16 .read false 1)) ∧
    (on.params.features.invpcid = true ∧ ((onWith [(3, 3)]).getGpr 3).toNat ≤ 3 ∧
      invpcidDescOk on 3 (memValue on 128 (linAddr on mBase)) = true) ∧
    (on.params.features.cet = true ∧ on.ctrl.cr4Cet = true ∧ wrssEnabled on = true ∧ wrssEnabled user = true ∧
      accessOk on (shadowAccess on mBase (32 / 8) .shadowSupervisor) ∧
      accessOk on (shadowAccess on mBase (64 / 8) .shadowSupervisor) ∧
      accessOk user (shadowAccess user mBase (64 / 8) .shadowUser) ∧
      accessOk on (shadowAccess on mBase (32 / 8) .shadowUser) ∧
      accessOk on (shadowAccess on mBase (64 / 8) .shadowUser)) :=
  ⟨⟨rfl, rfl, rfl, rfl, rfl, rfl, rfl, rfl, rfl⟩, ⟨rfl, by decide, by decide⟩,
    ⟨rfl, rfl, rfl, rfl, rfl, rfl, rfl, rfl, rfl⟩⟩

theorem witness_DirectStoresAndEnqueues :
    on.apxEnabled = true ∧ on.params.features.enqcmd = true ∧ on.params.features.movdir = true ∧
      aligned64 (addrReg on false 18) = true ∧ on.ctrl.pasidValid = true ∧ on.cpl = 0 ∧
      accessOk on (memAccess on mBase 64 .read false 1) ∧ accessOk on (memAccess on mBase 64 .read true 1) ∧
      accessOk on (movdir64bAccess on false 18) ∧ (memValue on 512 (linAddr on mBase)).setWidth 31 = (0 : BitVec 31) ∧
      (memValue on 512 (linAddr on mBase) >>> 20).setWidth 11 = (0 : BitVec 11) ∧ dstReady on 64 (.mem mBase) ∧
      dstReady on 32 (.mem mBase) :=
  ⟨rfl, rfl, rfl, rfl, rfl, rfl, rfl, rfl, rfl, by decide +kernel, by decide +kernel, rfl, rfl⟩

theorem witness_Rex2DataMoves : on.apxEnabled = true ∧ (∀ sz : OpSize, dstReady on sz.bits (dstRM (.mem mBase) none)) ∧
    (∀ sz : OpSize, rmReady on sz.bits (.mem mBase)) ∧ (∀ i : Imm, dstReady on i.bits (dstRM (.mem mBase) none)) ∧
    rmReady on 32 (.mem mBase) ∧ ∀ sz : SrcSize, rmReady on sz.bits (.mem mBase) :=
  ⟨rfl, ready.2.2.2.2.2.2.2.1, ready.2.1, ready.2.2.2.2.2.2.2.2.2.2.1, rfl, ready.2.2.2.2.2.2.1⟩

theorem witness_PushAndPop : on.apxEnabled = true ∧ rmReady on 64 (.mem mBase) ∧
    accessOk on (stackAccess (on.rsp - 8) 8 .write true) ∧ accessOk on (stackAccess on.rsp 8 .read true) ∧
    dstReady (on.setGpr 4 (on.rsp + 8)) 64 (dstRM (.mem ⟨none, false, .sib 4 none .none⟩) none) :=
  ⟨rfl, rfl, rfl, rfl, rfl⟩

theorem witness_PushAndPopPairs :
    (on.apxEnabled = true ∧ (16 : RegId) ≠ 4 ∧ (17 : RegId) ≠ 4 ∧ (16 : RegId) ≠ 17 ∧ on.rsp.toNat % 16 = 0 ∧
      accessOk on (stackAccess (on.rsp - 16) 16 .write false) ∧ accessOk on (stackAccess on.rsp 16 .read false)) ∧
    ((4 : RegId) = 4 ∧ (16 : RegId) = 16 ∧ (onWith [(4, 0x9008)]).rsp.toNat % 16 ≠ 0 ∧
      (onWith [(4, 0x9008)]).apxEnabled = true) :=
  ⟨⟨rfl, by decide, by decide, by decide, rfl, rfl, rfl⟩, rfl, rfl, by decide, rfl⟩

theorem witness_PopPairUndoesPushPair : on.memOk ∧
    ∃ t u, exec (.push2 16 17) on = .next t ∧ exec (.pop2 17 16) t = .next u := ⟨rfl, _, _, rfl, rfl⟩

theorem witness_AbsoluteJump : on.apxEnabled = true ∧ canonical on.params.laWidth 0x7FFFFFFFFFFF = true ∧
    canonical on.params.laWidth 0x800000000000 = false := by decide

/-- `on` with R18 not canonical. -/
def wild : State := onWith [(18, 0xDEAD000000000000)]

/-- `on` where every write of the page at 0x9000 faults with code 2. -/
def readOnly : State :=
  { on with params := { on.params with pageFaults :=
      [⟨0x8000, 0x9FFF, .write, 2⟩, ⟨0x8000, 0x9FFF, .shadowUser, 6⟩, ⟨0x8000, 0x9FFF, .shadowSupervisor, 6⟩] } }

/-- A read fails; a read succeeds and the write that follows fails; a tile whose second row fails; the accesses of a class
of their own. -/
theorem witness_FaultsNotSuppressedByAFalseCondition :
    (wild.apxEnabled = true ∧ on.flags.scc .f = false ∧ on.flags.cond .nz = true) ∧
    (∀ n : Nat, n = 1 ∨ n = 2 ∨ n = 4 ∨ n = 8 →
      checkAccess wild (memAccess wild mBase n .read true 1) = .error .gp) ∧
    (∀ N : Nat, N = 8 ∨ N = 16 ∨ N = 32 ∨ N = 64 → rmFails wild N (.mem mBase) .gp ∧
      rmReady readOnly N (.mem mBase) ∧ dstFails readOnly N (dstRM (.mem mBase) none) (.pf 2) ∧
      dstFails readOnly N (.mem mBase) (.pf 2)) ∧
    (readOnly.apxEnabled = true ∧ checkAccess readOnly (stackAccess (readOnly.rsp - 8) 8 .write true) = .error (.pf 2) ∧
      checkAccess (onWith [(4, 0x8000000000000)]) (stackAccess (onWith [(4, 0x8000000000000)]).rsp 8 .read true) =
        .error .ss ∧
      accessOk readOnly (stackAccess readOnly.rsp 8 .read true) ∧
      dstFails (readOnly.setGpr 4 (readOnly.rsp + 8)) 64 (dstRM (.mem mBase) none) (.pf 2) ∧
      checkAccess readOnly (stackAccess (readOnly.rsp - 16) 16 .write false) = .error (.pf 2) ∧
      checkAccess (onWith [(4, 0x8000000000000)]) (stackAccess (onWith [(4, 0x8000000000000)]).rsp 16 .read false) =
        .error .ss) ∧
    (klReady wild wild.params.features.keylocker ∧ klReady wild wild.params.features.keylockerWide ∧ shaReady wild ∧
      xrmFails wild (.mem mBase) .gp ∧ checkAccess wild (memAccess wild mBase 16 .read false 1) = .error .gp ∧
      checkAccess wild (memAccess wild mBase (384 / 8) .read false 1) = .error .gp ∧
      checkAccess wild (memAccess wild mBase 64 .read false 1) = .error .gp ∧
      checkAccess wild (memAccess wild mBase 64 .read true 1) = .error .gp ∧
      checkAccess readOnly (memAccess readOnly mBase 64 .write false 1) = .error (.pf 2) ∧
      checkAccess readOnly (movdir64bAccess readOnly false 18) = .error (.pf 2)) ∧
    (checkAccess wild (cmpxaddAccess wild 32 mBase .read) = .error .gp ∧
      accessOk readOnly (cmpxaddAccess readOnly 32 mBase .read) ∧
      (subFlags (memValue readOnly 32 (linAddr readOnly mBase)) (readOnly.readGpr 32 4) false).cond .b = true ∧
      checkAccess readOnly (cmpxaddAccess readOnly 32 mBase .write) = .error (.pf 2) ∧
      checkAccess readOnly (shadowAccess readOnly mBase (32 / 8) .shadowSupervisor) = .error (.pf 6) ∧
      checkAccess readOnly (shadowAccess readOnly mBase (64 / 8) .shadowUser) = .error (.pf 6)) ∧
    (tileReady (onWith [(18, 0x7FFFFFFFFFFC), (19, 4)]) ⟨3, false⟩ ∧
      rowsFail (onWith [(18, 0x7FFFFFFFFFFC), (19, 4)]) ⟨none, false, .sib 18 (some ⟨19, 0⟩) .none⟩ 4 .read 0 2 .gp ∧
      rowsFail readOnly mSib 4 .write 0 2 (.pf 2)) := by
  refine ⟨⟨rfl, rfl, rfl⟩, fun n hn => ?_, fun N hN => ?_, ?_, ?_, ?_, ?_⟩
  · rcases hn with rfl | rfl | rfl | rfl <;> rfl
  · rcases hN with rfl | rfl | rfl | rfl <;> exact ⟨⟨_, rfl, rfl⟩, rfl, ⟨_, rfl, rfl⟩, ⟨_, rfl, rfl⟩⟩
  · exact ⟨rfl, rfl, rfl, rfl, ⟨_, rfl, rfl⟩, rfl, rfl⟩
  · exact ⟨⟨rfl, rfl, rfl, rfl, rfl⟩, ⟨rfl, rfl, rfl, rfl, rfl⟩, ⟨rfl, rfl, rfl, rfl⟩, ⟨_, rfl, rfl⟩, rfl, rfl, rfl, rfl,
      rfl, rfl⟩
  · exact ⟨rfl, rfl, by decide, rfl, rfl, rfl⟩
  · refine ⟨⟨rfl, rfl, rfl, rfl⟩, ⟨1, by decide, fun k hk => ?_, rfl⟩, 0, by decide, fun k hk => absurd hk (by simp), rfl⟩
    rw [Nat.lt_one_iff.mp hk]; rfl

theorem witness_PrivilegeAndOperandTraps :
    (user.apxEnabled = true ∧ user.params.features.vmx = true ∧ user.ctrl.inVmxOperation = true ∧
      user.ctrl.eptSupported = true ∧ user.ctrl.inveptSupported = true ∧ user.ctrl.vpidSupported = true ∧
      user.ctrl.invvpidSupported = true ∧ user.cpl ≠ 0 ∧ user.params.features.invpcid = true ∧
      user.params.features.cet = true ∧ user.ctrl.cr4Cet = true ∧ user.params.features.enqcmd = true ∧
      user.params.features.movdir = true) ∧
    (3 < ((onWith [(3, 4)]).getGpr 3).toNat ∧ aligned64 (addrReg (onWith [(3, 0x9020)]) false 3) = false ∧
      { on.ctrl with pasidValid := false }.pasidValid = false) ∧
    (wrssEnabled on = true ∧ canonical on.params.laWidth (linAddr (onWith [(18, 0x9002)]) mBase) = true ∧
      canonical on.params.laWidth (linAddr (onWith [(18, 0x9002)]) mBase + 3) = true ∧
      canonical on.params.laWidth (linAddr (onWith [(18, 0x9002)]) mBase + 7) = true ∧
      (linAddr (onWith [(18, 0x9002)]) mBase).toNat % 4 ≠ 0) := by
  decide

/-- `on` with this byte at address 0x9000 + i. -/
def onByte (i : Nat) (b : Byte) : State := { on with mem := writeBytes on.mem (0x9000 + BitVec.ofNat 64 i) [b] }

/-- The operands that raise #GP(0) after they have been read, at the lowest and the highest bit of each range. -/
theorem witness_PrivilegeAndOperandTraps_operands :
    ((onByte 0 1).apxEnabled = true ∧ (onByte 0 1).ctrl.pasidValid = true ∧ (onByte 0 1).cpl = 0 ∧
      aligned64 (addrReg (onByte 0 1) false 18) = true) ∧
    accessOk (onByte 0 1) (memAccess (onByte 0 1) mBase 64 .read false 1) ∧
    (memValue (onByte 0 1) 512 (linAddr (onByte 0 1) mBase)).getLsbD 0 = true ∧
    (memValue (onByte 3 0x40) 512 (linAddr (onByte 3 0x40) mBase)).getLsbD 30 = true ∧
    (memValue (onByte 2 0x10) 512 (linAddr (onByte 2 0x10) mBase)).getLsbD 20 = true ∧
    (memValue (onByte 1 0x10) 128 (linAddr (onByte 1 0x10) mBase)).getLsbD 12 = true ∧
    (memValue (onByte 7 0x80) 128 (linAddr (onByte 7 0x80) mBase)).getLsbD 63 = true ∧
    (memValue (onByte 1 0x08) 128 (linAddr (onByte 1 0x08) mBase)).getLsbD 11 = true ∧
    ((onByte 1 8).ctrl.cr4Pcide = false ∧ ((onByte 1 8).getGpr 3).toNat ≤ 1 ∧ (onByte 1 8).getGpr 3 = 0) ∧
    canonical on.params.laWidth
      ((memValue (onByte 14 0x80) 128 (linAddr (onByte 14 0x80) mBase)).extractLsb' 64 64) = false ∧
    memValue { on with params := { on.params with tileCfgRejected := [0] } } 512 (linAddr on mBase) ∈ [(0 : BitVec 512)] :=
  ⟨⟨rfl, rfl, rfl, by decide⟩, rfl, by decide +kernel, by decide +kernel, by decide +kernel, by decide +kernel,
    by decide +kernel, by decide +kernel, by decide +kernel, by decide +kernel, by decide +kernel⟩

theorem witness_DeviceNotAvailableTraps :
    tsSet.apxEnabled = true ∧ tsSet.params.features.keylocker = true ∧ tsSet.params.features.keylockerWide = true ∧
      tsSet.params.features.sha = true ∧ tsSet.ctrl.cr0Em = false ∧ tsSet.ctrl.cr4Osfxsr = true ∧
      tsSet.ctrl.cr4Kl = true ∧ tsSet.ctrl.cr0Ts = true ∧ kmovbOk tsSet.params.features = true ∧
      kmovwOk tsSet.params.features = true ∧ kmovdqOk tsSet.params.features = true ∧
      shortIdOk tsSet.params ⟨1, false⟩ = true := by
  decide

/-- No feature but APX_F. -/
def bareFeatures : Features :=
  ⟨true, false, false, false, 0, false, false, false, false, false, false, false, false, false, false, false, false,
    false, false, false, false, false⟩

/-- APX enabled and no other feature or control. -/
def bare : State :=
  { on with
    params := { on.params with features := bareFeatures, maskIdHighBitUd := true }
    tile := tileReset
    ctrl := { Control.reset with cr4Osxsave := true, xcr0Apx := true, cr4Osfxsr := false, cr0Em := true } }

theorem witness_MissingFeatureOrControlIsUd :
    (bare.apxEnabled = true ∧ bare.params.features.adx = false ∧ bare.params.features.bmi1 = false ∧
      bare.params.features.bmi2 = false ∧ bare.params.features.lzcnt = false ∧ bare.params.features.movbe = false ∧
      bare.params.features.movdir = false ∧ bare.params.features.enqcmd = false ∧ bare.params.features.invpcid = false ∧
      bare.params.features.vmx = false ∧ bare.params.features.keylocker = false ∧ bare.params.features.sha = false ∧
      bare.params.features.cet = false ∧ bare.params.features.cmpccxadd = false ∧ bare.params.features.amxTile = false ∧
      bare.params.features.avx512dq = false ∧ bare.params.features.avx10 = false ∧ bare.ctrl.cr0Em = true) ∧
    (bare.cpl ≠ 3 ∧ bare.ctrl.sCetShStkEn = false ∧ { bare with cpl := 3 }.cpl = 3 ∧
      { bare with cpl := 3 }.ctrl.uCetShStkEn = false) ∧
    (bare.tile.configured = false ∧ (bare.tileShape 0).valid = false ∧ bare.params.maskIdHighBitUd = true ∧
      ShortId.hi ⟨0, true⟩ = true) := by
  decide

/-- One encoding for each condition: P2 bits 7, 5 (L), 0 and, in the CCMP format, ND; V, ND and NF where unsupported;
unassigned opcodes, digits and pp; Mod; XMM16; a reserved bit, V, NF, pp and Mod in maps 1 to 3. -/
theorem witness_ReservedEvexEncodingsAreUd :
    (∀ b ∈ ([0x2E, 0x67] : List Byte), b.toNat ∈ [0x26, 0x2E, 0x36, 0x3E, 0x64, 0x65, 0x67]) ∧
    9 ≤ (List.replicate 9 (0 : Byte)).length ∧
    ((0xF4 : Byte).toNat % 8 = 4 ∧ ccFormat 0x01 0xC8 = false ∧ ccFormat 0x39 0xC8 = true ∧ ccFormat 0x80 0xF8 = true ∧
      (0x28 : Byte).toNat / 32 ≠ 0 ∧ (0x09 : Byte).toNat % 4 ≠ 0 ∧ (0x18 : Byte).getLsbD 4 = true ∧
      (0x0C : Byte).getLsbD 2 = true ∧ vIsZero 0x6C 0x08 = false ∧ vIsZero 0x7C 0x00 = false ∧ vIsZero 0x7C 0x08 = true) ∧
    ((0xC8 : Byte).toNat / 64 = 3 ∧ (0x08 : Byte).toNat / 64 ≠ 3 ∧ (0xE4 : Byte).getLsbD 4 = false ∧
      (0xFC : Byte).getLsbD 3 = true ∧ (0xFE : Byte).toNat / 8 % 8 = 7 ∧ (0x7D : Byte).toNat % 4 = 1) ∧
    promotedOpcode 1 0x90 = true ∧ promotedOpcode 2 0xEF = true ∧ promotedOpcode 3 0xF0 = true := by
  decide

end Sys2Proof.Tests
end

section
/-! SUPPORT and O59. The enabling gate with which every instruction's meaning begins, and the #UD that a closed gate
raises (60_exceptions.md R437, R438). -/
namespace Sys2Proof.Machine

/-! ### Every meaning begins with its gate -/

/-- The operation is the enabling check with the instruction's own condition `b`, and then the rest. -/
def Gated (s : State) (b : Bool) (r : Except Exc State) : Prop := ∃ f : Unit → Except Exc State, r = gate s b >>= f

/-- The condition under which KMOV with a mask or memory source accepts its mask ids (43_promoted_vex.md R298). -/
def kmovSourceOk (p : Params) (k : ShortId) : KRM → Bool
  | .k i => shortIdOk p k && shortIdOk p i
  | .mem _ => shortIdOk p k

/-- The condition of an instruction's own, beside APX being enabled, that the enabling check asks for: its feature
flags, controls and operand ids (60_exceptions.md R438 to R445, R454, R455, R457). `exec_gated` ties it to `exec`. -/
def gateOf (s : State) : Instr → Bool
  | .adcx .. | .adox .. => s.params.features.adx
  | .aesdec128kl .. | .aesdec256kl .. | .aesenc128kl .. | .aesenc256kl .. | .encodekey128 .. | .encodekey256 .. =>
    s.params.features.keylocker && sseUsable s && s.ctrl.cr4Kl
  | .aesdecwide128kl .. | .aesdecwide256kl .. | .aesencwide128kl .. | .aesencwide256kl .. =>
    s.params.features.keylockerWide && sseUsable s && s.ctrl.cr4Kl
  | .sha1msg1 .. | .sha1msg2 .. | .sha1nexte .. | .sha1rnds4 .. | .sha256msg1 .. | .sha256msg2 .. | .sha256rnds2 .. =>
    s.params.features.sha && sseUsable s
  | .andn .. | .bextr .. | .blsi .. | .blsmsk .. | .blsr .. | .tzcnt .. => s.params.features.bmi1
  | .bzhi .. | .mulx .. | .pdep .. | .pext .. | .rorx .. | .sarx .. | .shlx .. | .shrx .. => s.params.features.bmi2
  | .lzcnt .. => s.params.features.lzcnt
  | .movbeRRm .. | .movbeRmR .. => s.params.features.movbe
  | .movdir64b .. | .movdiri .. => s.params.features.movdir
  | .cmpccxadd .. => s.params.features.cmpccxadd
  | .enqcmd .. | .enqcmds .. => s.params.features.enqcmd
  | .invpcid .. => s.params.features.invpcid
  | .invept .. => s.params.features.vmx && s.ctrl.inVmxOperation && s.ctrl.eptSupported && s.ctrl.inveptSupported
  | .invvpid .. => s.params.features.vmx && s.ctrl.inVmxOperation && s.ctrl.vpidSupported && s.ctrl.invvpidSupported
  | .kmovbKKm k src => kmovbOk s.params.features && kmovSourceOk s.params k src
  | .kmovwKKm k src => kmovwOk s.params.features && kmovSourceOk s.params k src
  | .kmovdKKm k src | .kmovqKKm k src => kmovdqOk s.params.features && kmovSourceOk s.params k src
  | .kmovbKR k _ | .kmovbRK _ k | .kmovbMK _ k => kmovbOk s.params.features && shortIdOk s.params k
  | .kmovwKR k _ | .kmovwRK _ k | .kmovwMK _ k => kmovwOk s.params.features && shortIdOk s.params k
  | .kmovdKR k _ | .kmovdRK _ k | .kmovdMK _ k | .kmovqKR k _ | .kmovqRK _ k | .kmovqMK _ k =>
    kmovdqOk s.params.features && shortIdOk s.params k
  | .ldtilecfg .. | .sttilecfg .. => s.params.features.amxTile
  | .tileloadd t m | .tileloaddt1 t m | .tilestored m t =>
    s.params.features.amxTile && s.tile.configured && (s.tileShape t.id).valid && hasSib m.form && shortIdOk s.params t
  | .wrssd .. | .wrssq .. => s.params.features.cet && s.ctrl.cr4Cet && wrssEnabled s
  | .wrussd .. | .wrussq .. => s.params.features.cet && s.ctrl.cr4Cet
  | .push2 v b | .push2p v b => v != 4 && b != 4
  | .pop2 v b | .pop2p v b => v != 4 && b != 4 && v != b
  | _ => true

/-- A check that begins with the gate, as those of the Key Locker, SHA and KMOV classes do, leaves the gate first. -/
theorem gated_of_check {s : State} {b : Bool} {g : Unit → Except Exc Unit} {f : Unit → Except Exc State} :
    Gated s b ((gate s b >>= g) >>= f) := ⟨fun u => g u >>= f, bind_assoc ..⟩

theorem kmovLoad_gated {s : State} {N : Nat} {ok : Features → Bool} {k : ShortId} {src : KRM} :
    Gated s (ok s.params.features && kmovSourceOk s.params k src) (kmovLoad N ok k src s) := by
  cases src with
  | k i => exact gated_of_check
  | mem m => exact gated_of_check

/-- Every instruction's meaning begins with the enabling check of its own condition (60_exceptions.md R437, R438). -/
theorem exec_gated (i : Instr) (s : State) : ∃ r, Gated s (gateOf s i) r ∧ exec i s = finish r := by
  cases i with
  | aesdec128kl | aesdec256kl | aesenc128kl | aesenc256kl => exact ⟨_, gated_of_check, rfl⟩
  | aesdecwide128kl | aesdecwide256kl | aesencwide128kl | aesencwide256kl => exact ⟨_, gated_of_check, rfl⟩
  | encodekey128 | encodekey256 => exact ⟨_, gated_of_check, rfl⟩
  | sha1msg1 | sha1msg2 | sha1nexte | sha1rnds4 | sha256msg1 | sha256msg2 | sha256rnds2 =>
    exact ⟨_, gated_of_check, rfl⟩
  | kmovbKKm | kmovwKKm | kmovdKKm | kmovqKKm => exact ⟨_, kmovLoad_gated, rfl⟩
  | kmovbKR | kmovwKR | kmovdKR | kmovqKR => exact ⟨_, gated_of_check, rfl⟩
  | kmovbRK | kmovwRK | kmovdRK | kmovqRK => exact ⟨_, gated_of_check, rfl⟩
  | kmovbMK | kmovwMK | kmovdMK | kmovqMK => exact ⟨_, gated_of_check, rfl⟩
  | _ => exact ⟨_, ⟨_, rfl⟩, rfl⟩

theorem Gated.ud {s : State} {b : Bool} {r : Except Exc State} (h : Gated s b r) (hb : b = false) :
    r = .error .ud := by
  obtain ⟨f, rfl⟩ := h
  rw [hb, gate_refused, bind_error]

/-- An instruction whose own condition fails raises #UD, whatever its operands. -/
theorem exec_ud_of_gate {i : Instr} {s : State} (h : gateOf s i = false) : exec i s = takeException .ud := by
  obtain ⟨r, hr, hexec⟩ := exec_gated i s
  rw [hexec, finish_fault]
  exact hr.ud h

/-! ### What closes a gate of several conditions -/

theorem and3_eq_false {a b c : Bool} : (a && b && c) = false ↔ a = false ∨ b = false ∨ c = false := by
  simp only [Bool.and_eq_false_iff, or_assoc]

theorem and4_eq_false {a b c d : Bool} :
    (a && b && c && d) = false ↔ a = false ∨ b = false ∨ c = false ∨ d = false := by
  simp only [Bool.and_eq_false_iff, or_assoc]

theorem sseUsable_eq_false {s : State} : sseUsable s = false ↔ s.ctrl.cr0Em = true ∨ s.ctrl.cr4Osfxsr = false := by
  simp only [sseUsable, Bool.and_eq_false_iff, Bool.not_eq_false']

theorem keylockerWide_eq_false {f : Features} :
    f.keylockerWide = false ↔ f.keylocker = false ∨ f.aeskle = false ∨ f.wideKl = false := and3_eq_false

theorem keylockerGate_closed {s : State} {feature : Bool}
    (h : feature = false ∨ s.ctrl.cr4Osfxsr = false ∨ s.ctrl.cr4Kl = false ∨ s.ctrl.cr0Em = true) :
    (feature && sseUsable s && s.ctrl.cr4Kl) = false := by
  rw [and3_eq_false, sseUsable_eq_false]
  tauto

theorem keylockerWideGate_closed {s : State}
    (h : s.params.features.keylocker = false ∨ s.params.features.aeskle = false ∨ s.params.features.wideKl = false ∨
      s.ctrl.cr4Osfxsr = false ∨ s.ctrl.cr4Kl = false ∨ s.ctrl.cr0Em = true) :
    (s.params.features.keylockerWide && sseUsable s && s.ctrl.cr4Kl) = false := by
  apply keylockerGate_closed
  rwa [keylockerWide_eq_false, or_assoc, or_assoc]

theorem shaGate_closed {s : State}
    (h : s.params.features.sha = false ∨ s.ctrl.cr4Osfxsr = false ∨ s.ctrl.cr0Em = true) :
    (s.params.features.sha && sseUsable s) = false := by
  rwa [Bool.and_eq_false_iff, sseUsable_eq_false, or_comm (a := s.ctrl.cr0Em = true)]

theorem avx10_1_eq_false {f : Features} : f.avx10_1 = false ↔ f.avx10 = false ∨ f.avx10Version = 0 := by
  have hversion : ¬ 1 ≤ f.avx10Version.toNat ↔ f.avx10Version = 0 := by bv_omega
  rw [Features.avx10_1, Bool.and_eq_false_iff, decide_eq_false_iff_not, hversion]

theorem shortIdOk_eq_false {p : Params} {k : ShortId} :
    shortIdOk p k = false ↔ p.maskIdHighBitUd = true ∧ k.hi = true := by
  simp only [shortIdOk, Bool.not_eq_false', Bool.and_eq_true]

theorem kmovSourceOk_eq_false {p : Params} {k : ShortId} {src : KRM} :
    kmovSourceOk p k src = false ↔
      (p.maskIdHighBitUd = true ∧ k.hi = true) ∨ (p.maskIdHighBitUd = true ∧ ∃ i, src = .k i ∧ i.hi = true) := by
  cases src with
  | k i => simp only [kmovSourceOk, Bool.and_eq_false_iff, shortIdOk_eq_false, KRM.k.injEq, exists_eq_left']
  | mem m => simp [kmovSourceOk, shortIdOk_eq_false]

/-- A KMOV's gate is closed without its AVX512 flag and AVX10.1, and by a mask id that is not accepted
(43_promoted_vex.md R298). -/
theorem kmovGate_closed {f : Features} {flag idsOk : Bool} {refusedIds : Prop} (hids : idsOk = false ↔ refusedIds)
    (h : (flag = false ∧ (f.avx10 = false ∨ f.avx10Version = 0)) ∨ refusedIds) :
    ((flag || f.avx10_1) && idsOk) = false := by
  rwa [Bool.and_eq_false_iff, Bool.or_eq_false_iff, avx10_1_eq_false, hids]

theorem tileGate_closed {s : State} {t : ShortId} {m : Mem}
    (h : s.params.features.amxTile = false ∨ s.tile.configured = false ∨ (s.tileShape t.id).valid = false ∨
      (s.params.maskIdHighBitUd = true ∧ t.hi = true)) :
    (s.params.features.amxTile && s.tile.configured && (s.tileShape t.id).valid && hasSib m.form &&
      shortIdOk s.params t) = false := by
  rw [Bool.and_eq_false_iff, and4_eq_false, shortIdOk_eq_false]
  tauto

theorem wrssEnabled_eq_false {s : State} :
    wrssEnabled s = false ↔
      (s.cpl = 3 ∧ (s.ctrl.uCetShStkEn = false ∨ s.ctrl.uCetWrShstkEn = false)) ∨
      (s.cpl ≠ 3 ∧ (s.ctrl.sCetShStkEn = false ∨ s.ctrl.sCetWrShstkEn = false)) := by
  by_cases hcpl : s.cpl = 3
  · simp only [wrssEnabled, hcpl, if_true, Bool.and_eq_false_iff, ne_eq, not_true, true_and, false_and, or_false]
  · simp only [wrssEnabled, hcpl, if_false, Bool.and_eq_false_iff, ne_eq, not_false_eq_true, true_and, false_and,
      false_or]

theorem wrssGate_closed {s : State}
    (h : s.params.features.cet = false ∨ s.ctrl.cr4Cet = false ∨
      (s.cpl = 3 ∧ (s.ctrl.uCetShStkEn = false ∨ s.ctrl.uCetWrShstkEn = false)) ∨
      (s.cpl ≠ 3 ∧ (s.ctrl.sCetShStkEn = false ∨ s.ctrl.sCetWrShstkEn = false))) :
    (s.params.features.cet && s.ctrl.cr4Cet && wrssEnabled s) = false := by
  rwa [and3_eq_false, wrssEnabled_eq_false]

/-! ### The feature flags that combine others -/

theorem avx10_1_iff {p : Params} :
    p.features.avx10_1 = true ↔ p.features.avx10 = true ∧ 1 ≤ (cpuidAvx10Version p).toNat := by
  simp only [Features.avx10_1, cpuidAvx10Version, Bool.and_eq_true, decide_eq_true_eq]

theorem keylockerWide_iff {f : Features} :
    f.keylockerWide = true ↔ f.keylocker = true ∧ f.aeskle = true ∧ f.wideKl = true := by
  simp only [Features.keylockerWide, Bool.and_eq_true, and_assoc]

/-- Settles O59: each hypothesis closes the gate with which the instruction's meaning begins. The cases are grouped by
what the gate asks for: one feature flag, then the conditions of each class. -/
theorem missingFeatureOrControlIsUd : Obligations.MissingFeatureOrControlIsUd := by
  unfold Obligations.MissingFeatureOrControlIsUd
  simp only [List.forall_mem_cons, List.not_mem_nil, false_implies, implies_true, and_true]
  refine ⟨?adx, ?aesBlock, ?aesWide, ?andn, ?bextr, ?bls, ?bzhi, ?cmpccxadd, ?encodekey, ?enqcmd, ?invept, ?invpcid,
    ?invvpid, ?kmovbKKm, ?kmovbKR, ?kmovbRK, ?kmovbMK, ?kmovdqRK, ?kmovdqKKm, ?kmovdqKR, ?kmovdqMK, ?kmovwKKm,
    ?kmovwKR, ?kmovwRK, ?kmovwMK, ?tilecfg, ?lzcnt, ?movbeRRm, ?movbeRmR, ?movdir64b, ?movdiri, ?bmi2, ?rorx,
    ?shiftx, ?sha, ?sha1rnds4, ?tileload, ?tilestored, ?tzcnt, ?wrss, ?wruss, ?cpuid⟩
  case adx | andn | bextr | bls | bzhi | cmpccxadd | enqcmd | invpcid | tilecfg | lzcnt | movbeRRm | movbeRmR |
      movdir64b | movdiri | bmi2 | rorx | shiftx | tzcnt =>
    intros; rename_i hflag
    and_intros <;> exact exec_ud_of_gate hflag
  case aesBlock | encodekey =>
    intros; rename_i hcond
    and_intros <;> exact exec_ud_of_gate (keylockerGate_closed hcond)
  case aesWide =>
    intros; rename_i hcond
    and_intros <;> exact exec_ud_of_gate (keylockerWideGate_closed hcond)
  case sha | sha1rnds4 =>
    intros; rename_i hcond
    and_intros <;> exact exec_ud_of_gate (shaGate_closed hcond)
  case invept | invvpid =>
    intros; rename_i hcond
    exact exec_ud_of_gate (and4_eq_false.2 hcond)
  case kmovbKKm | kmovdqKKm | kmovwKKm =>
    intros; rename_i hcond
    and_intros <;> exact exec_ud_of_gate (kmovGate_closed kmovSourceOk_eq_false hcond)
  case kmovbKR | kmovbRK | kmovbMK | kmovdqRK | kmovdqKR | kmovdqMK | kmovwKR | kmovwRK | kmovwMK =>
    intros; rename_i hcond
    and_intros <;> exact exec_ud_of_gate (kmovGate_closed shortIdOk_eq_false hcond)
  case tileload | tilestored =>
    intros; rename_i hcond
    and_intros <;> exact exec_ud_of_gate (tileGate_closed hcond)
  case wrss =>
    intros; rename_i hcond
    and_intros <;> exact exec_ud_of_gate (wrssGate_closed hcond)
  case wruss =>
    intros; rename_i hcond
    and_intros <;> exact exec_ud_of_gate (Bool.and_eq_false_iff.2 hcond)
  case cpuid =>
    exact fun p => ⟨rfl, rfl, rfl, rfl, rfl, rfl, rfl, rfl, rfl, rfl, rfl, rfl, rfl, rfl, rfl, rfl, rfl, rfl, rfl, rfl,
      rfl, avx10_1_iff, keylockerWide_iff⟩

end Sys2Proof.Machine
end

section
/-! SUPPORT. Every instruction keeps to its footprint: each operation a meaning is made of changes what its footprint
names and nothing else, and the dispatch passes this on to the instructions (10_state.md sections 2 to 9). -/
namespace Sys2Proof.Machine

/-- An operation that succeeds changes nothing outside the footprint `f` and keeps the invariants of the state. -/
def Keeps (s : State) (r : Except Exc State) (f : Footprint) : Prop := ∀ t, r = .ok t → Framed s t f

/-! ### Flag updates inside a mask -/

/-- The flags `new` agree with `old` outside the mask `m`. -/
structure Flags.Within (m old new : Flags) : Prop where
  cf : m.cf = false → new.cf = old.cf
  pf : m.pf = false → new.pf = old.pf
  af : m.af = false → new.af = old.af
  zf : m.zf = false → new.zf = old.zf
  sf : m.sf = false → new.sf = old.sf
  of : m.of = false → new.of = old.of

theorem Flags.Within.all (old new : Flags) : Flags.Within Flags.all old new := by
  constructor <;> exact nofun

theorem Flags.Within.refl (m f : Flags) : Flags.Within m f f := by
  constructor <;> exact fun _ => rfl

/-- INC and DEC keep CF, NOT keeps every flag (40_alu.md R188 to R191). -/
theorem unaryFlags_within {N : Nat} (op : UnOp) (old : Flags) (a : BitVec N) :
    (unaryFlags op).Within old (op.flags old a) := by
  cases op with
  | inc => exact ⟨fun _ => rfl, nofun, nofun, nofun, nofun, nofun⟩
  | dec => exact ⟨fun _ => rfl, nofun, nofun, nofun, nofun, nofun⟩
  | neg => exact .all ..
  | not => exact .refl ..

/-- Rotates keep all flags but CF and OF; a masked count of 0 keeps every flag (41_shift_rotate.md R221 to R225). -/
theorem shiftFlags_within {N : Nat} (op : ShiftOp) (old : Flags) (any : Nat → Bool) (a : BitVec N) (c : Nat) :
    (shiftOpFlags op).Within old (shiftFlags op old any a c) := by
  unfold shiftFlags
  split
  · exact .refl ..
  · cases op with
    | rcl | rcr | rol | ror => exact ⟨nofun, fun _ => rfl, fun _ => rfl, fun _ => rfl, fun _ => rfl, nofun⟩
    | sar | shl | shr => exact .all ..

namespace Framed
variable {s t : State} {f : Footprint}

theorem setFlagsWithin (h : Framed s t f) {g : Flags} (hg : f.flags.Within s.flags g) : Framed s (t.setFlags g) f :=
  h.setFlags hg.cf hg.pf hg.af hg.zf hg.sf hg.of

/-- Flags under NF, when the footprint has those of the mask unless NF. -/
theorem setFlagsUnlessWithin (h : Framed s t f) {nf : Bool} {m g : Flags} (hf : f.flags = flagsUnless nf m)
    (hg : m.Within s.flags g) : Framed s (t.setFlagsUnless nf g) f := by
  cases nf with
  | false => exact h.setFlagsWithin (by rw [hf]; exact hg)
  | true => exact h

theorem clobberXmm456 (h : Framed s t f) (h4 : 4 ∈ f.xmms) (h5 : 5 ∈ f.xmms) (h6 : 6 ∈ f.xmms) :
    Framed s t.clobberXmm456 f := ((h.setXmm h4 _).setXmm h5 _).setXmm h6 _

end Framed

/-! ### One write from the state itself -/

section
variable {s : State}

theorem framed_putDst (N : Nat) (d : Dst) (v : BitVec N) (m : Flags) : Framed s (putDst s N d v) (.dst s N d m) :=
  (Framed.refl s _).putDst N (fun _ h => h) (fun _ h => h) v

theorem framed_writeGpr (N : Nat) (i : RegId) (v : BitVec N) (zu : Bool) (m : Flags) :
    Framed s (s.writeGpr N i v zu) (.regs [i] m) := (Framed.refl s _).writeGpr (List.mem_singleton_self i) N v zu

theorem framed_poke (a : Word) (n v : Nat) : Framed s (s.poke a n v) (.store a n) :=
  (Framed.refl s _).poke (List.mem_singleton_self _) v

theorem framed_setK (i : BitVec 3) (v : Word) : Framed s (s.setK i v) { Footprint.none with ks := [i] } :=
  (Framed.refl s _).setK (List.mem_singleton_self i) v

theorem framed_setFlags (g : Flags) : Framed s (s.setFlags g) (.regs [] Flags.all) :=
  (Framed.refl s _).setFlagsAll rfl g

theorem framed_writeWide (N : Nat) (lo hi : BitVec N) (m : Flags) :
    Framed s (writeWide N s lo hi) (.regs (wideGprs N) m) := by
  unfold writeWide wideGprs
  split
  · exact framed_writeGpr ..
  · exact ((Framed.refl s _).writeGpr (List.mem_cons_self ..) N lo false).writeGpr
      (List.mem_cons_of_mem _ (List.mem_cons_self ..)) N hi false

/-! ### Integer arithmetic, shifts, multiply and divide -/

theorem binary_keeps {N : Nat} {op : AluOp} {d : Dst} {x y : Src} {nf : Bool} :
    Keeps s (binary N op d x y nf s) (.dst s N d (flagsUnless nf Flags.all)) := by
  intro t h
  obtain ⟨-, -, -, -, rfl⟩ := (binary_ok ..).1 h
  exact (framed_putDst ..).setFlagsUnless rfl _

theorem unary_keeps {N : Nat} {op : UnOp} {d : Dst} {x : Src} {nf : Bool} :
    Keeps s (unary N op d x nf s) (.dst s N d (flagsUnless nf (unaryFlags op))) := by
  intro t h
  obtain ⟨-, -, -, rfl⟩ := (unary_ok ..).1 h
  exact (framed_putDst ..).setFlagsUnlessWithin rfl (unaryFlags_within ..)

theorem addCarry_keeps {N : Nat} {d : Dst} {x y : Src} :
    Keeps s (addCarry N d x y s) (.dst s N d { Flags.clear with cf := true }) := by
  intro t h
  obtain ⟨-, -, -, -, -, rfl⟩ := (addCarry_ok ..).1 h
  exact (framed_putDst ..).setFlagsWithin ⟨nofun, fun _ => rfl, fun _ => rfl, fun _ => rfl, fun _ => rfl, fun _ => rfl⟩

theorem addOverflow_keeps {N : Nat} {d : Dst} {x y : Src} :
    Keeps s (addOverflow N d x y s) (.dst s N d { Flags.clear with of := true }) := by
  intro t h
  obtain ⟨-, -, -, -, -, rfl⟩ := (addOverflow_ok ..).1 h
  exact (framed_putDst ..).setFlagsWithin ⟨fun _ => rfl, fun _ => rfl, fun _ => rfl, fun _ => rfl, fun _ => rfl, nofun⟩

theorem compare_keeps {N : Nat} {x y : Src} : Keeps s (compare N x y s) (.regs [] Flags.all) := by
  intro t h
  obtain ⟨-, -, -, rfl⟩ := (compare_ok ..).1 h
  exact framed_setFlags _

theorem testBits_keeps {N : Nat} {x y : Src} : Keeps s (testBits N x y s) (.regs [] Flags.all) := by
  intro t h
  obtain ⟨-, -, -, rfl⟩ := (testBits_ok ..).1 h
  exact framed_setFlags _

theorem shift_keeps {N : Nat} {op : ShiftOp} {d : Dst} {x : Src} {c : Count} {nf : Bool} :
    Keeps s (shift N op d x c nf s) (.dst s N d (flagsUnless nf (shiftOpFlags op))) := by
  intro t h
  obtain ⟨-, -, -, rfl⟩ := (shift_ok ..).1 h
  exact (framed_putDst ..).setFlagsUnlessWithin rfl (shiftFlags_within ..)

theorem doubleShift_keeps {N : Nat} {left : Bool} {d : Dst} {x y : Src} {c : Count} {nf : Bool} :
    Keeps s (doubleShift N left d x y c nf s) (.dst s N d (flagsUnless nf Flags.all)) := by
  intro t h
  obtain ⟨-, -, -, -, rfl⟩ := (doubleShift_ok ..).1 h
  exact (framed_putDst ..).setFlagsUnless rfl _

theorem imulTo_keeps {N : Nat} {d : Dst} {x y : Src} {nf : Bool} :
    Keeps s (imulTo N d x y nf s) (.dst s N d (flagsUnless nf Flags.all)) := by
  intro t h
  obtain ⟨-, -, -, -, rfl⟩ := (imulTo_ok ..).1 h
  exact (framed_putDst ..).setFlagsUnless rfl _

theorem mulWide_keeps {N : Nat} {sg : Bool} {x : Src} {nf : Bool} :
    Keeps s (mulWide N sg x nf s) (.regs (wideGprs N) (flagsUnless nf Flags.all)) := by
  intro t h
  obtain ⟨-, -, rfl⟩ := (mulWide_ok ..).1 h
  exact (framed_writeWide ..).setFlagsUnless rfl _

theorem divWide_keeps {N : Nat} {sg : Bool} {x : Src} {nf : Bool} :
    Keeps s (divWide N sg x nf s) (.regs (wideGprs N) (flagsUnless nf Flags.all)) := by
  intro t h
  obtain ⟨-, -, q, r, -, rfl⟩ := (divWide_ok ..).1 h
  exact (framed_writeWide ..).setFlagsUnless rfl _

theorem mulx_keeps {N : Nat} {hi lo : RegId} {x : Src} : Keeps s (mulx N hi lo x s) (.regs [hi, lo] Flags.clear) := by
  intro t h
  obtain ⟨-, -, -, rfl⟩ := (mulx_ok ..).1 h
  exact ((Framed.refl s _).writeGpr (List.mem_cons_of_mem _ (List.mem_cons_self ..)) _ _ _).writeGpr
    (List.mem_cons_self ..) _ _ _

/-! ### Bit counts, byte order and bit manipulation -/

theorem countBits_keeps {N : Nat} {op : CountOp} {ok : Features → Bool} {reg : RegId} {x : Src} {nf : Bool} :
    Keeps s (countBits N op ok reg x nf s) (.regs [reg] (flagsUnless nf Flags.all)) := by
  intro t h
  obtain ⟨-, -, -, rfl⟩ := (countBits_ok ..).1 h
  exact (framed_writeGpr ..).setFlagsUnless rfl _

theorem crc32_keeps {N : Nat} {reg : RegId} {x : Src} : Keeps s (crc32 N reg x s) (.regs [reg] Flags.clear) := by
  intro t h
  obtain ⟨-, -, rfl⟩ := (crc32_ok ..).1 h
  exact framed_writeGpr ..

theorem movbe_keeps {N : Nat} {d : Dst} {x : Src} : Keeps s (movbe N d x s) (.dst s N d Flags.clear) := by
  intro t h
  obtain ⟨-, -, -, -, rfl⟩ := (movbe_ok ..).1 h
  exact framed_putDst ..

theorem andn_keeps {N : Nat} {reg v : RegId} {x : Src} {nf : Bool} :
    Keeps s (andn N reg v x nf s) (.regs [reg] (flagsUnless nf Flags.all)) := by
  intro t h
  obtain ⟨-, -, -, rfl⟩ := (andn_ok ..).1 h
  exact (framed_writeGpr ..).setFlagsUnless rfl _

theorem bextr_keeps {N : Nat} {reg v : RegId} {x : Src} {nf : Bool} :
    Keeps s (bextr N reg x v nf s) (.regs [reg] (flagsUnless nf Flags.all)) := by
  intro t h
  obtain ⟨-, -, -, rfl⟩ := (bextr_ok ..).1 h
  exact (framed_writeGpr ..).setFlagsUnless rfl _

theorem blsi_keeps {N : Nat} {v : RegId} {x : Src} {nf : Bool} :
    Keeps s (blsi N v x nf s) (.regs [v] (flagsUnless nf Flags.all)) := by
  intro t h
  obtain ⟨-, -, -, rfl⟩ := (blsi_ok ..).1 h
  exact (framed_writeGpr ..).setFlagsUnless rfl _

theorem blsmsk_keeps {N : Nat} {v : RegId} {x : Src} {nf : Bool} :
    Keeps s (blsmsk N v x nf s) (.regs [v] (flagsUnless nf Flags.all)) := by
  intro t h
  obtain ⟨-, -, -, rfl⟩ := (blsmsk_ok ..).1 h
  exact (framed_writeGpr ..).setFlagsUnless rfl _

theorem blsr_keeps {N : Nat} {v : RegId} {x : Src} {nf : Bool} :
    Keeps s (blsr N v x nf s) (.regs [v] (flagsUnless nf Flags.all)) := by
  intro t h
  obtain ⟨-, -, -, rfl⟩ := (blsr_ok ..).1 h
  exact (framed_writeGpr ..).setFlagsUnless rfl _

theorem bzhi_keeps {N : Nat} {reg v : RegId} {x : Src} {nf : Bool} :
    Keeps s (bzhi N reg x v nf s) (.regs [reg] (flagsUnless nf Flags.all)) := by
  intro t h
  obtain ⟨-, -, -, rfl⟩ := (bzhi_ok ..).1 h
  exact (framed_writeGpr ..).setFlagsUnless rfl _

theorem bmi2_keeps {N : Nat} {op : Bmi2Op} {reg : RegId} {x y : Src} :
    Keeps s (bmi2 N op reg x y s) (.regs [reg] Flags.clear) := by
  intro t h
  obtain ⟨-, -, -, -, rfl⟩ := (bmi2_ok ..).1 h
  exact framed_writeGpr ..

/-! ### Conditional instructions -/

theorem cmovNdd_keeps {cc : Cond} {N : Nat} {v reg : RegId} {rm : RM} :
    Keeps s (cmovNdd cc N v reg rm s) (.regs [v] Flags.clear) := by
  intro t h
  obtain ⟨-, -, rfl⟩ := (cmovNdd_ok ..).1 h
  exact framed_writeGpr ..

theorem cmovLegacy_keeps {cc : Cond} {N : Nat} {reg : RegId} {rm : RM} :
    Keeps s (cmovLegacy cc N reg rm s) (.regs [reg] Flags.clear) := by
  intro t h
  obtain ⟨-, -, rfl⟩ := (cmovLegacy_ok ..).1 h
  split_ifs
  · exact framed_writeGpr ..
  · exact framed_writeGpr ..
  · exact .refl ..

theorem cfcmovLoad_keeps {cc : Cond} {N : Nat} {reg : RegId} {rm : RM} :
    Keeps s (cfcmovLoad cc N reg rm s) (.regs [reg] Flags.clear) := by
  intro t h
  obtain ⟨-, -, rfl⟩ := (cfcmovLoad_ok ..).1 h
  exact framed_writeGpr ..

theorem cfcmovReg_keeps {cc : Cond} {N : Nat} {dst reg : RegId} :
    Keeps s (cfcmovReg cc N dst reg s) (.regs [dst] Flags.clear) := by
  intro t h
  obtain ⟨-, rfl⟩ := (cfcmovReg_ok ..).1 h
  exact framed_writeGpr ..

theorem cfcmovStore_keeps {cc : Cond} {N : Nat} {m : Mem} {reg : RegId} :
    Keeps s (cfcmovStore cc N m reg s) (.store (linAddr s m) (N / 8)) := by
  intro t h
  obtain ⟨-, -, rfl⟩ := (cfcmovStore_ok ..).1 h
  split
  · exact framed_poke ..
  · exact .refl ..

theorem cfcmovNdd_keeps {cc : Cond} {N : Nat} {v reg : RegId} {rm : RM} :
    Keeps s (cfcmovNdd cc N v reg rm s) (.regs [v] Flags.clear) := by
  intro t h
  obtain ⟨-, -, rfl⟩ := (cfcmovNdd_ok ..).1 h
  exact framed_writeGpr ..

theorem setByte_keeps {cc : Cond} {rm : RM} {zu : Bool} :
    Keeps s (setByte cc rm zu s) (.dst s 8 (dstRM rm none) Flags.clear) := by
  intro t h
  obtain ⟨-, -, rfl⟩ := (setByte_ok ..).1 h
  cases rm with
  | reg i => exact (Framed.refl s _).writeGpr (List.mem_singleton_self i) ..
  | mem m => exact framed_putDst ..

theorem condCompare_keeps {scc : Scc} {dfv : Dfv} {N : Nat} {x y : Src} :
    Keeps s (condCompare scc dfv N x y s) (.regs [] Flags.all) := by
  intro t h
  obtain ⟨-, -, -, rfl⟩ := (condCompare_ok ..).1 h
  exact framed_setFlags _

theorem condTest_keeps {scc : Scc} {dfv : Dfv} {N : Nat} {x y : Src} :
    Keeps s (condTest scc dfv N x y s) (.regs [] Flags.all) := by
  intro t h
  obtain ⟨-, -, -, rfl⟩ := (condTest_ok ..).1 h
  exact framed_setFlags _

theorem cmpxadd_keeps {cc : Cond} {N : Nat} {m : Mem} {reg v : RegId} :
    Keeps s (cmpxadd cc N m reg v s)
      { Footprint.store (linAddr s m) (N / 8) with gprs := [reg], flags := Flags.all } := by
  intro t h
  obtain ⟨-, -, -, -, rfl⟩ := (cmpxadd_ok ..).1 h
  refine (Framed.writeGpr ?_ (List.mem_singleton_self reg) ..).setFlagsAll rfl _
  split
  · exact (Framed.refl s _).poke (List.mem_singleton_self _) _
  · exact .refl ..

/-! ### Opmask and tile registers -/

theorem kmovLoad_keeps {N : Nat} {ok : Features → Bool} {k : ShortId} {x : KRM} :
    Keeps s (kmovLoad N ok k x s) { Footprint.none with ks := [k.id] } := by
  intro t h
  obtain ⟨-, -, -, -, -, rfl⟩ := (kmovLoad_ok ..).1 h
  exact framed_setK ..

theorem kmovFromGpr_keeps {N : Nat} {ok : Features → Bool} {k : ShortId} {r : RegId} :
    Keeps s (kmovFromGpr N ok k r s) { Footprint.none with ks := [k.id] } := by
  intro t h
  obtain ⟨-, -, -, -, rfl⟩ := (kmovFromGpr_ok ..).1 h
  exact framed_setK ..

theorem kmovToGpr_keeps {N : Nat} {ok : Features → Bool} {r : RegId} {k : ShortId} :
    Keeps s (kmovToGpr N ok r k s) (.regs [r] Flags.clear) := by
  intro t h
  obtain ⟨-, -, -, -, rfl⟩ := (kmovToGpr_ok ..).1 h
  exact framed_writeGpr ..

theorem kmovStore_keeps {N : Nat} {ok : Features → Bool} {m : Mem} {k : ShortId} :
    Keeps s (kmovStore N ok m k s) (.store (linAddr s m) (N / 8)) := by
  intro t h
  obtain ⟨-, -, -, -, -, rfl⟩ := (kmovStore_ok ..).1 h
  exact framed_poke ..

theorem loadTileConfig_keeps {m : Mem} : Keeps s (loadTileConfig m s) { Footprint.none with tile := true } := by
  intro t h
  obtain ⟨-, -, -, -, rfl⟩ := (loadTileConfig_ok ..).1 h
  exact (Framed.refl s _).withTile rfl _

theorem storeTileConfig_keeps {m : Mem} : Keeps s (storeTileConfig m s) (.store (linAddr s m) 64) := by
  intro t h
  obtain ⟨-, -, -, rfl⟩ := (storeTileConfig_ok ..).1 h
  exact framed_poke ..

theorem tileLoad_keeps {k : ShortId} {m : Mem} : Keeps s (tileLoad k m s) { Footprint.none with tile := true } := by
  intro t h
  obtain ⟨-, -, -, rfl⟩ := tileLoad_ok.1 h
  exact (Framed.refl s _).withTile rfl _

theorem tileStore_keeps {m : Mem} {k : ShortId} :
    Keeps s (tileStore m k s) { Footprint.none with
      stores := rowStores s m (s.tileShape k.id).colsb 0 (s.tileShape k.id).rows } := by
  intro t h
  obtain ⟨-, -, -, rfl⟩ := tileStore_ok.1 h
  exact (Framed.refl s _).withRows m k.id _ 0 _ (fun _ hp => hp) s.mem rfl

/-! ### Key Locker and SHA -/

theorem klBlock_keeps {H : Nat} {f : BitVec H → Xmm → Nat → Bool × Xmm} {x : BitVec 4} {m : Mem} :
    Keeps s (klBlock H f x m s) { Footprint.none with xmms := [x], flags := Flags.all } := by
  intro t h
  obtain ⟨-, -, -, rfl⟩ := (klBlock_ok ..).1 h
  refine Framed.setFlagsAll ?_ rfl _
  split
  · exact (Framed.refl s _).setXmm (List.mem_singleton_self x) _
  · exact .refl ..

/-- The registers xmm8 to xmm15 are not among the low ones. -/
theorem getElem_setLowXmm_of_le {xs : Vector Xmm 16} {ys : Vector Xmm 8} {i : Nat} (hi : i < 16) (h : 8 ≤ i) :
    (setLowXmm xs ys)[i] = xs[i] := by
  rw [setLowXmm, Vector.getElem_ofFn, dif_neg (Nat.not_lt.2 h)]

theorem klWide_keeps {H : Nat} {f : BitVec H → Vector Xmm 8 → Nat → Bool × Vector Xmm 8} {m : Mem} :
    Keeps s (klWide H f m s) { Footprint.none with xmms := [0, 1, 2, 3, 4, 5, 6, 7], flags := Flags.all } := by
  intro t h
  obtain ⟨-, -, -, rfl⟩ := (klWide_ok ..).1 h
  have hhigh : ∀ x : BitVec 4, x ∉ [0, 1, 2, 3, 4, 5, 6, 7] → 8 ≤ x.toNat := by decide
  refine Framed.setFlagsAll ?_ rfl _
  split
  · exact (Framed.refl s _).withXmm fun x hx => getElem_setLowXmm_of_le x.isLt (hhigh x hx)
  · exact .refl ..

theorem encodeKey128_keeps {dst src : RegId} :
    Keeps s (encodeKey128 dst src s) { Footprint.regs [dst] Flags.all with xmms := [0, 1, 2, 4, 5, 6] } := by
  intro t h
  obtain ⟨-, -, rfl⟩ := (encodeKey128_ok ..).1 h
  refine (Framed.writeGpr (.clobberXmm456 ?handle ?x4 ?x5 ?x6) (List.mem_singleton_self dst) ..).setFlagsAll rfl _
  case handle => exact (((Framed.refl s _).setXmm (by simp) _).setXmm (by simp) _).setXmm (by simp) _
  case x4 | x5 | x6 => simp

theorem encodeKey256_keeps {dst src : RegId} :
    Keeps s (encodeKey256 dst src s) { Footprint.regs [dst] Flags.all with xmms := [0, 1, 2, 3, 4, 5, 6] } := by
  intro t h
  obtain ⟨-, -, rfl⟩ := (encodeKey256_ok ..).1 h
  refine (Framed.writeGpr (.clobberXmm456 ?handle ?x4 ?x5 ?x6) (List.mem_singleton_self dst) ..).setFlagsAll rfl _
  case handle =>
    exact ((((Framed.refl s _).setXmm (by simp) _).setXmm (by simp) _).setXmm (by simp) _).setXmm (by simp) _
  case x4 | x5 | x6 => simp

theorem sha_keeps {f : Xmm → Xmm → Xmm} {dst : BitVec 4} {x : XRM} :
    Keeps s (sha f dst x s) { Footprint.none with xmms := [dst] } := by
  intro t h
  obtain ⟨-, -, -, rfl⟩ := (sha_ok ..).1 h
  exact (Framed.refl s _).setXmm (List.mem_singleton_self dst) _

/-! ### System and direct-store instructions -/

theorem invept_keeps {r : RegId} {m : Mem} : Keeps s (invept r m s) (.regs [] Flags.all) := by
  intro t h
  obtain ⟨-, -, -, -, -, -, -, rfl⟩ := (invept_ok ..).1 h
  exact framed_setFlags _

theorem invvpid_keeps {r : RegId} {m : Mem} : Keeps s (invvpid r m s) (.regs [] Flags.all) := by
  intro t h
  obtain ⟨-, -, -, -, -, -, -, rfl⟩ := (invvpid_ok ..).1 h
  exact framed_setFlags _

theorem invpcid_keeps {r : RegId} {m : Mem} : Keeps s (invpcid r m s) .none := by
  intro t h
  obtain ⟨-, -, -, -, -, -, rfl⟩ := (invpcid_ok ..).1 h
  exact .refl ..

theorem wrss_keeps {N : Nat} {m : Mem} {r : RegId} : Keeps s (wrss N m r s) (.store (linAddr s m) (N / 8)) := by
  intro t h
  obtain ⟨-, -, -, -, -, rfl⟩ := (wrss_ok ..).1 h
  exact framed_poke ..

theorem wruss_keeps {N : Nat} {m : Mem} {r : RegId} : Keeps s (wruss N m r s) (.store (linAddr s m) (N / 8)) := by
  intro t h
  obtain ⟨-, -, -, -, -, rfl⟩ := (wruss_ok ..).1 h
  exact framed_poke ..

theorem enqcmd_keeps {r : RegId} {m : Mem} :
    Keeps s (enqcmd r m s) { Footprint.regs [] Flags.all with inputs := true } := by
  intro t h
  obtain ⟨-, -, -, -, -, -, rfl⟩ := (enqcmd_ok ..).1 h
  exact (Framed.refl s _).enqueued rfl rfl

theorem enqcmds_keeps {r : RegId} {m : Mem} :
    Keeps s (enqcmds r m s) { Footprint.regs [] Flags.all with inputs := true } := by
  intro t h
  obtain ⟨-, -, -, -, -, -, rfl⟩ := (enqcmds_ok ..).1 h
  exact (Framed.refl s _).enqueued rfl rfl

theorem movdiri_keeps {N : Nat} {m : Mem} {r : RegId} :
    Keeps s (movdiri N m r s) (.store (linAddr s m) (N / 8)) := by
  intro t h
  obtain ⟨-, -, -, rfl⟩ := (movdiri_ok ..).1 h
  exact framed_poke ..

theorem movdir64b_keeps {r : RegId} {m : Mem} : Keeps s (movdir64b r m s) (.store (addrReg s m.a32 r) 64) := by
  intro t h
  obtain ⟨-, -, -, -, -, rfl⟩ := (movdir64b_ok ..).1 h
  exact framed_poke ..

/-! ### Data movement, the stack and the jump -/

theorem move_keeps {N : Nat} {d : Dst} {x : Src} : Keeps s (move N d x s) (.dst s N d Flags.clear) := by
  intro t h
  obtain ⟨-, -, -, rfl⟩ := (move_ok ..).1 h
  exact framed_putDst ..

theorem lea_keeps {N : Nat} {reg : RegId} {m : Mem} : Keeps s (lea N reg m s) (.regs [reg] Flags.clear) := by
  intro t h
  obtain ⟨-, rfl⟩ := (lea_ok ..).1 h
  exact framed_writeGpr ..

theorem moveExtend_keeps {N M : Nat} {sg : Bool} {reg : RegId} {x : Src} :
    Keeps s (moveExtend N M sg reg x s) (.regs [reg] Flags.clear) := by
  intro t h
  obtain ⟨-, -, rfl⟩ := (moveExtend_ok ..).1 h
  exact framed_writeGpr ..

theorem push_keeps {x : Src} : Keeps s (push x s) { Footprint.store (s.rsp - 8) 8 with gprs := [4] } := by
  intro t h
  obtain ⟨-, -, -, rfl⟩ := (push_ok ..).1 h
  exact ((Framed.refl s _).poke (List.mem_singleton_self _) _).setGpr (List.mem_singleton_self 4) _

/-- POP writes RSP, and its destination from the state in which RSP is already moved. -/
theorem pop_keeps {d : Dst} :
    Keeps s (pop d s)
      { Footprint.dst (s.setGpr 4 (s.rsp + 8)) 64 d Flags.clear with gprs := 4 :: dstGprs d } := by
  intro t h
  obtain ⟨-, -, -, rfl⟩ := (pop_ok ..).1 h
  exact ((Framed.refl s _).setGpr (List.mem_cons_self ..) _).putDst 64 (fun _ => List.mem_cons_of_mem 4)
    (fun _ hp => hp) _

theorem push2_keeps {v b : RegId} :
    Keeps s (push2 v b s) { Footprint.none with gprs := [4], stores := [(s.rsp - 8, 8), (s.rsp - 16, 8)] } := by
  intro t h
  obtain ⟨-, -, -, -, -, rfl⟩ := (push2_ok ..).1 h
  exact (((Framed.refl s _).poke (List.mem_cons_self ..) _).poke
    (List.mem_cons_of_mem _ (List.mem_cons_self ..)) _).setGpr (List.mem_singleton_self 4) _

theorem pop2_keeps {v b : RegId} : Keeps s (pop2 v b s) (.regs [v, b, 4] Flags.clear) := by
  intro t h
  obtain ⟨-, -, -, -, -, -, rfl⟩ := (pop2_ok ..).1 h
  have hv : v ∈ [v, b, 4] := List.mem_cons_self ..
  have hb : b ∈ [v, b, 4] := List.mem_cons_of_mem _ (List.mem_cons_self ..)
  have hrsp : 4 ∈ [v, b, 4] := List.mem_cons_of_mem _ (List.mem_cons_of_mem _ (List.mem_cons_self ..))
  exact (((Framed.refl s _).setGpr hv _).setGpr hb _).setGpr hrsp _

theorem jumpAbs_keeps {target : Word} : Keeps s (jumpAbs target s) { Footprint.none with rip := true } := by
  intro t h
  obtain ⟨-, -, rfl⟩ := (jumpAbs_ok ..).1 h
  exact (Framed.refl s _).withRip rfl target

end
/-! ### The dispatch -/

/-- Every instruction's meaning keeps to the instruction's footprint. -/
theorem exec_keeps (i : Instr) (s : State) : ∃ r, exec i s = finish r ∧ Keeps s r (footprint s i) := by
  cases i with
  | adcRmR | adcRRm | adcRmImm | adcRmI8 | addRmR | addRRm | addRmImm | addRmI8 | andRmR | andRRm | andRmImm |
      andRmI8 | orRRm | orRmR | orRmImm | orRmI8 | sbbRmR | sbbRRm | sbbRmImm | sbbRmI8 | subRmR | subRRm |
      subRmImm | subRmI8 | xorRmR | xorRRm | xorRmImm | xorRmI8 | rex2AddRmR | rex2AddRRm | rex2AddRmImm |
      rex2AddRmI8 | rex2OrRmR | rex2OrRRm | rex2OrRmImm | rex2OrRmI8 | rex2AdcRmR | rex2AdcRRm | rex2AdcRmImm |
      rex2AdcRmI8 | rex2SbbRmR | rex2SbbRRm | rex2SbbRmImm | rex2SbbRmI8 | rex2AndRmR | rex2AndRRm |
      rex2AndRmImm | rex2AndRmI8 | rex2SubRmR | rex2SubRRm | rex2SubRmImm | rex2SubRmI8 | rex2XorRmR |
      rex2XorRRm | rex2XorRmImm | rex2XorRmI8 =>
    exact ⟨_, rfl, binary_keeps⟩
  | adcx => exact ⟨_, rfl, addCarry_keeps⟩
  | adox => exact ⟨_, rfl, addOverflow_keeps⟩
  | aesdec128kl | aesdec256kl | aesenc128kl | aesenc256kl => exact ⟨_, rfl, klBlock_keeps⟩
  | aesdecwide128kl | aesdecwide256kl | aesencwide128kl | aesencwide256kl => exact ⟨_, rfl, klWide_keeps⟩
  | andn => exact ⟨_, rfl, andn_keeps⟩
  | bextr => exact ⟨_, rfl, bextr_keeps⟩
  | blsi => exact ⟨_, rfl, blsi_keeps⟩
  | blsmsk => exact ⟨_, rfl, blsmsk_keeps⟩
  | blsr => exact ⟨_, rfl, blsr_keeps⟩
  | bzhi => exact ⟨_, rfl, bzhi_keeps⟩
  | cmov => exact ⟨_, rfl, cmovNdd_keeps⟩
  | cmpccxadd => exact ⟨_, rfl, cmpxadd_keeps⟩
  | crc32Rm8 | crc32Rm => exact ⟨_, rfl, crc32_keeps⟩
  | decRm | incRm | negRm | notRm | rex2NotRm | rex2NegRm | rex2IncRm | rex2DecRm => exact ⟨_, rfl, unary_keeps⟩
  | divRm | idivRm | rex2DivRm | rex2IdivRm => exact ⟨_, rfl, divWide_keeps⟩
  | encodekey128 => exact ⟨_, rfl, encodeKey128_keeps⟩
  | encodekey256 => exact ⟨_, rfl, encodeKey256_keeps⟩
  | enqcmd => exact ⟨_, rfl, enqcmd_keeps⟩
  | enqcmds => exact ⟨_, rfl, enqcmds_keeps⟩
  | imulRRmIz | imulRRmI8 | imulRRm | rex2ImulRRmIz | rex2ImulRRmI8 | rex2ImulRRm => exact ⟨_, rfl, imulTo_keeps⟩
  | imulRm | mulRm | rex2MulRm | rex2ImulRm => exact ⟨_, rfl, mulWide_keeps⟩
  | invept => exact ⟨_, rfl, invept_keeps⟩
  | invpcid => exact ⟨_, rfl, invpcid_keeps⟩
  | invvpid => exact ⟨_, rfl, invvpid_keeps⟩
  | kmovbKKm | kmovdKKm | kmovqKKm | kmovwKKm => exact ⟨_, rfl, kmovLoad_keeps⟩
  | kmovbKR | kmovdKR | kmovqKR | kmovwKR => exact ⟨_, rfl, kmovFromGpr_keeps⟩
  | kmovbRK | kmovdRK | kmovqRK | kmovwRK => exact ⟨_, rfl, kmovToGpr_keeps⟩
  | kmovbMK | kmovdMK | kmovqMK | kmovwMK => exact ⟨_, rfl, kmovStore_keeps⟩
  | ldtilecfg => exact ⟨_, rfl, loadTileConfig_keeps⟩
  | lzcnt | popcnt | tzcnt => exact ⟨_, rfl, countBits_keeps⟩
  | movbeRRm | movbeRmR => exact ⟨_, rfl, movbe_keeps⟩
  | movdir64b => exact ⟨_, rfl, movdir64b_keeps⟩
  | movdiri => exact ⟨_, rfl, movdiri_keeps⟩
  | mulx => exact ⟨_, rfl, mulx_keeps⟩
  | pdep | pext | rorx | sarx | shlx | shrx => exact ⟨_, rfl, bmi2_keeps⟩
  | rclRmI8 | rclRmOne | rclRmCl | rcrRmI8 | rcrRmOne | rcrRmCl | rolRmI8 | rolRmOne | rolRmCl | rorRmI8 |
      rorRmOne | rorRmCl | sarRmI8 | sarRmOne | sarRmCl | shlRmI8 | shlRmOne | shlRmCl | shrRmI8 | shrRmOne |
      shrRmCl | rex2RolRmI8 | rex2RorRmI8 | rex2RclRmI8 | rex2RcrRmI8 | rex2ShlRmI8 | rex2ShrRmI8 | rex2SarRmI8 |
      rex2RolRmOne | rex2RorRmOne | rex2RclRmOne | rex2RcrRmOne | rex2ShlRmOne | rex2ShrRmOne | rex2SarRmOne |
      rex2RolRmCl | rex2RorRmCl | rex2RclRmCl | rex2RcrRmCl | rex2ShlRmCl | rex2ShrRmCl | rex2SarRmCl =>
    exact ⟨_, rfl, shift_keeps⟩
  | sha1msg1 | sha1msg2 | sha1nexte | sha1rnds4 | sha256msg1 | sha256msg2 | sha256rnds2 => exact ⟨_, rfl, sha_keeps⟩
  | shldRmRI8 | shldRmRCl | shrdRmRI8 | shrdRmRCl | rex2ShldRmRI8 | rex2ShldRmRCl | rex2ShrdRmRI8 |
      rex2ShrdRmRCl =>
    exact ⟨_, rfl, doubleShift_keeps⟩
  | sttilecfg => exact ⟨_, rfl, storeTileConfig_keeps⟩
  | tileloadd | tileloaddt1 => exact ⟨_, rfl, tileLoad_keeps⟩
  | tilestored => exact ⟨_, rfl, tileStore_keeps⟩
  | wrssd | wrssq => exact ⟨_, rfl, wrss_keeps⟩
  | wrussd | wrussq => exact ⟨_, rfl, wruss_keeps⟩
  | ccmpRmR | ccmpRRm | ccmpRmImm | ccmpRmI8 => exact ⟨_, rfl, condCompare_keeps⟩
  | cfcmovLoad => exact ⟨_, rfl, cfcmovLoad_keeps⟩
  | cfcmovReg => exact ⟨_, rfl, cfcmovReg_keeps⟩
  | cfcmovStore => exact ⟨_, rfl, cfcmovStore_keeps⟩
  | cfcmovNdd => exact ⟨_, rfl, cfcmovNdd_keeps⟩
  | ctestRmR | ctestRmImm => exact ⟨_, rfl, condTest_keeps⟩
  | setcc | rex2Setcc => exact ⟨_, rfl, setByte_keeps⟩
  | pop2 | pop2p => exact ⟨_, rfl, pop2_keeps⟩
  | push2 | push2p => exact ⟨_, rfl, push2_keeps⟩
  | rex2CmpRmR | rex2CmpRRm | rex2CmpRmImm | rex2CmpRmI8 => exact ⟨_, rfl, compare_keeps⟩
  | rex2TestRmR | rex2TestRmImm => exact ⟨_, rfl, testBits_keeps⟩
  | rex2MovRmR | rex2MovRRm | rex2MovRmImm | rex2MovRImm => exact ⟨_, rfl, move_keeps⟩
  | rex2Lea => exact ⟨_, rfl, lea_keeps⟩
  | rex2Movsxd | rex2Movzx | rex2Movsx => exact ⟨_, rfl, moveExtend_keeps⟩
  | rex2Cmov => exact ⟨_, rfl, cmovLegacy_keeps⟩
  | rex2PushRm | rex2PushR | rex2Pushp => exact ⟨_, rfl, push_keeps⟩
  | rex2PopRm | rex2PopR | rex2Popp => exact ⟨_, rfl, pop_keeps⟩
  | jmpabs => exact ⟨_, rfl, jumpAbs_keeps⟩

/-- An instruction that goes on changes nothing outside its footprint and keeps the invariants of the state. -/
theorem framed_of_exec {i : Instr} {s t : State} (h : exec i s = .next t) : Framed s t (footprint s i) := by
  obtain ⟨r, hexec, hkeeps⟩ := exec_keeps i s
  exact hkeeps t (finish_next.1 (hexec ▸ h))

/-! ### The step -/

/-- A step that goes on runs one instruction, from the state whose RIP is past it. -/
theorem exec_of_step {s t : State} (h : step s = .next t) : ∃ i len, exec i (s.advance len) = .next t := by
  unfold step at h
  split at h
  · exact nomatch h
  · unfold runDecoded at h
    split at h
    · exact ⟨_, _, h⟩
    · exact nomatch h
    · exact nomatch h
    · rw [refuse_eq] at h
      split at h <;> exact nomatch h

/-- A step that goes on changes, beside RIP and the counter of free values, what one footprint names. -/
theorem framed_of_step {s t : State} (h : step s = .next t) : ∃ len f, Framed (s.advance len) t f :=
  let ⟨_, len, hexec⟩ := exec_of_step h
  ⟨len, _, framed_of_exec hexec⟩

end Sys2Proof.Machine
end

section
/-! O4, O5, O13, O14 and O16. What a step keeps, what an instruction leaves unchanged, and when APX is enabled
(10_state.md sections 2 to 9). -/
namespace Sys2Proof.Machine

/-- APX_ENABLED depends on the mode, the control bits and the parameters alone (10_state.md R38). -/
theorem apxEnabled_congr {s t : State} (hmode : t.mode = s.mode) (hctrl : t.ctrl = s.ctrl)
    (hparams : t.params = s.params) : t.apxEnabled = s.apxEnabled := by
  simp only [State.apxEnabled, hmode, hctrl, hparams]

theorem apxEnabled_iff {s : State} :
    s.apxEnabled = true ↔
      s.mode = .mode64 ∧ s.params.features.apxF = true ∧ s.ctrl.cr4Osxsave = true ∧ s.ctrl.xcr0Apx = true := by
  simp only [State.apxEnabled, Bool.and_eq_true, beq_iff_eq, and_assoc]

/-- While APX is not enabled, the gate every meaning begins with raises #UD (60_exceptions.md R437). -/
theorem exec_ud_of_disabled {i : Instr} {s : State} (h : s.apxEnabled = false) : exec i s = takeException .ud := by
  obtain ⟨r, ⟨f, rfl⟩, hexec⟩ := exec_gated i s
  rw [hexec, gate_disabled h, bind_error, finish_fault]

/-- JMPABS alone writes RIP itself (10_state.md R25). -/
theorem footprint_rip_of_ne_jmpabs {i : Instr} (h : ∀ target, i ≠ .jmpabs target) (s : State) :
    (footprint s i).rip = false := by
  cases i with
  | jmpabs target => exact absurd rfl (h target)
  | _ => rfl

/-- Settles O4: the advance past the instruction leaves the EGPRs and XINUSE[19] alone, and each write an instruction
makes keeps the invariant and never clears XINUSE[19] (`Framed.apxOk`, `Framed.mono`). -/
theorem stepKeepsApxInitState : Obligations.StepKeepsApxInitState := by
  intro s t hs h
  obtain ⟨len, f, hframed⟩ := framed_of_step h
  exact ⟨hframed.apxOk hs, hframed.mono⟩

/-- Settles O5: no footprint holds system state. -/
theorem stepKeepsSystemState : Obligations.StepKeepsSystemState := by
  intro s t h
  obtain ⟨len, f, hframed⟩ := framed_of_step h
  exact ⟨⟨hframed.ctrl, hframed.mode, hframed.cpl, hframed.params, hframed.iwkey⟩,
    apxEnabled_congr hframed.mode hframed.ctrl hframed.params⟩

/-- Settles O13: `exec_ud_of_disabled` is the part about every instruction. -/
theorem apxEnablingCondition : Obligations.ApxEnablingCondition :=
  ⟨fun _ => apxEnabled_iff, fun _ _ => exec_ud_of_disabled, rfl⟩

/-- Settles O14: the part of `framed_of_exec` about registers and flags. -/
theorem frameOfRegistersAndFlags : Obligations.FrameOfRegistersAndFlags := by
  intro i s t h
  have hframed := framed_of_exec h
  exact ⟨hframed.gprs, hframed.cf, hframed.pf, hframed.af, hframed.zf, hframed.sf, hframed.of, hframed.ks, hframed.xmms⟩

/-- Settles O16: the part of `framed_of_exec` about the rest of the state. -/
theorem frameOfTheRest : Obligations.FrameOfTheRest := by
  intro i s t h
  have hframed := framed_of_exec h
  exact ⟨fun hi => hframed.rip (footprint_rip_of_ne_jmpabs hi s), hframed.tile, hframed.inputs, hframed.xinuse,
    hframed.mode, hframed.cpl, hframed.ctrl, hframed.params, hframed.iwkey, hframed.free⟩

end Sys2Proof.Machine
end

section
/-! O1, O2, O17, O21, O30 and O31. The values after RESET and INIT, the bits an N-bit write leaves, the condition codes,
and the APX state component in the XSAVE area (10_state.md sections 3, 4, 7 and 8). -/
namespace Sys2Proof.Machine

/-! ### RESET and INIT -/

theorem getGpr_reset (r : RegId) : State.reset.getGpr r = 0 := Vector.getElem_replicate _

theorem getXmm_reset (x : BitVec 4) : State.reset.getXmm x = 0 := Vector.getElem_replicate _

theorem getGpr_init (s : State) (r : RegId) :
    s.init.getGpr r = if 8 ≤ r.toNat ∧ r.toNat < 16 then 0 else s.getGpr r := Vector.getElem_ofFn _

theorem getXmm_init (s : State) (x : BitVec 4) : s.init.getXmm x = s.getXmm x := by
  simp only [State.getXmm, State.init]

/-- Settles O1, register by register: RESET and Power Up fill both files with 0, INIT rewrites R8 to R15 alone. -/
theorem resetPowerUpAndInitValues : Obligations.ResetPowerUpAndInitValues := by
  refine ⟨fun r _ => ⟨getGpr_reset r, getGpr_reset r⟩, fun x => ⟨getXmm_reset x, getXmm_reset x⟩, ?legacy, ?egpr,
    getXmm_init⟩
  case legacy =>
    intro s r h8 h16
    rw [getGpr_init, if_pos ⟨h8, h16⟩]
  case egpr =>
    intro s r h16
    rw [getGpr_init, if_neg (by omega)]

/-- Settles O2: after RESET memory is empty, and every register is 0. -/
theorem resetMeetsTheInvariants : Obligations.ResetMeetsTheInvariants :=
  ⟨State.reset_memOk, fun _ r _ => getGpr_reset r, rfl, rfl⟩

/-! ### Writing a register -/

/-- Bit b of a register after an N-bit write (10_state.md R27). -/
theorem getLsbD_mergeGpr {N b : Nat} (zu : Bool) (old : Word) (v : BitVec N) (hb : b < 64) :
    (mergeGpr N zu old v).getLsbD b =
      if b < N then v.getLsbD b else if N = 32 ∨ zu = true then false else old.getLsbD b := by
  unfold mergeGpr
  by_cases hbN : b < N
  · rw [if_pos hbN]
    split
    · simp [hb]
    · simp [hb, hbN]
  · rw [if_neg hbN]
    have hv := v.getLsbD_of_ge b (Nat.le_of_not_lt hbN)
    have h64 : N ≠ 64 := by omega
    simp only [h64, false_or]
    split
    · simp [hv]
    · rw [BitVec.getLsbD_or, BitVec.getLsbD_shiftLeft, BitVec.getLsbD_ushiftRight, BitVec.getLsbD_setWidth, hv,
        Nat.add_sub_cancel' (Nat.le_of_not_lt hbN)]
      simp [hb, hbN]

/-- Settles O17, from the rule for one bit of `mergeGpr`. -/
theorem upperBitsOfAWrittenRegister : Obligations.UpperBitsOfAWrittenRegister := by
  intro s N i j v zu b _ hb
  constructor
  · rw [State.getGpr_writeGpr, if_pos rfl]
    exact getLsbD_mergeGpr zu _ v hb
  · intro hji
    rw [State.getGpr_writeGpr, if_neg hji.symm]

/-! ### Condition codes -/

/-- The source condition codes but 10 and 11 are the condition codes of the same number (46_conditional.md R391). -/
theorem scc_ofBits (f : Flags) (c : BitVec 4) :
    f.scc (Scc.ofBits c) = if c = 10 then true else if c = 11 then false else f.cond (Cond.ofBits c) := by
  obtain ⟨⟨n, hn⟩⟩ := c
  interval_cases n <;> rfl

/-- Settles O21: `Flags.cond` code by code, where equality of SF and OF is the negation of their exclusive or. -/
theorem conditionCodes : Obligations.ConditionCodes := by
  refine ⟨fun f => ?codes, scc_ofBits, fun d => rfl⟩
  case codes =>
    have hxor : ∀ a b : Bool, (a == b) = !(a ^^ b) := by decide
    and_intros <;> simp [Flags.cond, Cond.ofBits, hxor]

/-! ### The image of the APX state component -/

theorem getElem?_leBytes {n v j : Nat} (hj : j < n) :
    (leBytes n v)[j]? = some (BitVec.ofNat 8 (v / 256 ^ j)) := by
  induction n generalizing v j with
  | zero => omega
  | succ n ih =>
    cases j with
    | zero => simp [leBytes]
    | succ j =>
      rw [leBytes, List.getElem?_cons_succ, ih (by omega), Nat.div_div_eq_div_mul, pow_succ']

theorem length_egprBytes (s : State) (k n : Nat) : (s.egprBytes k n).length = 8 * n := by
  induction n generalizing k with
  | zero => rfl
  | succ n ih =>
    rw [State.egprBytes, List.length_append, length_leBytes, ih]
    omega

/-- Byte j of the i-th register of the image is byte j of that register (10_state.md R46). -/
theorem getElem?_egprBytes (s : State) {k n i j : Nat} (hi : i < n) (hj : j < 8) :
    (s.egprBytes k n)[8 * i + j]? = some ((s.getGpr (BitVec.ofNat 5 (16 + (k + i)))).extractLsb' (8 * j) 8) := by
  induction n generalizing k i with
  | zero => omega
  | succ n ih =>
    rw [State.egprBytes]
    cases i with
    | zero =>
      rw [List.getElem?_append_left (by rw [length_leBytes]; omega), Nat.mul_zero, Nat.zero_add, getElem?_leBytes hj]
      congr 1
      apply BitVec.eq_of_toNat_eq
      simp [Nat.shiftRight_eq_div_pow, pow_mul]
    | succ i =>
      rw [List.getElem?_append_right (by rw [length_leBytes]; omega), length_leBytes,
        show 8 * (i + 1) + j - 8 = 8 * i + j by omega, ih (by omega), show k + 1 + i = k + (i + 1) by omega]

theorem length_apxImage (s : State) : s.apxImage.length = 128 := length_egprBytes s 0 16

/-- Settles O30: Rn is the (n - 16)-th register of the image. -/
theorem layoutOfTheApxStateComponent : Obligations.LayoutOfTheApxStateComponent := by
  refine fun s => ⟨length_apxImage s, fun n j h16 h31 hj => ?_⟩
  have hbyte := getElem?_egprBytes s (k := 0) (show n - 16 < 16 by omega) hj
  rwa [show 16 + (0 + (n - 16)) = n by omega] at hbyte

/-! ### Restoring the component -/

theorem loadEgprs_append {bytes : List Byte} (s : State) (k : Nat) {n : Nat} (h : bytes.length = 8 * n)
    (rest : List Byte) : s.loadEgprs k (bytes ++ rest) n = s.loadEgprs k bytes n := by
  induction n generalizing s k bytes with
  | zero => rfl
  | succ n ih =>
    rw [State.loadEgprs, State.loadEgprs, List.take_append_of_le_length (by omega),
      List.drop_append_of_le_length (by omega), ih _ _ (by rw [List.length_drop]; omega)]

/-- Loading EGPRs writes registers and XINUSE[19] alone. -/
theorem loadEgprs_eq (s : State) (k : Nat) (bytes : List Byte) (n : Nat) :
    s.loadEgprs k bytes n =
      { s with gpr := (s.loadEgprs k bytes n).gpr, xinuse19 := (s.loadEgprs k bytes n).xinuse19 } := by
  induction n generalizing s k bytes with
  | zero => rfl
  | succ n ih =>
    rw [State.loadEgprs, ih]
    rfl

theorem getGpr_loadEgprs_of_not (s : State) {k n : Nat} (bytes : List Byte) {r : RegId} (hk : k + n ≤ 16)
    (hr : ¬ (16 + k ≤ r.toNat ∧ r.toNat < 16 + k + n)) : (s.loadEgprs k bytes n).getGpr r = s.getGpr r := by
  induction n generalizing s k bytes with
  | zero => rfl
  | succ n ih =>
    have hne : BitVec.ofNat 5 (16 + k) ≠ r := by
      rintro rfl
      simp only [BitVec.toNat_ofNat] at hr
      omega
    rw [State.loadEgprs, ih _ _ (by omega) (by omega), State.getGpr_setGpr, if_neg hne]

/-- A loaded register holds the value it has in the state the bytes are taken from. -/
theorem getGpr_loadEgprs_egprBytes (s t : State) {k n : Nat} {r : RegId} (hk : k + n ≤ 16) (hr : 16 + k ≤ r.toNat)
    (hn : r.toNat < 16 + k + n) : (s.loadEgprs k (t.egprBytes k n) n).getGpr r = t.getGpr r := by
  induction n generalizing s k with
  | zero => omega
  | succ n ih =>
    rw [State.loadEgprs, State.egprBytes, List.take_left' (length_leBytes ..), List.drop_left' (length_leBytes ..)]
    rcases Nat.eq_or_lt_of_le hr with hfirst | hlater
    · have hi : BitVec.ofNat 5 (16 + k) = r := by rw [hfirst, BitVec.ofNat_toNat, BitVec.setWidth_eq]
      rw [getGpr_loadEgprs_of_not _ _ (by omega) (by omega), State.getGpr_setGpr, if_pos hi, hi, leValue_leBytes,
        show 256 ^ 8 = 2 ^ 64 by norm_num, Nat.mod_eq_of_lt (t.getGpr r).isLt, BitVec.ofNat_toNat, BitVec.setWidth_eq]
    · exact ih _ (by omega) (by omega) (by omega)

/-- XINUSE[19] is 0 after loading EGPRs only if it was 0 before and every loaded register is 0 (10_state.md R48). -/
theorem loadEgprs_xinuse19_false {s : State} {k n : Nat} {bytes : List Byte} (hk : k + n ≤ 16)
    (h : (s.loadEgprs k bytes n).xinuse19 = false) :
    s.xinuse19 = false ∧
      ∀ r : RegId, 16 + k ≤ r.toNat → r.toNat < 16 + k + n → (s.loadEgprs k bytes n).getGpr r = 0 := by
  induction n generalizing s k bytes with
  | zero => exact ⟨h, fun r h1 h2 => by omega⟩
  | succ n ih =>
    rw [State.loadEgprs] at h ⊢
    obtain ⟨hset, hzero⟩ := ih (by omega) h
    obtain ⟨hs, hv⟩ := State.setGpr_xinuse19_false hset
    have hi : (BitVec.ofNat 5 (16 + k)).toNat = 16 + k := by
      rw [BitVec.toNat_ofNat]
      omega
    refine ⟨hs, fun r hr hn => ?_⟩
    rcases Nat.eq_or_lt_of_le hr with hfirst | hlater
    · have hir : BitVec.ofNat 5 (16 + k) = r := BitVec.eq_of_toNat_eq (hi.trans hfirst)
      rw [getGpr_loadEgprs_of_not _ _ (by omega) (by omega), State.getGpr_setGpr, if_pos hir]
      exact hv (by omega)
    · exact hzero r (by omega) (by omega)

section
variable {s t : State}

theorem getGpr_restoreApx (r : RegId) :
    (s.restoreApx t.apxImage).getGpr r = if 16 ≤ r.toNat then t.getGpr r else s.getGpr r := by
  have hr := r.isLt
  split
  · exact getGpr_loadEgprs_egprBytes s t (by omega) (by omega) (by omega)
  · exact getGpr_loadEgprs_of_not s _ (by omega) (by omega)

theorem restoreApx_eq (s : State) (bytes : List Byte) :
    s.restoreApx bytes = { s with gpr := (s.restoreApx bytes).gpr, xinuse19 := (s.restoreApx bytes).xinuse19 } :=
  loadEgprs_eq s 0 bytes 16

/-- After restoring, XINUSE[19] = 0 goes with EGPRs that are all 0, whatever the state before (10_state.md R48). -/
theorem restoreApx_xinuse19_false {bytes : List Byte} (h : (s.restoreApx bytes).xinuse19 = false) :
    s.xinuse19 = false ∧ (s.restoreApx bytes).apxInitOk := by
  obtain ⟨hs, hzero⟩ := loadEgprs_xinuse19_false (by omega) h
  exact ⟨hs, fun _ r hr => hzero r hr r.isLt⟩

theorem restoreApx_xinuse19_mono {bytes : List Byte} (h : s.xinuse19 = true) :
    (s.restoreApx bytes).xinuse19 = true := by
  by_contra hx
  rw [(restoreApx_xinuse19_false (Bool.eq_false_of_not_eq_true hx)).1] at h
  exact nomatch h

theorem restoreApx_apxInitOk (s : State) (bytes : List Byte) : (s.restoreApx bytes).apxInitOk :=
  fun h => (restoreApx_xinuse19_false h).2 h

theorem restoreApx_xinuse19_of_ne_zero {r : RegId} (hr : 16 ≤ r.toNat) (hne : t.getGpr r ≠ 0) :
    (s.restoreApx t.apxImage).xinuse19 = true := by
  by_contra hx
  have hzero := restoreApx_apxInitOk s _ (Bool.eq_false_of_not_eq_true hx) r hr
  rw [getGpr_restoreApx, if_pos hr] at hzero
  exact hne hzero

/-! ### INIT of the component -/

theorem getGpr_initApx (s : State) (r : RegId) :
    s.initApx.getGpr r = if 16 ≤ r.toNat then 0 else s.getGpr r := Vector.getElem_ofFn _

theorem initApx_apxInitOk (s : State) : s.initApx.apxInitOk := by
  intro _ r hr
  rw [getGpr_initApx, if_pos hr]

/-! ### The component in the XSAVE area -/

variable {rfbm : BitVec 64} {area : List Byte}

theorem xsaveApx_requested (h : rfbm.getLsbD 19 = true) :
    t.xsaveApx rfbm area = area.take apxOffset ++ (t.apxImage ++ area.drop (apxOffset + 128)) := by
  rw [State.xsaveApx, if_pos h, List.append_assoc]

theorem getElem?_xsaveApx_inside (h : rfbm.getLsbD 19 = true) (hlen : 1088 ≤ area.length) {j : Nat} (hj : j < 128) :
    (t.xsaveApx rfbm area)[960 + j]? = t.apxImage[j]? := by
  have htake : (area.take apxOffset).length = 960 := List.length_take_of_le (Nat.le_trans (by decide) hlen)
  rw [xsaveApx_requested h, List.getElem?_append_right (by omega), htake, Nat.add_sub_cancel_left,
    List.getElem?_append_left (by rw [length_apxImage]; exact hj)]

theorem getElem?_xsaveApx_outside (h : rfbm.getLsbD 19 = true) (hlen : 1088 ≤ area.length) {j : Nat}
    (hj : j < 960 ∨ 1088 ≤ j) : (t.xsaveApx rfbm area)[j]? = area[j]? := by
  have htake : (area.take apxOffset).length = 960 := List.length_take_of_le (Nat.le_trans (by decide) hlen)
  rw [xsaveApx_requested h]
  rcases hj with hbefore | hbehind
  · rw [List.getElem?_append_left (by omega), apxOffset, List.getElem?_take_of_lt hbefore]
  · rw [List.getElem?_append_right (by omega), htake, List.getElem?_append_right (by rw [length_apxImage]; omega),
      length_apxImage, List.getElem?_drop, apxOffset, show 960 + 128 + (j - 960 - 128) = j by omega]

/-- What XSAVE wrote, XRSTOR takes back (10_state.md R47). -/
theorem xrstorApx_xsaveApx (h : rfbm.getLsbD 19 = true) (hlen : 1088 ≤ area.length) :
    s.xrstorApx rfbm true (t.xsaveApx rfbm area) = s.restoreApx t.apxImage := by
  have htake : (area.take apxOffset).length = apxOffset := List.length_take_of_le (Nat.le_trans (by decide) hlen)
  rw [State.xrstorApx, if_pos h, if_pos rfl, xsaveApx_requested h, List.drop_left' htake]
  exact loadEgprs_append s 0 (length_apxImage t) _

theorem xrstorApx_notInUse (h : rfbm.getLsbD 19 = true) : s.xrstorApx rfbm false area = s.initApx := by
  rw [State.xrstorApx, if_pos h, if_neg Bool.false_ne_true]

end

theorem mem_compactedOrder {b : BitVec 64} {i : Nat} : i ∈ compactedOrder b ↔ b.getLsbD i = true := by
  rw [compactedOrder, List.mem_filter, List.mem_range]
  exact ⟨And.right, fun h => ⟨BitVec.lt_of_getLsbD h, h⟩⟩

theorem compactedOrder_increasing (b : BitVec 64) : (compactedOrder b).Pairwise (· < ·) :=
  List.pairwise_lt_range.filter _

/-- Settles O31: the register file by induction on the registers loaded, XINUSE[19] from the writes that can leave it 0,
the area from its three parts. -/
theorem restoringTheApxStateComponent : Obligations.RestoringTheApxStateComponent := by
  refine ⟨fun s t r => getGpr_restoreApx r, ?parts, fun s t => restoreApx_eq s _, ?xinuse, getGpr_initApx,
    fun s => ⟨initApx_xinuse19 s, initApx_apxInitOk s, rfl⟩,
    fun s t rfbm inUse area h => ⟨xsaveApx_unrequested h, xrstorApx_unrequested h⟩, ?area,
    fun b => ⟨compactedOrder_increasing b, fun i => mem_compactedOrder⟩, rfl, fun _ => rfl, rfl, rfl, rfl, rfl⟩
  case parts =>
    intro s t
    rw [restoreApx_eq]
    exact ⟨rfl, rfl, rfl, rfl⟩
  case xinuse =>
    exact fun s t => ⟨restoreApx_xinuse19_mono, fun ⟨r, hr, hne⟩ => restoreApx_xinuse19_of_ne_zero hr hne,
      fun _ => restoreApx_apxInitOk s _⟩
  case area =>
    exact fun s t rfbm area h hlen => ⟨fun j hj => getElem?_xsaveApx_inside h hlen hj,
      fun j hj => getElem?_xsaveApx_outside h hlen hj, xrstorApx_xsaveApx h hlen, xrstorApx_notInUse h⟩

end Sys2Proof.Machine
end

section
/-! O3, O15, O18, O19 and O20. The form of memory, its little-endian bytes, canonical addresses and the order of the
checks of an access (20_memory.md sections 1 to 4). -/
namespace Sys2Proof.Machine

/-! ### What steps and instructions leave of memory -/

/-- Settles O3: the advance past the instruction leaves memory alone, and each store an instruction makes keeps the form
(`Framed.memOk`). -/
theorem stepKeepsMemoryForm : Obligations.StepKeepsMemoryForm := by
  intro s t hs h
  obtain ⟨len, f, hframed⟩ := framed_of_step h
  exact hframed.memOk hs

/-- Settles O15: the part of `framed_of_exec` about the bytes of memory. -/
theorem frameOfMemory : Obligations.FrameOfMemory := fun _ _ _ hs h => (framed_of_exec h).bytes hs

/-! ### Little-endian values -/

theorem getElem?_readBytes (m : Memory) (a : Word) {n i : Nat} (hi : i < n) :
    (readBytes m a n)[i]? = some (memRead m (a + BitVec.ofNat 64 i).toNat) := by
  induction n generalizing a i with
  | zero => omega
  | succ n ih =>
    cases i with
    | zero => simp [readBytes]
    | succ i => rw [readBytes, List.getElem?_cons_succ, ih (a + 1) (by omega), addr_succ]

/-- Bits 8i+7..8i of a little-endian value are those of its i-th byte (20_memory.md R61). -/
theorem testBit_leValue {bs : List Byte} {i j : Nat} {b : Byte} (hb : bs[i]? = some b) (hj : j < 8) :
    (leValue bs).testBit (8 * i + j) = b.getLsbD j := by
  induction bs generalizing i with
  | nil => simp at hb
  | cons c bs ih =>
    rw [leValue, Nat.add_comm c.toNat, show (256 : Nat) = 2 ^ 8 by norm_num, Nat.testBit_two_pow_mul_add _ c.isLt]
    cases i with
    | zero =>
      obtain rfl : c = b := by simpa using hb
      rw [Nat.mul_zero, Nat.zero_add, if_pos hj]
      rfl
    | succ i => rw [if_neg (by omega), show 8 * (i + 1) + j - 8 = 8 * i + j by omega, ih hb]

/-- Byte i of a stored value is at the address i places on (20_memory.md R61). -/
theorem byteAt_poke {s : State} (hs : s.memOk) (a : Word) {n i : Nat} (v : Nat) (hn : n ≤ 2 ^ 64) (hi : i < n) :
    (s.poke a n v).byteAt (a + BitVec.ofNat 64 i) = BitVec.ofNat 8 (v / 256 ^ i) := by
  have hbyte := getElem?_readBytes (s.poke a n v).mem a hi
  rw [readBytes_poke hs a n v hn, getElem?_leBytes hi] at hbyte
  exact (Option.some.inj hbyte).symm

/-- Settles O18: the bytes of a store by reading them back, the bits of a read byte by byte. -/
theorem memoryIsLittleEndian : Obligations.MemoryIsLittleEndian := by
  intro s a n v i hs hn hi
  constructor
  · rw [byteAt_poke hs a v hn hi, pow_mul, show 2 ^ 8 = 256 by norm_num]
  · exact fun j hj => testBit_leValue (getElem?_readBytes s.mem a hi) hj

/-! ### Canonical addresses -/

/-- Sign extension of the low w bits copies bit w - 1 upward (20_memory.md R64). -/
theorem getLsbD_signExtend_setWidth {w i : Nat} (a : Word) (h0 : 0 < w) (hi : i < 64) :
    ((a.setWidth w).signExtend 64).getLsbD i = a.getLsbD (if i < w then i else w - 1) := by
  rw [BitVec.getLsbD_signExtend, BitVec.msb_setWidth]
  split <;> simp [*]

theorem signExtend_setWidth_eq_iff {w : Nat} (a : Word) (h0 : 0 < w) :
    (a.setWidth w).signExtend 64 = a ↔ ∀ i, w - 1 ≤ i → i < 64 → a.getLsbD i = a.getLsbD (w - 1) := by
  constructor
  · intro h i hwi hi
    have hbit := getLsbD_signExtend_setWidth a h0 hi
    rw [h] at hbit
    rw [hbit]
    congr 1
    split <;> omega
  · intro h
    apply BitVec.eq_of_getLsbD_eq
    intro i hi
    rw [getLsbD_signExtend_setWidth a h0 hi]
    split
    · rfl
    · exact (h i (by omega) hi).symm

theorem canonical_iff {w : LaWidth} {a : Word} : canonical w a = true ↔ (a.setWidth w.bits).signExtend 64 = a :=
  beq_iff_eq

theorem LaWidth.bits_pos (w : LaWidth) : 0 < w.bits := by
  cases w <;> decide

/-- Settles O19: bit by bit, sign extension changes nothing exactly when the upper bits are copies. -/
theorem canonicalAddresses : Obligations.CanonicalAddresses := by
  refine ⟨rfl, rfl, fun w a => ⟨?_, canonical_iff⟩⟩
  exact canonical_iff.trans (signExtend_setWidth_eq_iff a w.bits_pos)

/-! ### The checks of an access, in their order -/

section
variable {s : State} {x : Access} {e : Exc}

theorem canonicalOk_eq_false {w : LaWidth} :
    x.canonicalOk w = false ↔
      canonical w x.addr = false ∨ canonical w (x.addr + BitVec.ofNat 64 (x.bytes - 1)) = false :=
  Bool.and_eq_false_iff

theorem unaligned_iff :
    x.unaligned = true ↔ (x.bytes = 2 ∨ x.bytes = 4 ∨ x.bytes = 8) ∧ x.addr.toNat % x.bytes ≠ 0 := by
  simp [Access.unaligned, or_assoc]

theorem checkAccess_of_notCanonical (h : x.canonicalOk s.params.laWidth = false) :
    checkAccess s x = .error (if x.ss then .ss else .gp) := by
  rw [checkAccess, if_pos h]

theorem checkAccess_of_misaligned (hc : x.canonicalOk s.params.laWidth = true) (ha : x.addr.toNat % x.align ≠ 0) :
    checkAccess s x = .error .gp := by
  rw [checkAccess, if_neg (by simp [hc]), if_pos ha]

theorem checkAccess_of_pageFault (hc : x.canonicalOk s.params.laWidth = true) (ha : x.addr.toNat % x.align = 0)
    {c : Nat} (hp : translateBytes s.params.pageFaults x.kind x.addr x.bytes = some c) :
    checkAccess s x = .error (.pf c) := by
  rw [checkAccess, if_neg (by simp [hc]), if_neg (by simp [ha]), hp]

theorem checkAccess_of_translated (hc : x.canonicalOk s.params.laWidth = true) (ha : x.addr.toNat % x.align = 0)
    (hp : translateBytes s.params.pageFaults x.kind x.addr x.bytes = none) :
    checkAccess s x =
      if x.ac = true ∧ s.params.acEnabled = true ∧ s.cpl = 3 ∧ (x.bytes = 2 ∨ x.bytes = 4 ∨ x.bytes = 8) ∧
        x.addr.toNat % x.bytes ≠ 0 then .error .ac else .ok () := by
  rw [checkAccess, if_neg (by simp [hc]), if_neg (by simp [ha]), hp]
  simp only [Bool.and_eq_true, decide_eq_true_eq, unaligned_iff, and_assoc]

theorem load_of_check_error (h : checkAccess s x = .error e) (N : Nat) : s.load N x = .error e := by
  rw [State.load, h, bind_error]

theorem store_of_check_error (h : checkAccess s x = .error e) {N : Nat} (v : BitVec N) : s.store N x v = .error e := by
  rw [State.store, h, bind_error]

end

/-- Settles O20: a failing check ends the read and the write alike, and the checks are those of `checkAccess` in its
order. -/
theorem orderOfAccessChecks : Obligations.OrderOfAccessChecks := by
  intro s x N v
  have hboth {e : Exc} (h : checkAccess s x = .error e) : s.load N x = .error e ∧ s.store N x v = .error e :=
    ⟨load_of_check_error h N, store_of_check_error h v⟩
  refine ⟨fun hc => hboth (checkAccess_of_notCanonical (canonicalOk_eq_false.2 hc)), fun hfirst hlast => ?_⟩
  have hc : x.canonicalOk s.params.laWidth = true := by rw [Access.canonicalOk, hfirst, hlast]; rfl
  refine ⟨fun ha => hboth (checkAccess_of_misaligned hc ha), fun ha =>
    ⟨fun c hp => hboth (checkAccess_of_pageFault hc ha hp), fun hp => ?_⟩⟩
  have hcheck := checkAccess_of_translated hc ha hp
  split
  · next hac => exact hboth (hcheck.trans (if_pos hac))
  · next hac =>
    have hok : accessOk s x := hcheck.trans (if_neg hac)
    exact ⟨load_ok.2 ⟨hok, rfl⟩, store_ok.2 ⟨hok, rfl⟩⟩

end Sys2Proof.Machine
end

section
/-! O56. An operation raises the exception of the first of its memory accesses that fails a check, after the checks of
enabling, privilege and operands that come before it (20_memory.md R70, R73; 60_exceptions.md R432). -/
namespace Sys2Proof.Machine

/-! ### A computation that ends at an error -/

theorem bind_eq_error {α β : Type} {x : Except Exc α} {f : α → Except Exc β} {e : Exc} (h : x = .error e) :
    (x >>= f) = .error e := by
  rw [h, bind_error]

theorem bind_eq_of_ok {α β : Type} {x : Except Exc α} {f : α → Except Exc β} {a : α} {r : Except Exc β}
    (hx : x = .ok a) (h : f a = r) : (x >>= f) = r := by
  rw [hx, bind_of_ok, h]

/-- `bind_eq_of_ok` for a check, whose one answer is that it passed. -/
theorem bind_eq_of_passed {β : Type} {x : Except Exc Unit} {f : Unit → Except Exc β} {r : Except Exc β}
    (hx : x = .ok ()) (h : f () = r) : (x >>= f) = r := bind_eq_of_ok hx h

section
variable {s : State} {e : Exc} {N : Nat} {b : Bool} {rm : RM} {x y : Src} {d : Dst} {m : Mem}

/-! ### Reads of sources and writes of destinations -/

theorem readSrc_of_rmFails (h : rmFails s N rm e) : readSrc s N (.rm rm) = .error e := by
  obtain ⟨m, rfl, hcheck⟩ := h
  exact load_of_check_error hcheck N

theorem writeDst_of_dstFails (h : dstFails s N d e) (v : BitVec N) : writeDst s N d v = .error e := by
  obtain ⟨m, rfl, hcheck⟩ := h
  exact store_of_check_error hcheck v

/-- Behind an open gate, what comes next decides. -/
theorem raises_after_gate {f : Unit → Except Exc State} (hs : s.apxEnabled = true) (hb : b = true)
    (h : f () = .error e) : finish (gate s b >>= f) = takeException e :=
  finish_fault.2 (bind_eq_of_passed (gate_ok.2 ⟨hs, hb⟩) h)

/-- The read of an r/m source right behind the gate fails. -/
theorem raises_of_source {f : BitVec N → Except Exc State} (hs : s.apxEnabled = true) (hb : b = true)
    (h : rmFails s N rm e) : finish (gate s b >>= fun _ => readSrc s N (.rm rm) >>= f) = takeException e :=
  raises_after_gate hs hb (bind_eq_error (readSrc_of_rmFails h))

/-- Behind the gate and the read of a source that succeeds, what comes next decides. -/
theorem raises_after_source {f : BitVec N → Except Exc State} (hs : s.apxEnabled = true) (hb : b = true)
    (hx : srcReady s N x) (h : f (srcValue s N x) = .error e) :
    finish (gate s b >>= fun _ => readSrc s N x >>= f) = takeException e :=
  raises_after_gate hs hb (bind_eq_of_ok (readSrc_ok.2 ⟨hx, rfl⟩) h)

/-- The read of a second, r/m source fails. -/
theorem raises_of_secondSource {f : BitVec N → BitVec N → Except Exc State} (hs : s.apxEnabled = true)
    (hb : b = true) (hx : srcReady s N x) (h : rmFails s N rm e) :
    finish (gate s b >>= fun _ => readSrc s N x >>= fun a => readSrc s N (.rm rm) >>= f a) = takeException e :=
  raises_after_source hs hb hx (bind_eq_error (readSrc_of_rmFails h))

/-- The write of a destination after one source fails. -/
theorem raises_of_destination {r : BitVec N → BitVec N} {f : BitVec N → State → Except Exc State}
    (hs : s.apxEnabled = true) (hb : b = true) (hx : srcReady s N x) (h : dstFails s N d e) :
    finish (gate s b >>= fun _ => readSrc s N x >>= fun a => writeDst s N d (r a) >>= f a) = takeException e :=
  raises_after_source hs hb hx (bind_eq_error (writeDst_of_dstFails h _))

/-- The write of a destination after two sources fails. -/
theorem raises_of_destination_of_two {r : BitVec N → BitVec N → BitVec N}
    {f : BitVec N → BitVec N → State → Except Exc State} (hs : s.apxEnabled = true) (hb : b = true)
    (hx : srcReady s N x) (hy : srcReady s N y) (h : dstFails s N d e) :
    finish (gate s b >>= fun _ => readSrc s N x >>= fun a => readSrc s N y >>= fun c =>
      writeDst s N d (r a c) >>= f a c) = takeException e :=
  raises_after_source hs hb hx (bind_eq_of_ok (readSrc_ok.2 ⟨hy, rfl⟩) (bind_eq_error (writeDst_of_dstFails h _)))

/-! ### Operations that end in the write of a destination -/

theorem move_raises (hs : s.apxEnabled = true) (hx : srcReady s N x) (h : dstFails s N d e) :
    finish (move N d x s) = takeException e :=
  raises_after_source hs rfl hx (writeDst_of_dstFails h _)

theorem movbe_raises (hs : s.apxEnabled = true) (hf : s.params.features.movbe = true) (hx : srcReady s N x)
    (h : dstFails s N d e) : finish (movbe N d x s) = takeException e :=
  raises_after_source hs hf hx (writeDst_of_dstFails h _)

theorem movdiri_raises {reg : RegId} (hs : s.apxEnabled = true) (hf : s.params.features.movdir = true)
    (h : dstFails s N (.mem m) e) : finish (movdiri N m reg s) = takeException e :=
  raises_after_gate hs hf (writeDst_of_dstFails h _)

theorem setByte_raises {cc : Cond} {zu : Bool} (hs : s.apxEnabled = true) (h : dstFails s 8 (dstRM rm none) e) :
    finish (setByte cc rm zu s) = takeException e := by
  cases rm with
  | reg i =>
    obtain ⟨m, hm, -⟩ := h
    exact nomatch hm
  | mem m => exact raises_after_gate hs rfl (writeDst_of_dstFails h _)

/-! ### Conditional moves and CMPccXADD -/

section
variable {cc : Cond} {reg v : RegId}

theorem cfcmovLoad_raises (hs : s.apxEnabled = true) (hcc : s.flags.cond cc = true) (h : rmFails s N rm e) :
    finish (cfcmovLoad cc N reg rm s) = takeException e :=
  raises_after_gate hs rfl ((if_pos hcc).trans (bind_eq_error (readSrc_of_rmFails h)))

theorem cfcmovNdd_raises (hs : s.apxEnabled = true) (hcc : s.flags.cond cc = true) (h : rmFails s N rm e) :
    finish (cfcmovNdd cc N v reg rm s) = takeException e :=
  raises_after_gate hs rfl ((if_pos hcc).trans (bind_eq_error (readSrc_of_rmFails h)))

theorem cfcmovStore_raises (hs : s.apxEnabled = true) (hcc : s.flags.cond cc = true)
    (h : dstFails s N (.mem m) e) : finish (cfcmovStore cc N m reg s) = takeException e :=
  raises_after_gate hs rfl ((if_pos hcc).trans (writeDst_of_dstFails h _))

theorem cmpxadd_raises_of_read (hs : s.apxEnabled = true) (hf : s.params.features.cmpccxadd = true)
    (h : checkAccess s (cmpxaddAccess s N m .read) = .error e) : finish (cmpxadd cc N m reg v s) = takeException e :=
  raises_after_gate hs hf (bind_eq_error (load_of_check_error h N))

theorem cmpxadd_raises_of_write (hs : s.apxEnabled = true) (hf : s.params.features.cmpccxadd = true)
    (hread : accessOk s (cmpxaddAccess s N m .read))
    (hcc : (subFlags (memValue s N (linAddr s m)) (s.readGpr N reg) false).cond cc = true)
    (h : checkAccess s (cmpxaddAccess s N m .write) = .error e) : finish (cmpxadd cc N m reg v s) = takeException e :=
  raises_after_gate hs hf (bind_eq_of_ok (load_ok.2 ⟨hread, rfl⟩)
    ((if_pos hcc).trans (bind_eq_error (store_of_check_error h _))))

end

/-! ### Opmask moves, Key Locker and SHA -/

theorem kmovLoad_raises {ok : Features → Bool} {k : ShortId} (hs : s.apxEnabled = true)
    (hf : ok s.params.features = true) (hk : shortIdOk s.params k = true) (hts : s.ctrl.cr0Ts = false)
    (h : rmFails s N (.mem m) e) : finish (kmovLoad N ok k (.mem m) s) = takeException e :=
  finish_fault.2 (bind_eq_of_passed (kmovGate_ok.2 ⟨hs, hf, hk, hts⟩) (bind_eq_error (readSrc_of_rmFails h)))

theorem kmovStore_raises {ok : Features → Bool} {k : ShortId} (hs : s.apxEnabled = true)
    (hf : ok s.params.features = true) (hk : shortIdOk s.params k = true) (hts : s.ctrl.cr0Ts = false)
    (h : dstFails s N (.mem m) e) : finish (kmovStore N ok m k s) = takeException e :=
  finish_fault.2 (bind_eq_of_passed (kmovGate_ok.2 ⟨hs, hf, hk, hts⟩) (writeDst_of_dstFails h _))

theorem klBlock_raises {H : Nat} {f : BitVec H → Xmm → Nat → Bool × Xmm} {i : BitVec 4} (hs : s.apxEnabled = true)
    (hkl : klReady s s.params.features.keylocker)
    (h : checkAccess s (memAccess s m (H / 8) .read false 1) = .error e) :
    finish (klBlock H f i m s) = takeException e :=
  finish_fault.2 (bind_eq_of_passed (klGate_ok.2 ⟨hs, hkl⟩) (bind_eq_error (load_of_check_error h H)))

theorem klWide_raises {H : Nat} {f : BitVec H → Vector Xmm 8 → Nat → Bool × Vector Xmm 8}
    (hs : s.apxEnabled = true) (hkl : klReady s s.params.features.keylockerWide)
    (h : checkAccess s (memAccess s m (H / 8) .read false 1) = .error e) :
    finish (klWide H f m s) = takeException e :=
  finish_fault.2 (bind_eq_of_passed (klGate_ok.2 ⟨hs, hkl⟩) (bind_eq_error (load_of_check_error h H)))

theorem readXmmRM_of_xrmFails {src : XRM} (h : xrmFails s src e) : readXmmRM s src = .error e := by
  obtain ⟨m, rfl, hcheck⟩ := h
  exact load_of_check_error hcheck 128

theorem sha_raises {f : Xmm → Xmm → Xmm} {i : BitVec 4} {src : XRM} (hs : s.apxEnabled = true) (hsha : shaReady s)
    (h : xrmFails s src e) : finish (sha f i src s) = takeException e :=
  finish_fault.2 (bind_eq_of_passed (shaGate_ok.2 ⟨hs, hsha⟩) (bind_eq_error (readXmmRM_of_xrmFails h)))

/-! ### System and direct-store instructions -/

section
variable {reg : RegId}

theorem readDescriptor_of_check_error (h : checkAccess s (memAccess s m 16 .read false 1) = .error e) :
    readDescriptor s m = .error e := load_of_check_error h 128

theorem invept_raises (hs : s.apxEnabled = true) (hvmx : s.params.features.vmx = true)
    (hop : s.ctrl.inVmxOperation = true) (hept : s.ctrl.eptSupported = true) (hsup : s.ctrl.inveptSupported = true)
    (hcpl : s.cpl = 0) (h : checkAccess s (memAccess s m 16 .read false 1) = .error e) :
    finish (invept reg m s) = takeException e :=
  raises_after_gate hs (by simp only [hvmx, hop, hept, hsup, Bool.and_self])
    (bind_eq_of_passed (require_ok.2 (decide_eq_true hcpl)) (bind_eq_error (readDescriptor_of_check_error h)))

theorem invvpid_raises (hs : s.apxEnabled = true) (hvmx : s.params.features.vmx = true)
    (hop : s.ctrl.inVmxOperation = true) (hvpid : s.ctrl.vpidSupported = true) (hsup : s.ctrl.invvpidSupported = true)
    (hcpl : s.cpl = 0) (h : checkAccess s (memAccess s m 16 .read false 1) = .error e) :
    finish (invvpid reg m s) = takeException e :=
  raises_after_gate hs (by simp only [hvmx, hop, hvpid, hsup, Bool.and_self])
    (bind_eq_of_passed (require_ok.2 (decide_eq_true hcpl)) (bind_eq_error (readDescriptor_of_check_error h)))

theorem invpcid_raises (hs : s.apxEnabled = true) (hf : s.params.features.invpcid = true) (hcpl : s.cpl = 0)
    (htype : (s.getGpr reg).toNat ≤ 3) (h : checkAccess s (memAccess s m 16 .read false 1) = .error e) :
    finish (invpcid reg m s) = takeException e :=
  raises_after_gate hs hf (bind_eq_of_passed (require_ok.2 (decide_eq_true hcpl))
    (bind_eq_of_passed (require_ok.2 (decide_eq_true htype)) (bind_eq_error (readDescriptor_of_check_error h))))

theorem wrss_raises (hs : s.apxEnabled = true) (hcet : s.params.features.cet = true) (hcr4 : s.ctrl.cr4Cet = true)
    (hwrss : wrssEnabled s = true)
    (h : checkAccess s (shadowAccess s m (N / 8) (if s.cpl = 3 then .shadowUser else .shadowSupervisor)) =
      .error e) : finish (wrss N m reg s) = takeException e :=
  raises_after_gate hs (by simp only [hcet, hcr4, hwrss, Bool.and_self]) (store_of_check_error h _)

theorem wruss_raises (hs : s.apxEnabled = true) (hcet : s.params.features.cet = true) (hcr4 : s.ctrl.cr4Cet = true)
    (hcpl : s.cpl = 0) (h : checkAccess s (shadowAccess s m (N / 8) .shadowUser) = .error e) :
    finish (wruss N m reg s) = takeException e :=
  raises_after_gate hs (by simp only [hcet, hcr4, Bool.and_self])
    (bind_eq_of_passed (require_ok.2 (decide_eq_true hcpl)) (store_of_check_error h _))

theorem enqcmd_raises (hs : s.apxEnabled = true) (hf : s.params.features.enqcmd = true)
    (hdst : aligned64 (addrReg s m.a32 reg) = true) (hpasid : s.ctrl.pasidValid = true)
    (h : checkAccess s (memAccess s m 64 .read false 1) = .error e) : finish (enqcmd reg m s) = takeException e :=
  raises_after_gate hs hf (bind_eq_of_passed (require_ok.2 (Bool.and_eq_true_iff.2 ⟨hdst, hpasid⟩))
    (bind_eq_error (load_of_check_error h 512)))

theorem enqcmds_raises (hs : s.apxEnabled = true) (hf : s.params.features.enqcmd = true) (hcpl : s.cpl = 0)
    (hdst : aligned64 (addrReg s m.a32 reg) = true)
    (h : checkAccess s (memAccess s m 64 .read false 1) = .error e) : finish (enqcmds reg m s) = takeException e :=
  raises_after_gate hs hf (bind_eq_of_passed (require_ok.2 (decide_eq_true hcpl))
    (bind_eq_of_passed (require_ok.2 hdst) (bind_eq_error (load_of_check_error h 512))))

theorem movdir64b_raises_of_read (hs : s.apxEnabled = true) (hf : s.params.features.movdir = true)
    (hdst : aligned64 (addrReg s m.a32 reg) = true)
    (h : checkAccess s (memAccess s m 64 .read true 1) = .error e) : finish (movdir64b reg m s) = takeException e :=
  raises_after_gate hs hf (bind_eq_of_passed (require_ok.2 hdst) (bind_eq_error (load_of_check_error h 512)))

theorem movdir64b_raises_of_write (hs : s.apxEnabled = true) (hf : s.params.features.movdir = true)
    (hdst : aligned64 (addrReg s m.a32 reg) = true) (hread : accessOk s (memAccess s m 64 .read true 1))
    (h : checkAccess s (movdir64bAccess s m.a32 reg) = .error e) : finish (movdir64b reg m s) = takeException e :=
  raises_after_gate hs hf (bind_eq_of_passed (require_ok.2 hdst)
    (bind_eq_of_ok (load_ok.2 ⟨hread, rfl⟩) (store_of_check_error h _)))

end

/-! ### Tiles -/

theorem loadTileConfig_raises (hs : s.apxEnabled = true) (hf : s.params.features.amxTile = true)
    (h : checkAccess s (memAccess s m 64 .read false 1) = .error e) :
    finish (loadTileConfig m s) = takeException e :=
  raises_after_gate hs hf (bind_eq_error (load_of_check_error h 512))

theorem storeTileConfig_raises (hs : s.apxEnabled = true) (hf : s.params.features.amxTile = true)
    (h : checkAccess s (memAccess s m 64 .write false 1) = .error e) :
    finish (storeTileConfig m s) = takeException e :=
  raises_after_gate hs hf (store_of_check_error h _)

/-- The first inaccessible one of some rows is the first row, or the first inaccessible one of those behind it. -/
theorem rowsFail_succ {c i n : Nat} {kind : AccessKind} (h : rowsFail s m c kind i (n + 1) e) :
    checkAccess s (tileRowAccess s m c kind i) = .error e ∨
      (accessOk s (tileRowAccess s m c kind i) ∧ rowsFail s m c kind (i + 1) n e) := by
  obtain ⟨j, hj, hbefore, hrow⟩ := h
  cases j with
  | zero => exact .inl hrow
  | succ j =>
    refine .inr ⟨hbefore 0 (by omega), j, by omega, fun k hk => ?_, ?_⟩
    · rw [Nat.add_assoc, Nat.add_comm 1 k]
      exact hbefore (k + 1) (by omega)
    · rwa [Nat.add_assoc, Nat.add_comm 1 j]

theorem not_rowsFail_zero {c i : Nat} {kind : AccessKind} : ¬ rowsFail s m c kind i 0 e :=
  fun ⟨_, hj, _⟩ => Nat.not_lt_zero _ hj

theorem readRows_of_rowsFail {c i n : Nat} (h : rowsFail s m c .read i n e) : readRows s m c i n = .error e := by
  induction n generalizing i with
  | zero => exact absurd h not_rowsFail_zero
  | succ n ih =>
    rcases rowsFail_succ h with hrow | ⟨hok, hrest⟩
    · exact bind_eq_error hrow
    · exact bind_eq_of_passed hok (bind_eq_error (ih hrest))

theorem checkRows_of_rowsFail {c i n : Nat} (h : rowsFail s m c .write i n e) : checkRows s m c i n = .error e := by
  induction n generalizing i with
  | zero => exact absurd h not_rowsFail_zero
  | succ n ih =>
    rcases rowsFail_succ h with hrow | ⟨hok, hrest⟩
    · exact bind_eq_error hrow
    · exact bind_eq_of_passed hok (ih hrest)

section
variable {k : ShortId}

theorem tileLoad_raises (hs : s.apxEnabled = true) (hk : tileReady s k) (hsib : hasSib m.form = true)
    (h : rowsFail s m (s.tileShape k.id).colsb .read 0 (s.tileShape k.id).rows e) :
    finish (tileLoad k m s) = takeException e :=
  finish_fault.2 (bind_eq_of_passed (tileGate_ok.2 ⟨hs, hk, hsib⟩) (bind_eq_error (readRows_of_rowsFail h)))

theorem tileStore_raises (hs : s.apxEnabled = true) (hk : tileReady s k) (hsib : hasSib m.form = true)
    (h : rowsFail s m (s.tileShape k.id).colsb .write 0 (s.tileShape k.id).rows e) :
    finish (tileStore m k s) = takeException e :=
  finish_fault.2 (bind_eq_of_passed (tileGate_ok.2 ⟨hs, hk, hsib⟩) (bind_eq_error (checkRows_of_rowsFail h)))

end

/-! ### The stack -/

theorem push_raises_of_store (hs : s.apxEnabled = true) (hx : srcReady s 64 x)
    (h : checkAccess s (stackAccess (s.rsp - 8) 8 .write true) = .error e) :
    finish (push x s) = takeException e :=
  raises_after_source hs rfl hx (bind_eq_error (store_of_check_error h _))

theorem pop_raises_of_load (hs : s.apxEnabled = true) (h : checkAccess s (stackAccess s.rsp 8 .read true) = .error e) :
    finish (pop d s) = takeException e :=
  raises_after_gate hs rfl (bind_eq_error (load_of_check_error h 64))

/-- The destination of POP is addressed with RSP already past the popped value (45_jmpabs_rex2.md R373). -/
theorem pop_raises_of_destination (hs : s.apxEnabled = true) (hload : accessOk s (stackAccess s.rsp 8 .read true))
    (h : dstFails (s.setGpr 4 (s.rsp + 8)) 64 d e) : finish (pop d s) = takeException e :=
  raises_after_gate hs rfl (bind_eq_of_ok (load_ok.2 ⟨hload, rfl⟩) (writeDst_of_dstFails h _))

section
variable {v w : RegId}

theorem push2_raises (hs : s.apxEnabled = true) (hv : v ≠ 4) (hw : w ≠ 4) (halign : s.rsp.toNat % 16 = 0)
    (h : checkAccess s (stackAccess (s.rsp - 16) 16 .write false) = .error e) :
    finish (push2 v w s) = takeException e :=
  raises_after_gate hs (by rw [bne_iff_ne.2 hv, bne_iff_ne.2 hw, Bool.and_self])
    (bind_eq_of_passed (require_ok.2 (beq_iff_eq.2 halign)) (bind_eq_error h))

theorem pop2_raises (hs : s.apxEnabled = true) (hv : v ≠ 4) (hw : w ≠ 4) (hvw : v ≠ w) (halign : s.rsp.toNat % 16 = 0)
    (h : checkAccess s (stackAccess s.rsp 16 .read false) = .error e) : finish (pop2 v w s) = takeException e :=
  raises_after_gate hs (by rw [bne_iff_ne.2 hv, bne_iff_ne.2 hw, bne_iff_ne.2 hvw, Bool.and_self, Bool.and_self])
    (bind_eq_of_passed (require_ok.2 (beq_iff_eq.2 halign)) (bind_eq_error h))

end

end

/-- Settles O56: each operation's rule about its failing access. The cases are grouped by the operation, and the forms
with r/m operands by which of their accesses fails: the read of the first or the second source, or the write (the
cases named `…Write`). -/
theorem faultsNotSuppressedByAFalseCondition : Obligations.FaultsNotSuppressedByAFalseCondition := by
  unfold Obligations.FaultsNotSuppressedByAFalseCondition
  simp only [List.forall_mem_cons, List.not_mem_nil, false_implies, implies_true, and_true]
  refine ⟨?ccmpRmR, ?ccmpRRm, ?ccmpRmImm, ?ccmpRmI8, ?ctestRmR, ?ctestRmImm, ?cmov, ?rex2Cmov, ?adcRmR, ?adcRmRWrite,
    ?adcRRm, ?adcRmImm, ?adcRmImmWrite, ?adcRmI8, ?adcRmI8Write, ?adcx, ?addRmR, ?addRmRWrite, ?addRRm, ?addRmImm,
    ?addRmImmWrite, ?addRmI8, ?addRmI8Write, ?aesdec128kl, ?aesdec256kl, ?aesdecwide128kl, ?aesdecwide256kl, ?andn,
    ?bextr, ?blsi, ?bzhi, ?cmpccxadd, ?cmpccxaddWrite, ?crc32Rm8, ?crc32Rm, ?decRm, ?decRmWrite, ?divRm, ?enqcmd,
    ?enqcmds, ?imulRRmIz, ?imulRRmI8, ?imulRRm, ?invept, ?invpcid, ?invvpid, ?kmovbKKm, ?kmovbMKWrite, ?kmovdKKm,
    ?kmovdMKWrite, ?kmovqKKm, ?kmovqMKWrite, ?kmovwKKm, ?kmovwMKWrite, ?ldtilecfg, ?lzcnt, ?movbeRRm, ?movbeRmRWrite,
    ?movdir64b, ?movdir64bWrite, ?movdiriWrite, ?mulx, ?notRm, ?notRmWrite, ?popcnt, ?rclRmI8, ?rclRmI8Write, ?rolRmI8,
    ?rolRmI8Write, ?rorx, ?sarx, ?sha1msg1, ?sha1rnds4, ?shlRmI8, ?shlRmI8Write, ?shlRmOne, ?shlRmOneWrite, ?shldRmRI8,
    ?shldRmRI8Write, ?shldRmRCl, ?shldRmRClWrite, ?sttilecfgWrite, ?tileloadd, ?tilestoredWrite, ?tzcnt, ?wrssd,
    ?wrssq, ?wrussd, ?wrussq, ?cfcmovLoad, ?cfcmovStoreWrite, ?cfcmovNdd, ?setccWrite, ?pop2, ?push2Write, ?rex2AddRmR,
    ?rex2AddRmRWrite, ?rex2AddRRm, ?rex2AddRmImm, ?rex2AddRmImmWrite, ?rex2AddRmI8, ?rex2AddRmI8Write, ?rex2TestRmImm,
    ?rex2MovRmRWrite, ?rex2MovRmImmWrite, ?rex2Movsxd, ?rex2Movzx, ?rex2ImulRRmIz, ?rex2ImulRRmI8, ?rex2RolRmI8,
    ?rex2RolRmI8Write, ?rex2ShlRmI8, ?rex2ShlRmI8Write, ?rex2RolRmOne, ?rex2RolRmOneWrite, ?rex2ShlRmOne,
    ?rex2ShlRmOneWrite, ?rex2ShldRmRI8, ?rex2ShldRmRI8Write, ?rex2ShldRmRCl, ?rex2ShldRmRClWrite, ?rex2SetccWrite,
    ?rex2PushRm, ?rex2PushRmWrite, ?rex2PopRm, ?rex2PopRmWrite, ?rex2PushRWrite, ?rex2PopR⟩
  case ccmpRmR | ccmpRmImm | ccmpRmI8 | ctestRmR | ctestRmImm | cmov | rex2Cmov =>
    intros; rename_i hs hcheck
    exact raises_of_source hs rfl ⟨_, rfl, hcheck⟩
  case adcRmR | adcRmImm | adcRmI8 | addRmR | addRmImm | addRmI8 | crc32Rm8 | decRm | divRm | imulRRmIz | imulRRmI8 |
      notRm | popcnt | rclRmI8 | rolRmI8 | shlRmI8 | shlRmOne | shldRmRI8 | shldRmRCl | rex2AddRmR | rex2AddRmImm |
      rex2AddRmI8 | rex2TestRmImm | rex2Movsxd | rex2Movzx | rex2ImulRRmIz | rex2ImulRRmI8 | rex2RolRmI8 |
      rex2ShlRmI8 | rex2RolRmOne | rex2ShlRmOne | rex2ShldRmRI8 | rex2ShldRmRCl | rex2PushRm =>
    intros; rename_i hs hrm
    and_intros <;> exact raises_of_source hs rfl hrm
  case andn | bextr | blsi | bzhi | lzcnt | movbeRRm | rorx | sarx | tzcnt =>
    intros; rename_i hs hfeature hrm
    and_intros <;> exact raises_of_source hs hfeature hrm
  case ccmpRRm =>
    intros; rename_i hs hcheck
    exact raises_of_secondSource hs rfl trivial ⟨_, rfl, hcheck⟩
  case adcRRm | addRRm | imulRRm =>
    intros; rename_i hs hrm
    and_intros <;> exact raises_of_secondSource hs rfl trivial hrm
  case adcx =>
    intros; rename_i hs hadx hrm
    and_intros <;> exact raises_of_secondSource hs hadx trivial hrm
  case crc32Rm =>
    intros; rename_i hs hrm
    exact ⟨raises_of_source hs rfl hrm, raises_of_secondSource hs rfl trivial hrm⟩
  case mulx =>
    intros; rename_i hs hbmi2 hrm
    refine ⟨raises_of_source hs hbmi2 hrm, ?pdep, ?pext⟩ <;> exact raises_of_secondSource hs hbmi2 trivial hrm
  case rex2AddRRm =>
    intros; rename_i hs hrm
    refine ⟨?add, ?or, ?adc, ?sbb, ?and, ?sub, ?xor, ?cmp, ?mov⟩
    case mov => exact raises_of_source hs rfl hrm
    all_goals exact raises_of_secondSource hs rfl trivial hrm
  case decRmWrite | notRmWrite | rclRmI8Write | rolRmI8Write | shlRmI8Write | shlRmOneWrite | rex2RolRmI8Write |
      rex2ShlRmI8Write | rex2RolRmOneWrite | rex2ShlRmOneWrite =>
    intros; rename_i hs hready hdst
    and_intros <;> exact raises_of_destination hs rfl hready hdst
  case adcRmRWrite | adcRmImmWrite | adcRmI8Write | addRmRWrite | addRmImmWrite | addRmI8Write | shldRmRI8Write |
      shldRmRClWrite | rex2AddRmRWrite | rex2AddRmImmWrite | rex2AddRmI8Write | rex2ShldRmRI8Write |
      rex2ShldRmRClWrite =>
    intros; rename_i hs hready hdst
    and_intros <;> exact raises_of_destination_of_two hs rfl hready trivial hdst
  case rex2MovRmRWrite | rex2MovRmImmWrite =>
    intros; rename_i hs hdst
    exact move_raises hs trivial hdst
  case movbeRmRWrite => exact fun _ _ _ _ _ hs hmovbe => movbe_raises hs hmovbe trivial
  case movdiriWrite => exact fun _ _ _ _ _ => movdiri_raises
  case setccWrite | rex2SetccWrite =>
    intros; rename_i hs hdst
    exact setByte_raises hs hdst
  case cfcmovLoad => exact fun _ _ _ _ _ _ => cfcmovLoad_raises
  case cfcmovNdd => exact fun _ _ _ _ _ _ _ => cfcmovNdd_raises
  case cfcmovStoreWrite => exact fun _ _ _ _ _ _ => cfcmovStore_raises
  case cmpccxadd => exact fun _ _ _ _ _ _ _ => cmpxadd_raises_of_read
  case cmpccxaddWrite => exact fun _ _ _ _ _ _ _ => cmpxadd_raises_of_write
  case kmovbKKm | kmovwKKm | kmovdKKm | kmovqKKm =>
    intros; rename_i hs hf hk hts hrm
    exact kmovLoad_raises hs hf hk hts hrm
  case kmovbMKWrite | kmovwMKWrite | kmovdMKWrite | kmovqMKWrite =>
    intros; rename_i hs hf hk hts hdst
    exact kmovStore_raises hs hf hk hts hdst
  case aesdec128kl | aesdec256kl =>
    intros; rename_i hs hkl hcheck
    and_intros <;> exact klBlock_raises hs hkl hcheck
  case aesdecwide128kl | aesdecwide256kl =>
    intros; rename_i hs hkl hcheck
    and_intros <;> exact klWide_raises hs hkl hcheck
  case sha1msg1 | sha1rnds4 =>
    intros; rename_i hs hsha hsrc
    and_intros <;> exact sha_raises hs hsha hsrc
  case invept => exact fun _ _ _ _ => invept_raises
  case invvpid => exact fun _ _ _ _ => invvpid_raises
  case invpcid => exact fun _ _ _ _ => invpcid_raises
  case enqcmd => exact fun _ _ _ _ => enqcmd_raises
  case enqcmds => exact fun _ _ _ _ => enqcmds_raises
  case movdir64b => exact fun _ _ _ _ => movdir64b_raises_of_read
  case movdir64bWrite => exact fun _ _ _ _ => movdir64b_raises_of_write
  case wrssd | wrssq => exact fun _ _ _ _ => wrss_raises
  case wrussd | wrussq => exact fun _ _ _ _ => wruss_raises
  case ldtilecfg => exact fun _ _ _ => loadTileConfig_raises
  case sttilecfgWrite => exact fun _ _ _ => storeTileConfig_raises
  case tileloadd =>
    intros; rename_i hs hk hsib hrows
    and_intros <;> exact tileLoad_raises hs hk hsib hrows
  case tilestoredWrite => exact fun _ _ _ _ => tileStore_raises
  case rex2PushRmWrite => exact fun _ _ _ hs hready => push_raises_of_store hs hready
  case rex2PushRWrite =>
    intros; rename_i hs hcheck
    and_intros <;> exact push_raises_of_store hs trivial hcheck
  case rex2PopRm | rex2PopR =>
    intros; rename_i hs hcheck
    and_intros <;> exact pop_raises_of_load hs hcheck
  case rex2PopRmWrite => exact fun _ _ _ => pop_raises_of_destination
  case push2Write =>
    intros; rename_i hs hv hb halign hcheck
    and_intros <;> exact push2_raises hs hv hb halign hcheck
  case pop2 =>
    intros; rename_i hs hv hb hvb halign hcheck
    and_intros <;> exact pop2_raises hs hv hb hvb halign hcheck

end Sys2Proof.Machine
end

section
/-! SUPPORT and O9. What the decoder reads from the bytes the encoder writes: the fields of each byte, the r/m operand, the
prefixes, and for each format the row that reads the rest (30_encoding.md sections 2 to 7). -/
namespace Sys2Proof
open Machine (leBytes leValue)

/-! ### Fields of a byte -/

@[simp] theorem field2_byte233 (a : BitVec 2) (b c : BitVec 3) : field2 (byte233 a b c) = a := by
  revert a b c; decide

@[simp] theorem fieldHi_byte233 (a : BitVec 2) (b c : BitVec 3) : fieldHi (byte233 a b c) = b := by
  revert a b c; decide

@[simp] theorem fieldLo_byte233 (a : BitVec 2) (b c : BitVec 3) : fieldLo (byte233 a b c) = c := by
  revert a b c; decide

theorem idOf_low3 (i : RegId) : idOf (i.getLsbD 4) (i.getLsbD 3) (low3 i) = i := by
  revert i; decide

/-- Bit n of a byte made from its bits. -/
theorem getLsbD_byteOf (b7 b6 b5 b4 b3 b2 b1 b0 : Bool) :
    (byteOf b7 b6 b5 b4 b3 b2 b1 b0).getLsbD 7 = b7 ∧ (byteOf b7 b6 b5 b4 b3 b2 b1 b0).getLsbD 6 = b6 ∧
    (byteOf b7 b6 b5 b4 b3 b2 b1 b0).getLsbD 5 = b5 ∧ (byteOf b7 b6 b5 b4 b3 b2 b1 b0).getLsbD 4 = b4 ∧
    (byteOf b7 b6 b5 b4 b3 b2 b1 b0).getLsbD 3 = b3 ∧ (byteOf b7 b6 b5 b4 b3 b2 b1 b0).getLsbD 2 = b2 ∧
    (byteOf b7 b6 b5 b4 b3 b2 b1 b0).getLsbD 1 = b1 ∧ (byteOf b7 b6 b5 b4 b3 b2 b1 b0).getLsbD 0 = b0 := by
  revert b7 b6 b5 b4 b3 b2 b1 b0; decide

/-- The map field of P0, the V, pp fields of P1 and the reserved fields of P2 (30_encoding.md R113). -/
theorem extractLsb'_byteOf (b7 b6 b5 b4 b3 b2 b1 b0 : Bool) :
    (byteOf b7 b6 b5 b4 b3 b2 b1 b0).extractLsb' 0 3 = BitVec.ofBool b2 ++ BitVec.ofBool b1 ++ BitVec.ofBool b0 ∧
    (byteOf b7 b6 b5 b4 b3 b2 b1 b0).extractLsb' 0 2 = BitVec.ofBool b1 ++ BitVec.ofBool b0 ∧
    (byteOf b7 b6 b5 b4 b3 b2 b1 b0).extractLsb' 5 3 = BitVec.ofBool b7 ++ BitVec.ofBool b6 ++ BitVec.ofBool b5 ∧
    (byteOf b7 b6 b5 b4 b3 b2 b1 b0).extractLsb' 3 4 =
      BitVec.ofBool b6 ++ BitVec.ofBool b5 ++ BitVec.ofBool b4 ++ BitVec.ofBool b3 := by
  revert b7 b6 b5 b4 b3 b2 b1 b0; decide

theorem ofBool_bits2 (b : BitVec 2) : BitVec.ofBool (b.getLsbD 1) ++ BitVec.ofBool (b.getLsbD 0) = b := by
  revert b; decide

theorem ofBool_bits3 (b : BitVec 3) :
    BitVec.ofBool (b.getLsbD 2) ++ BitVec.ofBool (b.getLsbD 1) ++ BitVec.ofBool (b.getLsbD 0) = b := by
  revert b; decide

/-- V is stored inverted, V4 apart from V3 to V0 (30_encoding.md R115, R116). -/
theorem vId_of_inverted (v : RegId) :
    BitVec.ofBool (!!v.getLsbD 4) ++ ~~~(BitVec.ofBool (!v.getLsbD 3) ++ BitVec.ofBool (!v.getLsbD 2) ++
      BitVec.ofBool (!v.getLsbD 1) ++ BitVec.ofBool (!v.getLsbD 0)) = v := by
  revert v; decide

/-! ### Little-endian immediates and displacements -/

theorem ofNat_leValue_leBytes {w : Nat} (n : Nat) (hw : w = 8 * n) (v : BitVec w) :
    BitVec.ofNat w (leValue (leBytes n v.toNat)) = v := by
  subst hw
  rw [Machine.leValue_leBytes, show 256 = 2 ^ 8 from rfl, ← pow_mul, Nat.mod_eq_of_lt v.isLt, BitVec.ofNat_toNat,
    BitVec.setWidth_eq]

/-- A row reads the instruction `i` from the bytes `imm` of its immediate, and leaves the bytes that follow. -/
def Row.Reads (i : Instr) (row : Row) (imm : List Byte) : Prop :=
  ∀ rest, row.take Sel.outcome (imm ++ rest) = .ok i rest

theorem Row.reads_imm0 (i : Instr) : (Row.imm0 (.ok i)).Reads i [] := fun _ => rfl

theorem Row.reads_imm8 {f : BitVec 8 → Sel} {v : BitVec 8} {i : Instr} (h : f v = .ok i) :
    (Row.imm8 f).Reads i [v] := fun rest => congrArg (Sel.outcome · rest) h

theorem Row.reads_imm16 {f : BitVec 16 → Sel} {v : BitVec 16} {i : Instr} (h : f v = .ok i) :
    (Row.imm16 f).Reads i (leBytes 2 v.toNat) := fun rest =>
  congrArg (Sel.outcome · rest) ((congrArg f (ofNat_leValue_leBytes 2 rfl v)).trans h)

theorem Row.reads_imm32 {f : BitVec 32 → Sel} {v : BitVec 32} {i : Instr} (h : f v = .ok i) :
    (Row.imm32 f).Reads i (leBytes 4 v.toNat) := fun rest =>
  congrArg (Sel.outcome · rest) ((congrArg f (ofNat_leValue_leBytes 4 rfl v)).trans h)

theorem Row.reads_imm64 {f : BitVec 64 → Sel} {v : BitVec 64} {i : Instr} (h : f v = .ok i) :
    (Row.imm64 f).Reads i (leBytes 8 v.toNat) := fun rest =>
  congrArg (Sel.outcome · rest) ((congrArg f (ofNat_leValue_leBytes 8 rfl v)).trans h)

theorem takeDisp32_leBytes (d : BitVec 32) (rest : List Byte) :
    takeDisp32 (leBytes 4 d.toNat ++ rest) = some (d, rest) :=
  congrArg (fun d => some (d, rest)) (ofNat_leValue_leBytes 4 rfl d)

theorem takeDisp_bytes (d : Disp) (rest : List Byte) : takeDisp d.mod (d.bytes ++ rest) = some (d, rest) := by
  cases d with
  | none => rfl
  | d8 v => rfl
  | d32 v => exact congrArg (fun d => some (Disp.d32 d, rest)) (ofNat_leValue_leBytes 4 rfl v)

/-! ### The r/m operand -/

theorem sibIndex_byte233 {i : Option Index} (h : indexOk i = true) (base : BitVec 3) :
    sibIndex ((indexId i).getLsbD 4) ((indexId i).getLsbD 3) (byte233 (indexScale i) (low3 (indexId i)) base) = i := by
  cases i with
  | none => rw [sibIndex, fieldHi_byte233, idOf_low3]; rfl
  | some i =>
    have hi : i.id ≠ 4 := by simpa [indexOk] using h
    simp only [sibIndex, fieldHi_byte233, idOf_low3, field2_byte233]
    exact if_neg hi

theorem mod_ne_zero_of_dispOk {id : RegId} {d : Disp} (h : dispOk id d = true) : ¬(low3 id = 5 ∧ d.mod = 0) := by
  rintro ⟨hid, hmod⟩
  cases d with
  | none => exact absurd hid (by simpa [dispOk, low3] using h)
  | d8 v => exact absurd hmod (show (1 : BitVec 2) ≠ 0 by decide)
  | d32 v => exact absurd hmod (show (2 : BitVec 2) ≠ 0 by decide)

/-- The bytes of a well-formed memory form decode to it, whatever ModRM.reg holds (30_encoding.md R153, R154). -/
theorem takeForm_memBits {m : Mem} (h : m.wf = true) (rest : List Byte) :
    takeForm (memBits m).x4 (memBits m).x3 (memBits m).b4 (memBits m).b3 (memBits m).mod (memBits m).rm
      ((memBits m).tail ++ rest) = some (m.form, rest) := by
  obtain ⟨seg, a32, form⟩ := m
  cases form with
  | base b d =>
    simp only [Mem.wf, MemForm.wf, Bool.and_eq_true, bne_iff_ne] at h
    obtain ⟨hsib, hdisp⟩ := h
    have hlow : low3 b ≠ 4 := hsib
    simp only [memBits, takeForm, if_neg hlow, if_neg (mod_ne_zero_of_dispOk hdisp), takeDisp_bytes, Option.map_some,
      idOf_low3]
  | sib b i d =>
    simp only [Mem.wf, MemForm.wf, Bool.and_eq_true] at h
    obtain ⟨hindex, hdisp⟩ := h
    simp only [memBits, takeForm, List.cons_append, if_true, fieldLo_byte233, if_neg (mod_ne_zero_of_dispOk hdisp),
      takeDisp_bytes, Option.map_some, idOf_low3, sibIndex_byte233 hindex]
  | sibNoBase i d =>
    simp only [memBits, takeForm, List.cons_append, if_true, fieldLo_byte233, and_self, takeDisp32_leBytes,
      Option.map_some, sibIndex_byte233 h]
  | ripRel d =>
    have hrm : (5 : BitVec 3) ≠ 4 := by decide
    simp only [memBits, takeForm, if_neg hrm, and_self, if_true, takeDisp32_leBytes, Option.map_some]

theorem Disp.mod_ne_three (d : Disp) : d.mod ≠ 3 := by
  cases d <;> simp [Disp.mod]

theorem memBits_mod_ne_three (m : Mem) : (memBits m).mod ≠ 3 := by
  obtain ⟨seg, a32, form⟩ := m
  cases form with
  | base b d => exact d.mod_ne_three
  | sib b i d => exact d.mod_ne_three
  | sibNoBase i d => simp [memBits]
  | ripRel d => simp [memBits]

/-- The prefixes an r/m operand needs, as the decoder collects them (30_encoding.md R108). -/
def RM.overrides : RM → Pre
  | .reg _ => Pre.empty
  | .mem m => { Pre.empty with seg := m.seg, a32 := m.a32 }

/-- ModRM and the bytes after it decode to the well-formed operand they encode (30_encoding.md R152). -/
theorem takeRM_rmBits {rm : RM} (h : rm.wf = true) (reg : BitVec 3) (rest : List Byte) :
    takeRM rm.overrides.seg rm.overrides.a32 (rmBits rm).x4 (rmBits rm).x3 (rmBits rm).b4 (rmBits rm).b3
      (byte233 (rmBits rm).mod reg (rmBits rm).rm) ((rmBits rm).tail ++ rest) = some (rm, rest) := by
  cases rm with
  | reg i => simp only [takeRM, rmBits, regBits, field2_byte233, fieldLo_byte233, if_true, idOf_low3, List.nil_append]
  | mem m =>
    rw [takeRM, rmBits, field2_byte233, fieldLo_byte233, if_neg (memBits_mod_ne_three m), takeForm_memBits h]
    rfl

/-! ### Prefixes -/

theorem takePre_of_notPrefix {p : Pre} {b : Byte} (h : p.add b = none) (bs : List Byte) :
    takePre p (b :: bs) = (p, b :: bs) := by
  rw [takePre, h]

theorem Mem.takePre_pre (m : Mem) (bs : List Byte) :
    takePre Pre.empty (m.pre ++ bs) = takePre { Pre.empty with seg := m.seg, a32 := m.a32 } bs := by
  obtain ⟨seg, a32, form⟩ := m
  cases a32 with
  | false =>
    cases seg with
    | none => rfl
    | some s => cases s <;> rfl
  | true =>
    cases seg with
    | none => rfl
    | some s => cases s <;> rfl

/-- The decoder collects the overrides of an encoded operand and goes on behind them. -/
theorem takePre_rmBits (rm : RM) (bs : List Byte) :
    takePre Pre.empty ((rmBits rm).pre ++ bs) = takePre rm.overrides bs := by
  cases rm with
  | reg i => rfl
  | mem m =>
    have hpre : (memBits m).pre = m.pre := by
      obtain ⟨seg, a32, form⟩ := m
      cases form <;> rfl
    rw [rmBits, hpre, Mem.takePre_pre]
    rfl

theorem decode_of_evex {bs rest : List Byte} {p : Pre} (h : takePre Pre.empty bs = (p, 0x62 :: rest)) :
    decode bs = decodeEvex p rest := by
  rw [decode, h]
  rfl

theorem decode_of_rex2 {bs rest : List Byte} {p : Pre} (h : takePre Pre.empty bs = (p, 0xD5 :: rest))
    (hrex : p.rex = false) : decode bs = decodeRex2Body p rest := by
  rw [decode, h]
  simp only [decodeRex2, hrex]
  rfl

theorem RM.overrides_evexOk (rm : RM) : rm.overrides.evexOk = true := by
  cases rm <;> rfl

/-! ### EVEX -/

theorem p0Byte_map (rm : RmBits) (map : BitVec 3) (reg : RegId) : (p0Byte rm map reg).extractLsb' 0 3 = map := by
  rw [p0Byte, (extractLsb'_byteOf ..).1, ofBool_bits3]

/-- The bytes behind the prefixes of an EVEX instruction decode to what its row reads, if the map and opcode are those
of a promoted instruction (30_encoding.md R113, R119). -/
theorem decode_evexPayload {rm : RM} (hrm : rm.wf = true) {map : BitVec 3} {op : Byte}
    (hmap : (map == 4 || promotedVex map op) = true) (reg : RegId) (p1 p2 : Byte)
    (hx4 : p1.getLsbD 2 = !(rmBits rm).x4) (imm rest : List Byte) :
    decode ((rmBits rm).pre ++ [0x62, p0Byte (rmBits rm) map reg, p1, p2, op,
        byte233 (rmBits rm).mod (low3 reg) (rmBits rm).rm] ++ (rmBits rm).tail ++ imm ++ rest) =
      (evexRow map op (evexHead (p0Byte (rmBits rm) map reg) p1 p2
        (byte233 (rmBits rm).mod (low3 reg) (rmBits rm).rm)) rm).take Sel.outcome (imm ++ rest) := by
  have hp0 := getLsbD_byteOf (!reg.getLsbD 3) (!(rmBits rm).x3) (!(rmBits rm).b3) (!reg.getLsbD 4) (rmBits rm).b4
    (map.getLsbD 2) (map.getLsbD 1) (map.getLsbD 0)
  obtain ⟨-, hx3, hb3, -, hb4, -⟩ := hp0
  rw [← p0Byte] at hx3 hb3 hb4
  simp only [List.append_assoc, List.cons_append, List.nil_append]
  rw [decode_of_evex ((takePre_rmBits rm _).trans (takePre_of_notPrefix rfl _))]
  simp only [decodeEvex, p0Byte_map, hmap, reduceCtorEq, if_false, hx4, hx3, hb3, hb4, Bool.not_not,
    takeRM_rmBits hrm, RM.overrides_evexOk]
  rfl

theorem evexHead_evex (rm : RmBits) (map : BitVec 3) (w : Bool) (v : RegId) (pp : BitVec 2) (nd nf : Bool)
    (reg : RegId) :
    evexHead (p0Byte rm map reg)
      (byteOf w (!v.getLsbD 3) (!v.getLsbD 2) (!v.getLsbD 1) (!v.getLsbD 0) (!rm.x4) (pp.getLsbD 1) (pp.getLsbD 0))
      (byteOf false false false nd (!v.getLsbD 4) nf false false) (byte233 rm.mod (low3 reg) rm.rm) =
      ⟨reg, v, w, pp, nd, nf, 0, 0⟩ := by
  simp only [evexHead, p0Byte, getLsbD_byteOf, extractLsb'_byteOf, fieldHi_byte233, Bool.not_not, idOf_low3, ofBool_bits2]
  rw [← Bool.not_not (v.getLsbD 4), vId_of_inverted]
  rfl

theorem decode_evex {rm : RM} (hrm : rm.wf = true) {map : BitVec 3} {op : Byte}
    (hmap : (map == 4 || promotedVex map op) = true) {w nd nf : Bool} {v reg : RegId} {pp : BitVec 2}
    {i : Instr} {imm : List Byte} (hrow : (evexRow map op ⟨reg, v, w, pp, nd, nf, 0, 0⟩ rm).Reads i imm)
    (rest : List Byte) : decode (evex (rmBits rm) map w v pp nd nf reg op imm ++ rest) = .ok i rest := by
  rw [evex, decode_evexPayload hrm hmap reg _ _ (getLsbD_byteOf ..).2.2.2.2.2.1, evexHead_evex, hrow]

/-- The head the decoder reads from the CCMP and CTEST format: SCC and DFV stand, as they are, in the places of the
inverted V, of NF and of P2[1:0] (30_encoding.md R147). -/
def ccHead (reg : RegId) (w : Bool) (pp : BitVec 2) (scc : Scc) (dfv : Dfv) : EvexHead where
  r := reg
  v := BitVec.ofBool (!scc.bits.getLsbD 3) ++
    ~~~(BitVec.ofBool dfv.of ++ BitVec.ofBool dfv.sf ++ BitVec.ofBool dfv.zf ++ BitVec.ofBool dfv.cf)
  w := w
  pp := pp
  nd := false
  nf := scc.bits.getLsbD 2
  hi := 0
  lo := BitVec.ofBool (scc.bits.getLsbD 1) ++ BitVec.ofBool (scc.bits.getLsbD 0)

theorem ccHead_scc (reg : RegId) (w : Bool) (pp : BitVec 2) (scc : Scc) (dfv : Dfv) :
    (ccHead reg w pp scc dfv).scc = scc := by
  obtain ⟨a, b, c, d⟩ := dfv
  simp only [EvexHead.scc, ccHead]
  cases scc <;> revert a b c d <;> decide

theorem ccHead_dfv (reg : RegId) (w : Bool) (pp : BitVec 2) (scc : Scc) (dfv : Dfv) :
    (ccHead reg w pp scc dfv).dfv = dfv := by
  obtain ⟨a, b, c, d⟩ := dfv
  simp only [EvexHead.dfv, ccHead]
  generalize scc.bits.getLsbD 3 = s
  revert s a b c d; decide

theorem evexHead_evexCc (rm : RmBits) (w : Bool) (dfv : Dfv) (pp : BitVec 2) (scc : Scc) (reg : RegId) :
    evexHead (p0Byte rm 4 reg)
      (byteOf w dfv.of dfv.sf dfv.zf dfv.cf (!rm.x4) (pp.getLsbD 1) (pp.getLsbD 0))
      (byteOf false false false false (scc.bits.getLsbD 3) (scc.bits.getLsbD 2) (scc.bits.getLsbD 1)
        (scc.bits.getLsbD 0)) (byte233 rm.mod (low3 reg) rm.rm) = ccHead reg w pp scc dfv := by
  simp only [evexHead, p0Byte, getLsbD_byteOf, extractLsb'_byteOf, fieldHi_byte233, Bool.not_not, idOf_low3, ofBool_bits2]
  rfl

/-- The CCMP and CTEST rows read SCC and DFV from the head. -/
theorem decode_evexCc {rm : RM} (hrm : rm.wf = true) {op : Byte} {w : Bool} {reg : RegId} {pp : BitVec 2} {scc : Scc}
    {dfv : Dfv} {i : Scc → Dfv → Instr} {imm : List Byte}
    (hrow : (evexRow 4 op (ccHead reg w pp scc dfv) rm).Reads
      (i (ccHead reg w pp scc dfv).scc (ccHead reg w pp scc dfv).dfv) imm) (rest : List Byte) :
    decode (evexCc (rmBits rm) w dfv pp scc reg op imm ++ rest) = .ok (i scc dfv) rest := by
  rw [ccHead_scc, ccHead_dfv] at hrow
  rw [evexCc, decode_evexPayload hrm rfl reg _ _ (getLsbD_byteOf ..).2.2.2.2.2.1, evexHead_evexCc, hrow]

/-! ### REX2 -/

theorem takePre_pre66 (rm : RM) (p66 : Bool) (bs : List Byte) :
    takePre rm.overrides (pre66 p66 ++ 0xD5 :: bs) = ({ rm.overrides with o16 := p66 }, 0xD5 :: bs) := by
  cases rm <;> cases p66 <;> rfl

theorem rex2Outcome_of_plain {p : Pre} (hlock : p.lock = false) (hrep : p.rep = false) (use : LockUse) :
    rex2Outcome p use = Sel.outcome := by
  funext r bs
  match r with
  | .ok i => simp [rex2Outcome, hlock, hrep]
  | .error .ud => rfl
  | .error (.refused d) => simp [rex2Outcome, hlock, Sel.outcome]

/-- An opcode of the REX2 subset with a ModRM byte is no JMPABS, not reserved, and no #UD without REX2. -/
theorem rex2Modrm0_not_ud : ∀ op : Byte, rex2Modrm0 op = true →
    op ≠ 0xA1 ∧ (rex2Reserved0 op || alreadyUd0 op) = false := by
  decide

theorem rex2Modrm1_not_ud (p : Pre) {op : Byte} (h : rex2Modrm1 op = true) :
    (rex2Reserved1 op || alreadyUd1 p op) = false := by
  have key : ∀ op : Byte, rex2Modrm1 op = true → rex2Reserved1 op = false ∧ op ≠ 0xB8 ∧ op ≠ 0x77 ∧
    [0x04, 0x0A, 0x0B, 0x0C, 0x0E, 0x0F, 0x24, 0x25, 0x26, 0x27, 0x7A, 0x7B, 0xA6, 0xA7, 0xB9, 0xFF].contains op.toNat =
      false := by decide
  obtain ⟨hreserved, hB8, h77, hlist⟩ := key op h
  simp only [alreadyUd1, hreserved, hlist, beq_false_of_ne hB8, beq_false_of_ne h77, Bool.false_and, Bool.or_self]

/-- Behind prefixes other than LOCK, REP and REX, a REX2 payload with a ModRM byte decodes to what its row reads
(30_encoding.md R103, R104). -/
theorem decodeRex2Body_modrm {p : Pre} {rm : RM} (hrm : rm.wf = true) (hseg : p.seg = rm.overrides.seg)
    (ha32 : p.a32 = rm.overrides.a32) (hlock : p.lock = false) (hrep : p.rep = false) {m0 w : Bool} {op : Byte}
    (hop : (if m0 then rex2Modrm1 op else rex2Modrm0 op) = true) {reg : RegId} {i : Instr} {imm : List Byte}
    (hrow : ∀ b, (rex2Row m0 op ⟨reg, b, w, p.o16⟩ rm).Reads i imm) (rest : List Byte) :
    decodeRex2Body p (byteOf m0 (reg.getLsbD 4) (rmBits rm).x4 (rmBits rm).b4 w (reg.getLsbD 3) (rmBits rm).x3
      (rmBits rm).b3 :: op :: byte233 (rmBits rm).mod (low3 reg) (rmBits rm).rm :: ((rmBits rm).tail ++ (imm ++ rest))) =
      .ok i rest := by
  have hnotA1 : ¬(m0 = false ∧ op = 0xA1) := by
    rintro ⟨rfl, hA1⟩
    exact (rex2Modrm0_not_ud op hop).1 hA1
  have hnotUd : (if m0 then rex2Reserved1 op || alreadyUd1 p op else rex2Reserved0 op || alreadyUd0 op) = false := by
    cases m0 with
    | true => exact rex2Modrm1_not_ud _ hop
    | false => exact (rex2Modrm0_not_ud op hop).2
  simp only [decodeRex2Body, getLsbD_byteOf, if_neg hnotA1, hnotUd, hop, if_true, fieldHi_byte233, idOf_low3, hseg, ha32,
    takeRM_rmBits hrm, rex2Outcome_of_plain hlock hrep, if_false, Bool.false_eq_true]
  exact hrow _ rest

theorem decode_rex2 {rm : RM} (hrm : rm.wf = true) {p66 m0 w : Bool} {op : Byte}
    (hop : (if m0 then rex2Modrm1 op else rex2Modrm0 op) = true) {reg : RegId} {i : Instr} {imm : List Byte}
    (hrow : ∀ b, (rex2Row m0 op ⟨reg, b, w, p66⟩ rm).Reads i imm) (rest : List Byte) :
    decode (rex2 (rmBits rm) p66 m0 w reg op imm ++ rest) = .ok i rest := by
  have hpre := fun bs => (takePre_rmBits rm _).trans (takePre_pre66 rm p66 bs)
  simp only [rex2, List.append_assoc, List.cons_append, List.nil_append]
  rw [decode_of_rex2 (hpre _) (by cases rm <;> rfl)]
  refine decodeRex2Body_modrm hrm ?_ ?_ ?_ ?_ hop hrow rest <;> cases rm <;> rfl

/-- The opcodes that embed a register keep their row and give their register back (30_encoding.md R104). -/
theorem rex2Op_opcode (b : BitVec 3) {op : Byte} (hop : op ∈ [(0x50 : Byte), 0x58, 0xB0, 0xB8]) :
    op ||| b.setWidth 8 ≠ 0xA1 ∧
    (rex2Reserved0 (op ||| b.setWidth 8) || alreadyUd0 (op ||| b.setWidth 8)) = false ∧
    rex2Modrm0 (op ||| b.setWidth 8) = false ∧ rex2Group false (op ||| b.setWidth 8) = false ∧
    (op ||| b.setWidth 8).extractLsb' 0 3 = b ∧ (op ||| b.setWidth 8).extractLsb' 3 5 = op.extractLsb' 3 5 := by
  simp only [List.mem_cons, List.not_mem_nil, or_false] at hop
  rcases hop with rfl | rfl | rfl | rfl <;> revert b <;> decide

/-- A REX2 instruction whose opcode embeds a register decodes to what its row reads (30_encoding.md R104). -/
theorem decode_rex2Op {p66 w : Bool} {b : RegId} {op : Byte} (hop : op ∈ [(0x50 : Byte), 0x58, 0xB0, 0xB8]) {i : Instr}
    {imm : List Byte} (hrow : (rex2Direct op ⟨0, b, w, p66⟩).Reads i imm) (rest : List Byte) :
    decode (rex2Op p66 false w b op imm ++ rest) = .ok i rest := by
  obtain ⟨hA1, hud, hmodrm, hgroup, hlow, hhigh⟩ := rex2Op_opcode (low3 b) hop
  have hdirect : ∀ h, rex2Direct (op ||| (low3 b).setWidth 8) h = rex2Direct op h := by
    intro h
    rw [rex2Direct, hhigh, rex2Direct]
  simp only [rex2Op, List.append_assoc, List.cons_append, List.nil_append]
  rw [decode_of_rex2 (takePre_pre66 (.reg 0) p66 _) rfl]
  simp only [decodeRex2Body, getLsbD_byteOf, hA1, and_false, if_false, hud, hmodrm, hgroup, hlow, idOf_low3,
    rex2Outcome_of_plain (p := { RM.overrides (.reg 0) with o16 := p66 }) rfl rfl, hdirect, Bool.false_eq_true]
  exact hrow rest


/-! ### Operands of other kinds in the r/m field, and condition codes -/

/-- The r/m operand that encodes an xmm/m128 operand. -/
def XRM.toRM : XRM → RM
  | .xmm x => .reg (xmmReg x)
  | .mem m => .mem m

theorem rmBits_xrm (x : XRM) : rmBits x.toRM = xrmBits x := by cases x <;> rfl

theorem XRM.wf_toRM (x : XRM) : x.toRM.wf = x.wf := by cases x <;> rfl

/-- The r/m operand that encodes a mask/memory operand. -/
def KRM.toRM : KRM → RM
  | .k i => .reg (shortReg i)
  | .mem m => .mem m

theorem rmBits_krm (x : KRM) : rmBits x.toRM = krmBits x := by cases x <;> rfl

theorem KRM.wf_toRM (x : KRM) : x.toRM.wf = x.wf := by cases x <;> rfl

theorem xmmId_xmmReg (x : BitVec 4) : xmmId (xmmReg x) = x := by
  revert x; decide

theorem xmmOk_xmmReg (x : BitVec 4) : xmmOk (xmmReg x) = true := by
  revert x; decide

theorem shortId_shortReg (k : ShortId) : shortId (shortReg k) = k := by
  obtain ⟨id, hi⟩ := k
  revert id hi; decide

theorem krm_toRM (x : KRM) : krm x.toRM = x := by
  cases x with
  | k i => exact congrArg KRM.k (shortId_shortReg i)
  | mem m => rfl

theorem onXrm_toRM (x : XRM) (f : XRM → Sel) : onXrm x.toRM f = f x := by
  cases x with
  | xmm x => simp only [XRM.toRM, onXrm, xmmOk_xmmReg, if_true, xmmId_xmmReg]
  | mem m => rfl

/-- A row that reads an XMM id from R (30_encoding.md R136). -/
theorem Row.reads_xmm (x : BitVec 4) {i j : Instr} (h : j = i) :
    (Row.imm0 (sel (xmmOk (xmmReg x)) j)).Reads i [] := by
  rw [xmmOk_xmmReg, h]
  exact reads_imm0 _

/-- A row that reads XMM ids from R and from r/m. -/
theorem Row.reads_xrm (x : BitVec 4) (src : XRM) (f : BitVec 4 → XRM → Instr) :
    (Row.imm0 (onXrm src.toRM fun y => sel (xmmOk (xmmReg x)) (f (xmmId (xmmReg x)) y))).Reads (f x src) [] := by
  rw [onXrm_toRM]
  exact reads_xmm x (by rw [xmmId_xmmReg])

/-- A row that reads a mask or tile id (43_promoted_vex.md R298) reads the id it was encoded from. -/
theorem Row.reads_of_eq {i j : Instr} (h : j = i) : (Row.imm0 (.ok j)).Reads i [] := h ▸ reads_imm0 _

theorem Row.reads_krm (k : ShortId) (src : KRM) (f : ShortId → KRM → Instr) :
    (Row.imm0 (.ok (f (shortId (shortReg k)) (krm src.toRM)))).Reads (f k src) [] := by
  exact reads_of_eq (by rw [krm_toRM, shortId_shortReg])

/-- A row that reads a memory operand with a SIB byte (30_encoding.md R157). -/
theorem Row.reads_sib {m : Mem} (hsib : m.form.isSib = true) {f : Mem → Instr} {i : Instr} (h : f m = i) :
    (Row.imm0 (onSib (.mem m) fun m => .ok (f m))).Reads i [] := by
  simp only [onSib, hsib, if_true]
  exact reads_of_eq h

/-- A condition code stands in the low four bits of its opcode. -/
theorem ofBits_ccOp {base : Byte} (hbase : base ∈ [(0x40 : Byte), 0x90, 0xE0]) (cc : Cond) :
    Cond.ofBits ((ccOp base cc).setWidth 4) = cc ∧ (ccOp base cc).extractLsb' 4 4 = base.extractLsb' 4 4 := by
  simp only [List.mem_cons, List.not_mem_nil, or_false] at hbase
  rcases hbase with rfl | rfl | rfl <;> cases cc <;> decide

theorem evexRow_cmov (cc : Cond) (sz : OSize) {h : EvexHead} (hpp : h.pp = sz.pp) (rm : RM) :
    evexRow 4 (ccOp 0x40 cc) h rm = cmovRow cc h rm := by
  obtain ⟨hcc, hhigh⟩ := ofBits_ccOp (base := 0x40) (by decide) cc
  simp only [evexRow, map4Row, hhigh, hcc, hpp]
  cases sz <;> rfl

theorem evexRow_setcc (cc : Cond) {h : EvexHead} (hpp : h.pp = 3) (rm : RM) :
    evexRow 4 (ccOp 0x40 cc) h rm = .imm0 (sel h.zu0 (.setcc cc rm h.nd)) := by
  obtain ⟨hcc, hhigh⟩ := ofBits_ccOp (base := 0x40) (by decide) cc
  simp only [evexRow, map4Row, hhigh, hcc, hpp]
  rfl

theorem evexRow_cmpccxadd (cc : Cond) {h : EvexHead} (hpp : h.pp = 1) (m : Mem) :
    evexRow 2 (ccOp 0xE0 cc) h (.mem m) = .imm0 (sel h.vex0 (.cmpccxadd cc h.ysz m h.r h.v)) := by
  obtain ⟨hcc, hhigh⟩ := ofBits_ccOp (base := 0xE0) (by decide) cc
  simp only [evexRow, vexRow, hhigh, hcc, hpp]
  rfl

theorem rex2Row_cmov (cc : Cond) (h : Rex2Head) (rm : RM) :
    rex2Row true (ccOp 0x40 cc) h rm = .imm0 (.ok (.rex2Cmov cc h.sz h.r rm)) := by
  obtain ⟨hcc, hhigh⟩ := ofBits_ccOp (base := 0x40) (by decide) cc
  simp only [rex2Row, hhigh, hcc]
  rfl

theorem rex2Row_setcc (cc : Cond) (h : Rex2Head) (rm : RM) :
    rex2Row true (ccOp 0x90 cc) h rm = .imm0 (no66 h (.ok (.rex2Setcc cc rm))) := by
  obtain ⟨hcc, hhigh⟩ := ofBits_ccOp (base := 0x90) (by decide) cc
  simp only [rex2Row, hhigh, hcc]
  rfl

/-- JMPABS with W = 0, whatever the other payload bits (45_jmpabs_rex2.md R370). -/
theorem decode_jmpabs {pl : Byte} (hm0 : pl.getLsbD 7 = false) (hw : pl.getLsbD 3 = false) (target : Word)
    (rest : List Byte) :
    decode (0xD5 :: pl :: 0xA1 :: (leBytes 8 target.toNat ++ rest)) = .ok (.jmpabs target) rest := by
  have htarget : (Row.imm64 fun v => sel true (.jmpabs v)).Reads (.jmpabs target) (leBytes 8 target.toNat) :=
    Row.reads_imm64 rfl
  rw [decode_of_rex2 (takePre_of_notPrefix rfl _) rfl]
  simp only [decodeRex2Body, hm0, hw, and_self, if_true, decodeJmpabs, Bool.false_eq_true, if_false]
  exact htarget rest

/-! ### Every instruction -/

/-- Decoding gives a well-formed instruction back. The cases are grouped by the form of the encoding. -/
theorem decode_encode {i : Instr} (hwf : i.wf = true) (rest : List Byte) : decode (encode i ++ rest) = .ok i rest := by
  cases i
  -- Map 4, no immediate: operand size and NDD form decide between the rows' variants.
  case adcRmR sz rm reg ndd | sbbRmR sz rm reg ndd | adcRRm sz reg rm ndd | sbbRRm sz reg rm ndd
      | adcx sz reg rm ndd | adox sz reg rm ndd | addRmR sz rm reg ndd nf | andRmR sz rm reg ndd nf
      | orRmR sz rm reg ndd nf | subRmR sz rm reg ndd nf | xorRmR sz rm reg ndd nf | shldRmRCl sz rm reg ndd nf
      | shrdRmRCl sz rm reg ndd nf | addRRm sz reg rm ndd nf | andRRm sz reg rm ndd nf | imulRRm sz reg rm ndd nf
      | orRRm sz reg rm ndd nf | subRRm sz reg rm ndd nf | xorRRm sz reg rm ndd nf | decRm sz rm ndd nf
      | incRm sz rm ndd nf | negRm sz rm ndd nf | notRm sz rm ndd | rclRmOne sz rm ndd | rclRmCl sz rm ndd
      | rcrRmOne sz rm ndd | rcrRmCl sz rm ndd | rolRmOne sz rm ndd nf | rolRmCl sz rm ndd nf | rorRmOne sz rm ndd nf
      | rorRmCl sz rm ndd nf | sarRmOne sz rm ndd nf | sarRmCl sz rm ndd nf | shrRmOne sz rm ndd nf
      | shrRmCl sz rm ndd nf =>
    refine decode_evex hwf rfl ?_ rest
    cases sz <;> cases ndd <;> exact Row.reads_imm0 _
  case shlRmOne alt sz rm ndd nf | shlRmCl alt sz rm ndd nf =>
    refine decode_evex hwf rfl ?_ rest
    cases alt <;> cases sz <;> cases ndd <;> exact Row.reads_imm0 _
  -- Map 4, one immediate byte.
  case adcRmI8 sz rm v ndd | sbbRmI8 sz rm v ndd | rclRmI8 sz rm v ndd | rcrRmI8 sz rm v ndd
      | addRmI8 sz rm v ndd nf | andRmI8 sz rm v ndd nf | orRmI8 sz rm v ndd nf | subRmI8 sz rm v ndd nf
      | xorRmI8 sz rm v ndd nf | rolRmI8 sz rm v ndd nf | rorRmI8 sz rm v ndd nf | sarRmI8 sz rm v ndd nf
      | shrRmI8 sz rm v ndd nf | shldRmRI8 sz rm reg v ndd nf | shrdRmRI8 sz rm reg v ndd nf =>
    refine decode_evex hwf rfl ?_ rest
    cases sz <;> cases ndd <;> exact Row.reads_imm8 rfl
  case shlRmI8 alt sz rm v ndd nf =>
    refine decode_evex hwf rfl ?_ rest
    cases alt <;> cases sz <;> cases ndd <;> exact Row.reads_imm8 rfl
  case imulRRmI8 sz reg rm v zu nf =>
    refine decode_evex hwf rfl ?_ rest
    cases sz <;> exact Row.reads_imm8 rfl
  -- Map 4, an immediate whose width is the operand size.
  case adcRmImm rm imm ndd | sbbRmImm rm imm ndd | addRmImm rm imm ndd nf | andRmImm rm imm ndd nf
      | orRmImm rm imm ndd nf | subRmImm rm imm ndd nf | xorRmImm rm imm ndd nf =>
    refine decode_evex hwf rfl ?_ rest
    cases imm with
    | i8 v =>
      simp only [Imm.size]
      cases ndd <;> exact Row.reads_imm8 rfl
    | i16 v =>
      simp only [Imm.size]
      cases ndd <;> exact Row.reads_imm16 rfl
    | i32 v =>
      simp only [Imm.size]
      cases ndd <;> exact Row.reads_imm32 rfl
    | i64 v =>
      simp only [Imm.size]
      cases ndd <;> exact Row.reads_imm32 rfl
  case imulRRmIz reg rm imm zu nf =>
    refine decode_evex hwf rfl ?_ rest
    cases imm with
    | i16 v =>
      simp only [ImmZ.size]
      exact Row.reads_imm16 rfl
    | i32 v =>
      simp only [ImmZ.size]
      exact Row.reads_imm32 rfl
    | i64 v =>
      simp only [ImmZ.size]
      exact Row.reads_imm32 rfl
  -- Operand size alone, in map 4 and in maps 2 and 3.
  case divRm sz rm nf | idivRm sz rm nf | imulRm sz rm nf | mulRm sz rm nf | lzcnt sz reg rm nf | popcnt sz reg rm nf
      | tzcnt sz reg rm nf | crc32Rm8 sz reg rm | crc32Rm sz reg rm | movbeRRm sz reg rm | movbeRmR sz rm reg
      | andn sz reg v rm nf | bextr sz reg rm v nf | bzhi sz reg rm v nf | blsi sz v rm nf
      | blsmsk sz v rm nf | blsr sz v rm nf | mulx sz reg v rm | pdep sz reg v rm | pext sz reg v rm | sarx sz reg rm v
      | shlx sz reg rm v | shrx sz reg rm v =>
    refine decode_evex hwf rfl ?_ rest
    cases sz <;> exact Row.reads_imm0 _
  case rorx sz reg rm v =>
    refine decode_evex hwf rfl ?_ rest
    cases sz <;> exact Row.reads_imm8 rfl
  -- A memory operand or a register operand alone.
  case movdiri sz m reg =>
    refine decode_evex (rm := .mem m) hwf rfl ?_ rest
    cases sz <;> exact Row.reads_imm0 _
  case enqcmd reg m | enqcmds reg m | invept reg m | invpcid reg m | invvpid reg m | movdir64b reg m | wrssd m reg
      | wrssq m reg | wrussd m reg | wrussq m reg | aesdecwide128kl m | aesdecwide256kl m | aesencwide128kl m
      | aesencwide256kl m | ldtilecfg m | sttilecfg m =>
    refine decode_evex (rm := .mem m) hwf rfl ?_ rest
    exact Row.reads_imm0 _
  case encodekey128 reg b | encodekey256 reg b | pop2 v b | pop2p v b | push2 v b | push2p v b =>
    refine decode_evex (rm := .reg b) hwf rfl ?_ rest
    exact Row.reads_imm0 _
  -- XMM operands.
  case aesdec128kl x m | aesdec256kl x m | aesenc128kl x m | aesenc256kl x m =>
    refine decode_evex (rm := .mem m) hwf rfl ?_ rest
    exact Row.reads_xmm x (by simp only [xmmId_xmmReg])
  case sha1msg1 x src | sha1msg2 x src | sha1nexte x src | sha256msg1 x src | sha256msg2 x src | sha256rnds2 x src =>
    rw [encode, ← rmBits_xrm]
    refine decode_evex (src.wf_toRM.trans hwf) rfl ?_ rest
    exact Row.reads_xrm x src _
  case sha1rnds4 x src v =>
    rw [encode, ← rmBits_xrm]
    refine decode_evex (src.wf_toRM.trans hwf) rfl ?_ rest
    exact fun rest => Row.reads_xrm x src (.sha1rnds4 · · v) rest
  -- Opmask and tile operands.
  case kmovbKKm k src | kmovdKKm k src | kmovqKKm k src | kmovwKKm k src =>
    rw [encode, ← rmBits_krm]
    refine decode_evex (src.wf_toRM.trans hwf) rfl ?_ rest
    exact Row.reads_krm k src _
  case kmovbKR k b | kmovdKR k b | kmovqKR k b | kmovwKR k b =>
    refine decode_evex (rm := .reg b) hwf rfl ?_ rest
    exact Row.reads_of_eq (by simp only [shortId_shortReg])
  case kmovbRK reg k | kmovdRK reg k | kmovqRK reg k | kmovwRK reg k =>
    refine decode_evex (rm := .reg (shortReg k)) hwf rfl ?_ rest
    exact Row.reads_of_eq (by simp only [shortId_shortReg])
  case kmovbMK m k | kmovdMK m k | kmovqMK m k | kmovwMK m k =>
    refine decode_evex (rm := .mem m) hwf rfl ?_ rest
    exact Row.reads_of_eq (by simp only [shortId_shortReg])
  case tileloadd k m | tileloaddt1 k m | tilestored m k =>
    simp only [Instr.wf, Mem.wfSib, Bool.and_eq_true] at hwf
    obtain ⟨hform, hsib⟩ := hwf
    refine decode_evex (rm := .mem m) hform rfl ?_ rest
    exact Row.reads_sib hsib (by simp only [shortId_shortReg])
  -- Condition codes in the opcode.
  case cmov cc sz v reg rm | cfcmovNdd cc sz v reg rm | cfcmovLoad cc sz reg rm =>
    refine decode_evex hwf rfl ?_ rest
    rw [evexRow_cmov cc sz rfl]
    cases sz <;> exact Row.reads_imm0 _
  case cfcmovReg cc sz b reg =>
    refine decode_evex (rm := .reg b) hwf rfl ?_ rest
    rw [evexRow_cmov cc sz rfl]
    cases sz <;> exact Row.reads_imm0 _
  case cfcmovStore cc sz m reg =>
    refine decode_evex (rm := .mem m) hwf rfl ?_ rest
    rw [evexRow_cmov cc sz rfl]
    cases sz <;> exact Row.reads_imm0 _
  case setcc cc rm zu =>
    refine decode_evex hwf rfl ?_ rest
    rw [evexRow_setcc cc rfl]
    exact Row.reads_imm0 _
  case cmpccxadd cc sz m reg v =>
    refine decode_evex (rm := .mem m) hwf (by cases cc <;> rfl) ?_ rest
    rw [evexRow_cmpccxadd cc rfl]
    cases sz <;> exact Row.reads_imm0 _
  -- The CCMP and CTEST format.
  case ccmpRmR scc dfv sz rm reg =>
    refine decode_evexCc hwf (i := (.ccmpRmR · · sz rm reg)) ?_ rest
    cases sz <;> exact Row.reads_imm0 _
  case ccmpRRm scc dfv sz reg rm =>
    refine decode_evexCc hwf (i := (.ccmpRRm · · sz reg rm)) ?_ rest
    cases sz <;> exact Row.reads_imm0 _
  case ctestRmR scc dfv sz rm reg =>
    refine decode_evexCc hwf (i := (.ctestRmR · · sz rm reg)) ?_ rest
    cases sz <;> exact Row.reads_imm0 _
  case ccmpRmI8 scc dfv sz rm v =>
    refine decode_evexCc hwf (i := (.ccmpRmI8 · · sz rm v)) ?_ rest
    cases sz <;> exact Row.reads_imm8 rfl
  case ccmpRmImm scc dfv rm imm =>
    refine decode_evexCc hwf (i := (.ccmpRmImm · · rm imm)) ?_ rest
    cases imm with
    | i8 v =>
      simp only [Imm.size]
      exact Row.reads_imm8 rfl
    | i16 v =>
      simp only [Imm.size]
      exact Row.reads_imm16 rfl
    | i32 v =>
      simp only [Imm.size]
      exact Row.reads_imm32 rfl
    | i64 v =>
      simp only [Imm.size]
      exact Row.reads_imm32 rfl
  case ctestRmImm scc dfv alt rm imm =>
    refine decode_evexCc hwf (i := (.ctestRmImm · · alt rm imm)) ?_ rest
    cases imm with
    | i8 v =>
      simp only [Imm.size]
      cases alt <;> exact Row.reads_imm8 rfl
    | i16 v =>
      simp only [Imm.size]
      cases alt <;> exact Row.reads_imm16 rfl
    | i32 v =>
      simp only [Imm.size]
      cases alt <;> exact Row.reads_imm32 rfl
    | i64 v =>
      simp only [Imm.size]
      cases alt <;> exact Row.reads_imm32 rfl
  -- REX2 without an immediate.
  case rex2AddRmR sz rm reg | rex2OrRmR sz rm reg | rex2AdcRmR sz rm reg | rex2SbbRmR sz rm reg | rex2AndRmR sz rm reg
      | rex2SubRmR sz rm reg | rex2XorRmR sz rm reg | rex2CmpRmR sz rm reg | rex2TestRmR sz rm reg
      | rex2MovRmR sz rm reg | rex2AddRRm sz reg rm | rex2OrRRm sz reg rm | rex2AdcRRm sz reg rm | rex2SbbRRm sz reg rm
      | rex2AndRRm sz reg rm | rex2SubRRm sz reg rm | rex2XorRRm sz reg rm | rex2CmpRRm sz reg rm
      | rex2MovRRm sz reg rm | rex2Movsxd sz reg rm | rex2ImulRRm sz reg rm | rex2ShldRmRCl sz rm reg
      | rex2ShrdRmRCl sz rm reg | rex2RolRmOne sz rm | rex2RorRmOne sz rm | rex2RclRmOne sz rm | rex2RcrRmOne sz rm
      | rex2ShrRmOne sz rm | rex2SarRmOne sz rm | rex2RolRmCl sz rm | rex2RorRmCl sz rm | rex2RclRmCl sz rm
      | rex2RcrRmCl sz rm | rex2ShrRmCl sz rm | rex2SarRmCl sz rm | rex2NotRm sz rm | rex2NegRm sz rm | rex2MulRm sz rm
      | rex2ImulRm sz rm | rex2DivRm sz rm | rex2IdivRm sz rm | rex2IncRm sz rm | rex2DecRm sz rm =>
    refine decode_rex2 hwf (by cases sz <;> rfl) (fun b => ?_) rest
    cases sz <;> exact Row.reads_imm0 _
  case rex2ShlRmOne alt sz rm | rex2ShlRmCl alt sz rm =>
    refine decode_rex2 hwf (by cases sz <;> rfl) (fun b => ?_) rest
    cases alt <;> cases sz <;> exact Row.reads_imm0 _
  case rex2Lea sz reg m =>
    refine decode_rex2 (rm := .mem m) hwf rfl (fun b => ?_) rest
    cases sz <;> exact Row.reads_imm0 _
  case rex2Movzx sz src reg rm | rex2Movsx sz src reg rm =>
    refine decode_rex2 hwf (by cases src <;> rfl) (fun b => ?_) rest
    cases sz <;> cases src <;> exact Row.reads_imm0 _
  case rex2PushRm rm | rex2PopRm rm =>
    refine decode_rex2 hwf rfl (fun b => ?_) rest
    exact Row.reads_imm0 _
  case rex2Cmov cc sz reg rm =>
    refine decode_rex2 hwf (by cases cc <;> rfl) (fun b => ?_) rest
    rw [rex2Row_cmov]
    cases sz <;> exact Row.reads_imm0 _
  case rex2Setcc cc rm =>
    refine decode_rex2 hwf (by cases cc <;> rfl) (fun b => ?_) rest
    rw [rex2Row_setcc]
    exact Row.reads_imm0 _
  -- REX2 with an immediate.
  case rex2AddRmI8 sz rm v | rex2OrRmI8 sz rm v | rex2AdcRmI8 sz rm v | rex2SbbRmI8 sz rm v | rex2AndRmI8 sz rm v
      | rex2SubRmI8 sz rm v | rex2XorRmI8 sz rm v | rex2CmpRmI8 sz rm v | rex2RolRmI8 sz rm v | rex2RorRmI8 sz rm v
      | rex2RclRmI8 sz rm v | rex2RcrRmI8 sz rm v | rex2ShrRmI8 sz rm v | rex2SarRmI8 sz rm v
      | rex2ImulRRmI8 sz reg rm v | rex2ShldRmRI8 sz rm reg v | rex2ShrdRmRI8 sz rm reg v =>
    refine decode_rex2 hwf (by cases sz <;> rfl) (fun b => ?_) rest
    cases sz <;> exact Row.reads_imm8 rfl
  case rex2ShlRmI8 alt sz rm v =>
    refine decode_rex2 hwf (by cases sz <;> rfl) (fun b => ?_) rest
    cases alt <;> cases sz <;> exact Row.reads_imm8 rfl
  case rex2AddRmImm rm imm | rex2OrRmImm rm imm | rex2AdcRmImm rm imm | rex2SbbRmImm rm imm | rex2AndRmImm rm imm
      | rex2SubRmImm rm imm | rex2XorRmImm rm imm | rex2CmpRmImm rm imm | rex2MovRmImm rm imm =>
    refine decode_rex2 hwf (by cases imm <;> rfl) (fun b => ?_) rest
    cases imm with
    | i8 v => exact Row.reads_imm8 rfl
    | i16 v => exact Row.reads_imm16 rfl
    | i32 v => exact Row.reads_imm32 rfl
    | i64 v => exact Row.reads_imm32 rfl
  case rex2TestRmImm alt rm imm =>
    refine decode_rex2 hwf (by cases imm <;> rfl) (fun b => ?_) rest
    cases imm with
    | i8 v => cases alt <;> exact Row.reads_imm8 rfl
    | i16 v => cases alt <;> exact Row.reads_imm16 rfl
    | i32 v => cases alt <;> exact Row.reads_imm32 rfl
    | i64 v => cases alt <;> exact Row.reads_imm32 rfl
  case rex2ImulRRmIz reg rm imm =>
    refine decode_rex2 hwf rfl (fun b => ?_) rest
    cases imm with
    | i16 v => exact Row.reads_imm16 rfl
    | i32 v => exact Row.reads_imm32 rfl
    | i64 v => exact Row.reads_imm32 rfl
  -- REX2 with a register in the opcode, and JMPABS.
  case rex2PushR b | rex2Pushp b | rex2PopR b | rex2Popp b =>
    refine decode_rex2Op (by decide) ?_ rest
    exact Row.reads_imm0 _
  case rex2MovRImm b imm =>
    refine decode_rex2Op (by cases imm <;> simp [MovImm.opcode]) ?_ rest
    cases imm with
    | b8 v =>
      simp only [MovImm.opcode, MovImm.p66, MovImm.w]
      exact Row.reads_imm8 rfl
    | w16 v =>
      simp only [MovImm.opcode, MovImm.p66, MovImm.w]
      exact Row.reads_imm16 rfl
    | d32 v =>
      simp only [MovImm.opcode, MovImm.p66, MovImm.w]
      exact Row.reads_imm32 rfl
    | q64 v =>
      simp only [MovImm.opcode, MovImm.p66, MovImm.w]
      exact Row.reads_imm64 rfl
  case jmpabs target =>
    exact decode_jmpabs rfl rfl target rest

/-- Settles O9, by `decode_encode`: one case for each form of encoding. -/
theorem decodeOfEncodeIsTheInstruction : Obligations.DecodeOfEncodeIsTheInstruction :=
  fun _ rest hwf => decode_encode hwf rest

end Sys2Proof
end

section
/-! O11 and O60. The encodings that raise #UD once their bytes are all there: what an EVEX row checks, said as what an
encoding that passes its row satisfies (30_encoding.md R118 to R170). -/
namespace Sys2Proof

/-! ### A row that passes its checks -/

/-- The row's checks did not find #UD. -/
def Sel.Passes (r : Sel) : Prop := r ≠ .error .ud

/-- `r` is what the row makes of some immediate. -/
def Row.Selects : Row → Sel → Prop
  | .imm0 r, r' => r' = r
  | .imm8 f, r' => ∃ v, r' = f v
  | .imm16 f, r' => ∃ v, r' = f v
  | .imm32 f, r' => ∃ v, r' = f v
  | .imm64 f, r' => ∃ v, r' = f v

/-- Some immediate of the row passes its checks; no check of an EVEX row reads the immediate. -/
def Row.Passes (row : Row) : Prop := ∃ r, row.Selects r ∧ r.Passes

@[simp] theorem Sel.passes_sel (ok : Bool) (i : Instr) : (sel ok i).Passes ↔ ok = true := by
  cases ok <;> simp [sel, Sel.Passes]

@[simp] theorem Sel.passes_unlisted (ok : Bool) : (unlisted ok).Passes ↔ ok = true := by
  cases ok <;> simp [unlisted, Sel.Passes]

@[simp] theorem Sel.passes_ite (c : Prop) [Decidable c] (a b : Sel) :
    (if c then a else b : Sel).Passes ↔ if c then a.Passes else b.Passes := by
  split <;> rfl

@[simp] theorem Sel.passes_onMem (rm : RM) (f : Mem → Sel) :
    (onMem rm f).Passes ↔ ∃ m, rm = .mem m ∧ (f m).Passes := by
  cases rm with
  | reg b => simp [onMem, Sel.Passes]
  | mem m => simp [onMem]

@[simp] theorem Sel.passes_onReg (rm : RM) (f : RegId → Sel) :
    (onReg rm f).Passes ↔ ∃ b, rm = .reg b ∧ (f b).Passes := by
  cases rm with
  | reg b => simp [onReg]
  | mem m => simp [onReg, Sel.Passes]

@[simp] theorem Sel.passes_onSib (rm : RM) (f : Mem → Sel) :
    (onSib rm f).Passes ↔ ∃ m, (rm = .mem m ∧ m.form.isSib = true) ∧ (f m).Passes := by
  cases rm with
  | reg b => simp [onSib, Sel.Passes]
  | mem m =>
    cases hsib : m.form.isSib with
    | true => simp [onSib, hsib]
    | false => simp [onSib, hsib, Sel.Passes]

theorem xmmReg_xmmId {i : RegId} (h : xmmOk i = true) : xmmReg (xmmId i) = i := by
  revert i; decide

@[simp] theorem Sel.passes_onXrm (rm : RM) (f : XRM → Sel) :
    (onXrm rm f).Passes ↔ ∃ x : XRM, rm = x.toRM ∧ (f x).Passes := by
  constructor
  · intro h
    cases rm with
    | reg b =>
      cases hok : xmmOk b with
      | true => exact ⟨.xmm (xmmId b), by rw [XRM.toRM, xmmReg_xmmId hok], by simpa [onXrm, hok] using h⟩
      | false => simp [onXrm, hok, Sel.Passes] at h
    | mem m => exact ⟨.mem m, rfl, h⟩
  · rintro ⟨x, rfl, h⟩
    rwa [onXrm_toRM]

@[simp] theorem Row.passes_imm0 (r : Sel) : (Row.imm0 r).Passes ↔ r.Passes := by
  simp [Row.Passes, Row.Selects]

@[simp] theorem Row.passes_imm8 (f : BitVec 8 → Sel) : (Row.imm8 f).Passes ↔ ∃ v, (f v).Passes := by
  simp [Row.Passes, Row.Selects]

@[simp] theorem Row.passes_izRow (sz : OSize) (ok : Bool) (f : ImmZ → Instr) :
    (izRow sz fun i => sel ok (f i)).Passes ↔ ok = true := by
  cases sz <;> simp [izRow, Row.Passes, Row.Selects, Sel.passes_sel]

@[simp] theorem Row.passes_ite (c : Prop) [Decidable c] (a b : Row) :
    (if c then a else b).Passes ↔ if c then a.Passes else b.Passes := by
  split <;> rfl

@[simp] theorem Row.not_passes_unassigned : ¬unassigned.Passes := by
  simp [unassigned, Sel.Passes, Row.passes_imm0]

/-! ### The guards of the EVEX rows, field by field -/

section
variable (h : EvexHead)

@[simp] theorem EvexHead.p2ok_iff : h.p2ok = true ↔ h.hi = 0#3 ∧ h.lo = 0#2 := by
  simp [EvexHead.p2ok]

@[simp] theorem EvexHead.ndd1_iff :
    h.ndd1 = true ↔ (h.hi = 0#3 ∧ h.lo = 0#2) ∧ (h.nd = true ∨ h.v = 0#5) := by
  simp [EvexHead.ndd1]

@[simp] theorem EvexHead.ndd0_iff :
    h.ndd0 = true ↔ ((h.hi = 0#3 ∧ h.lo = 0#2) ∧ (h.nd = true ∨ h.v = 0#5)) ∧ h.nf = false := by
  simp [EvexHead.ndd0]

@[simp] theorem EvexHead.one1_iff :
    h.one1 = true ↔ (h.hi = 0#3 ∧ h.lo = 0#2) ∧ h.nd = false ∧ h.v = 0#5 := by
  simp [EvexHead.one1, and_assoc]

@[simp] theorem EvexHead.one0_iff :
    h.one0 = true ↔ (h.hi = 0#3 ∧ h.lo = 0#2) ∧ h.nd = false ∧ h.v = 0#5 ∧ h.nf = false := by
  simp [EvexHead.one0, and_assoc]

@[simp] theorem EvexHead.zu1_iff : h.zu1 = true ↔ (h.hi = 0#3 ∧ h.lo = 0#2) ∧ h.v = 0#5 := by
  simp [EvexHead.zu1]

@[simp] theorem EvexHead.zu0_iff :
    h.zu0 = true ↔ (h.hi = 0#3 ∧ h.lo = 0#2) ∧ h.v = 0#5 ∧ h.nf = false := by
  simp [EvexHead.zu0, and_assoc]

@[simp] theorem EvexHead.vex1_iff : h.vex1 = true ↔ (h.hi = 0#3 ∧ h.lo = 0#2) ∧ h.nd = false := by
  simp [EvexHead.vex1]

@[simp] theorem EvexHead.vex0_iff :
    h.vex0 = true ↔ (h.hi = 0#3 ∧ h.lo = 0#2) ∧ h.nd = false ∧ h.nf = false := by
  simp [EvexHead.vex0, and_assoc]

@[simp] theorem EvexHead.nd10_iff :
    h.nd10 = true ↔ (h.hi = 0#3 ∧ h.lo = 0#2) ∧ h.nd = true ∧ h.nf = false := by
  simp [EvexHead.nd10, and_assoc]

@[simp] theorem EvexHead.nd11_iff :
    h.nd11 = true ↔ (h.hi = 0#3 ∧ h.lo = 0#2) ∧ h.nd = true ∧ h.nf = true := by
  simp [EvexHead.nd11, and_assoc]

@[simp] theorem EvexHead.nf01_iff :
    h.nf01 = true ↔ (h.hi = 0#3 ∧ h.lo = 0#2) ∧ h.nd = false ∧ h.v = 0#5 ∧ h.nf = true := by
  simp [EvexHead.nf01, and_assoc]

@[simp] theorem EvexHead.cc0_iff : h.cc0 = true ↔ h.hi = 0#3 ∧ h.nd = false := by
  simp [EvexHead.cc0]

end

/-! ### What the rows of map 4 check -/

/-- The map 4 opcodes in the CCMP/CTEST format, by ModRM.reg (30_encoding.md R147). -/
def ccForm (op digit : Nat) : Bool :=
  [0x38, 0x39, 0x3A, 0x3B, 0x84, 0x85].contains op ||
    [0x80, 0x81, 0x83].contains op && digit == 7 ||
    [0xF6, 0xF7].contains op && decide (digit < 2)

theorem ccFormat_eq (op modrm : Byte) :
    Machine.ccFormat op modrm = ccForm op.toNat (modrm.toNat / 8 % 8) := rfl

/-- The opcodes of map 4, for each pp (30_encoding.md R170). -/
def map4Opcodes : Nat → List Nat
  | 0 => [0x00, 0x01, 0x02, 0x03, 0x08, 0x09, 0x0A, 0x0B, 0x10, 0x11, 0x12, 0x13, 0x18, 0x19, 0x1A, 0x1B,
          0x20, 0x21, 0x22, 0x23, 0x24, 0x28, 0x29, 0x2A, 0x2B, 0x2C, 0x30, 0x31, 0x32, 0x33, 0x38, 0x39,
          0x3A, 0x3B, 0x40, 0x41, 0x42, 0x43, 0x44, 0x45, 0x46, 0x47, 0x48, 0x49, 0x4A, 0x4B, 0x4C, 0x4D,
          0x4E, 0x4F, 0x60, 0x61, 0x66, 0x69, 0x6B, 0x80, 0x81, 0x83, 0x84, 0x85, 0x88, 0x8F, 0xA5, 0xAD,
          0xAF, 0xC0, 0xC1, 0xD0, 0xD1, 0xD2, 0xD3, 0xD4, 0xD8, 0xD9, 0xDA, 0xDB, 0xDC, 0xDD, 0xF0, 0xF1,
          0xF4, 0xF5, 0xF6, 0xF7, 0xF9, 0xFE, 0xFF]
  | 1 => [0x01, 0x03, 0x09, 0x0B, 0x11, 0x13, 0x19, 0x1B, 0x21, 0x23, 0x24, 0x29, 0x2B, 0x2C, 0x31, 0x33,
          0x39, 0x3B, 0x40, 0x41, 0x42, 0x43, 0x44, 0x45, 0x46, 0x47, 0x48, 0x49, 0x4A, 0x4B, 0x4C, 0x4D,
          0x4E, 0x4F, 0x60, 0x61, 0x65, 0x66, 0x69, 0x6B, 0x81, 0x83, 0x85, 0x88, 0xA5, 0xAD, 0xAF, 0xC1,
          0xD1, 0xD3, 0xF1, 0xF4, 0xF5, 0xF7, 0xF8, 0xFF]
  | 2 => [0x66, 0xD8, 0xDA, 0xDB, 0xDC, 0xDD, 0xDE, 0xDF, 0xF0, 0xF1, 0xF2, 0xF8]
  | _ => [0x40, 0x41, 0x42, 0x43, 0x44, 0x45, 0x46, 0x47, 0x48, 0x49, 0x4A, 0x4B, 0x4C, 0x4D, 0x4E, 0x4F, 0xF8]

/-- The checks an instruction of map 4 has passed when it is not #UD (30_encoding.md R129 to R170). -/
structure Map4Checks (op pp digit : Nat) (h : EvexHead) (rm : RM) : Prop where
  opcode : op ∈ map4Opcodes pp
  reserved : ccForm op digit = false → h.hi = 0#3 ∧ h.lo = 0#2
  reservedCc : ccForm op digit = true → h.hi = 0#3 ∧ h.nd = false
  v : ccForm op digit = false → h.nd = true ∨ h.v = 0#5
  oneOperand :
    op ∈ [0x60, 0x61, 0x65, 0x88, 0xD4, 0xD8, 0xD9, 0xDA, 0xDB, 0xDC, 0xDD, 0xDE, 0xDF, 0xF0, 0xF1, 0xF2, 0xF4, 0xF5,
          0xF8, 0xF9] ∨
      (op = 0x66 ∧ pp = 0) ∨ (op ∈ [0xF6, 0xF7] ∧ 4 ≤ digit) →
    h.nd = false ∧ h.v = 0#5
  zu : op ∈ [0x69, 0x6B] ∨ (op / 16 = 4 ∧ pp = 3) → h.v = 0#5
  nf :
    op ∈ [0x10, 0x11, 0x12, 0x13, 0x18, 0x19, 0x1A, 0x1B, 0x60, 0x61, 0x65, 0x66, 0x8F, 0xD4, 0xD8, 0xD9, 0xDA, 0xDB,
          0xDC, 0xDD, 0xDE, 0xDF, 0xF0, 0xF1, 0xF2, 0xF8, 0xF9] ∨
      (op ∈ [0x80, 0x81, 0x83, 0xC0, 0xC1, 0xD0, 0xD1, 0xD2, 0xD3] ∧ digit ∈ [2, 3]) ∨
      (op ∈ [0xF6, 0xF7] ∧ digit = 2) ∨ (op = 0xFF ∧ digit = 6) ∨ (op / 16 = 4 ∧ pp = 3) →
    h.nf = false
  digits :
    ¬((op = 0x8F ∧ digit ≠ 0) ∨ (op = 0xFE ∧ 2 ≤ digit) ∨ (op = 0xFF ∧ digit ∈ [2, 3, 4, 5, 7]) ∨
      (op = 0xFF ∧ digit = 6 ∧ pp = 1) ∨ (op = 0xD8 ∧ pp = 2 ∧ 4 ≤ digit))
  mem :
    op ∈ [0x65, 0xF2, 0xF8, 0xF9] ∨ (op = 0x66 ∧ pp = 0) ∨
      (op ∈ [0xD8, 0xDC, 0xDD, 0xDE, 0xDF, 0xF0, 0xF1] ∧ pp = 2) →
    ∃ m, rm = .mem m
  reg : op = 0x8F ∨ (op = 0xFF ∧ digit = 6) ∨ (op ∈ [0xDA, 0xDB] ∧ pp = 2) → ∃ b, rm = .reg b
  xmmR :
    (op ∈ [0xD4, 0xD8, 0xD9, 0xDA, 0xDB, 0xDC, 0xDD] ∧ pp = 0) ∨ (op ∈ [0xDC, 0xDD, 0xDE, 0xDF] ∧ pp = 2) →
    xmmOk h.r = true
  xmmRm : op ∈ [0xD4, 0xD8, 0xD9, 0xDA, 0xDB, 0xDC, 0xDD] ∧ pp = 0 → ∃ x : XRM, rm = x.toRM

/-! The rows of a table are the branches of its `match`: in each one the opcode is a numeral, and the guard that passed
gives the checks that concern it. -/

/-- PUSH2 alone, among the opcodes NP and 66 share, looks at pp. -/
theorem map4Scalable_checks {op pp : Nat} {h : EvexHead} {rm : RM} (hpp : pp = 0 ∨ pp = 1)
    (hh : h.pp.toNat = pp) (hp : (map4Scalable op h rm).Passes) :
    Map4Checks op pp h.digit h rm := by
  have hdigit : h.digit < 8 := (low3 h.r).isLt
  unfold map4Scalable at hp
  generalize h.digit = digit at *
  split at hp
  any_goals split at hp
  all_goals simp at hp
  all_goals rcases hpp with rfl | rfl
  all_goals constructor
  all_goals simp +decide [hp, ccForm]
  case inr.digits => simp [hp.1] at hh
  all_goals grind

theorem map4NP_checks {op : Nat} {h : EvexHead} {rm : RM} (hpp : h.pp.toNat = 0) (hp : (map4NP op h rm).Passes) :
    Map4Checks op 0 h.digit h rm := by
  have hdigit : h.digit < 8 := (low3 h.r).isLt
  unfold map4NP at hp
  split at hp
  -- an opcode that is no row of the NP table is looked up among those NP and 66 share
  case h_35 => exact map4Scalable_checks (.inl rfl) hpp hp
  all_goals generalize h.digit = digit at *
  any_goals split at hp
  all_goals simp at hp
  all_goals constructor
  all_goals simp +decide [hp, ccForm]
  all_goals grind

theorem map466_checks {op : Nat} {h : EvexHead} {rm : RM} (hpp : h.pp.toNat = 1) (hp : (map466 op h rm).Passes) :
    Map4Checks op 1 h.digit h rm := by
  unfold map466 at hp
  split at hp
  case h_4 => exact map4Scalable_checks (.inr rfl) hpp hp
  all_goals simp at hp
  all_goals constructor
  all_goals simp +decide [hp, ccForm]

theorem map4F3_checks {op : Nat} {h : EvexHead} {rm : RM} (hp : (map4F3 op h rm).Passes) :
    Map4Checks op 2 h.digit h rm := by
  unfold map4F3 at hp
  generalize h.digit = digit at *
  split at hp
  any_goals split at hp
  all_goals simp at hp
  all_goals constructor
  all_goals simp +decide [hp, ccForm]

theorem map4F2_checks {op : Nat} {h : EvexHead} {rm : RM} (hp : (map4F2 op h rm).Passes) :
    Map4Checks op 3 h.digit h rm := by
  unfold map4F2 at hp
  split at hp
  all_goals simp at hp
  all_goals constructor
  all_goals simp +decide [hp, ccForm]

/-- CMOVcc and CFCMOVcc are 40 to 4F under NP and 66; of the checks, only those on P2 and V concern them. -/
theorem cmovRow_checks {op pp : Nat} {cc : Cond} {h : EvexHead} {rm : RM} (hop : op / 16 = 4) (hpp : pp = 0 ∨ pp = 1)
    (hp : (cmovRow cc h rm).Passes) : Map4Checks op pp h.digit h rm := by
  have hlist : op ∈ map4Opcodes 0 ∧ op ∈ map4Opcodes 1 := by
    have hlo : 64 ≤ op := by omega
    have hhi : op < 80 := by omega
    interval_cases op <;> decide
  have hfree : (h.hi = 0#3 ∧ h.lo = 0#2) ∧ (h.nd = true ∨ h.v = 0#5) := by
    unfold cmovRow at hp
    split at hp
    any_goals split at hp
    all_goals simp at hp
    all_goals simp [hp]
  constructor
  case opcode => rcases hpp with rfl | rfl <;> simp only [hlist]
  case reserved => exact fun _ => hfree.1
  case v => exact fun _ => hfree.2
  all_goals
    simp [ccForm]
    omega

/-- SETcc is 40 to 4F under F2, with V = 0 and NF = 0 (30_encoding.md R131). -/
theorem setccRow_checks {op : Nat} {cc : Cond} {h : EvexHead} {rm : RM} (hop : op / 16 = 4)
    (hp : (Row.imm0 (sel h.zu0 (.setcc cc rm h.nd))).Passes) : Map4Checks op 3 h.digit h rm := by
  simp at hp
  constructor
  case opcode =>
    have hlo : 64 ≤ op := by omega
    have hhi : op < 80 := by omega
    interval_cases op <;> decide
  all_goals simp [ccForm, hp]
  all_goals omega

theorem toNat_extractLsb'_4_4 (b : Byte) : (b.extractLsb' 4 4).toNat = b.toNat / 16 := by
  have := b.isLt
  simp only [BitVec.extractLsb'_toNat, Nat.shiftRight_eq_div_pow]
  omega

theorem extractLsb'_4_4_eq_iff (b : Byte) (n : Nat) (hn : n < 16) :
    b.extractLsb' 4 4 = BitVec.ofNat 4 n ↔ b.toNat / 16 = n := by
  rw [BitVec.toNat_eq, toNat_extractLsb'_4_4, BitVec.toNat_ofNat, Nat.mod_eq_of_lt hn]

/-- What an encoding of map 4 that is not #UD has passed. -/
theorem map4Row_checks {op : Byte} {h : EvexHead} {rm : RM} (hp : (map4Row op h rm).Passes) :
    Map4Checks op.toNat h.pp.toNat h.digit h rm := by
  have hpp := h.pp.isLt
  unfold map4Row at hp
  split at hp
  case isTrue hop =>
    have hop : op.toNat / 16 = 4 := (extractLsb'_4_4_eq_iff op 4 (by decide)).mp hop
    split at hp
    case h_1 => exact cmovRow_checks hop (by omega) hp
    case h_2 => exact cmovRow_checks hop (by omega) hp
    case h_3 => exact absurd hp Row.not_passes_unassigned
    case h_4 => rw [show h.pp.toNat = 3 by grind]; exact setccRow_checks hop hp
  case isFalse =>
    split at hp
    case h_1 heq => rw [heq]; exact map4NP_checks heq hp
    case h_2 heq => rw [heq]; exact map466_checks heq hp
    case h_3 heq => rw [heq]; exact map4F3_checks hp
    case h_4 => rw [show h.pp.toNat = 3 by grind]; exact map4F2_checks hp

/-! ### What the rows of maps 1 to 3 check -/

/-- The checks a promoted instruction has passed when it is not #UD (30_encoding.md R136 to R146, R170). -/
structure VexChecks (map op pp digit : Nat) (h : EvexHead) (rm : RM) : Prop where
  reserved : (h.hi = 0#3 ∧ h.lo = 0#2) ∧ h.nd = false
  noV : op ∈ [0x90, 0x91, 0x92, 0x93, 0x4B] ∨ (op = 0x49 ∧ digit = 0) ∨ (map = 3 ∧ op = 0xF0) →
    h.v = 0#5 ∧ h.nf = false
  nf : op / 16 = 14 ∨ (map = 2 ∧ (op = 0xF6 ∨ (op ∈ [0xF5, 0xF7] ∧ pp ≠ 0))) → h.nf = false
  pp : ¬(map = 1 ∧ (2 = pp ∨ (op ∈ [0x90, 0x91] ∧ 2 ≤ pp)) ∨
    map = 2 ∧ ((op = 0x49 ∧ 2 ≤ pp) ∨ (op = 0x4B ∧ pp = 0) ∨ (op / 16 = 14 ∧ pp ≠ 1) ∨
      (op ∈ [0xF2, 0xF3] ∧ pp ≠ 0) ∨ (op = 0xF5 ∧ pp = 1) ∨ (op = 0xF6 ∧ pp ≠ 3)) ∨
    map = 3 ∧ pp ≠ 3)
  mem : op = 0x91 ∨ op / 16 = 14 ∨ (op = 0x49 ∧ digit = 0) → ∃ m, rm = .mem m
  reg : op ∈ [0x92, 0x93] → ∃ b, rm = .reg b
  sib : op = 0x4B → ∃ m, rm = .mem m ∧ m.form.isSib = true

/-- What an encoding of maps 1 to 3 that is not #UD has passed. -/
theorem vexRow_checks {map : BitVec 3} {op : Byte} {h : EvexHead} {rm : RM} (hp : (vexRow map op h rm).Passes) :
    VexChecks map.toNat op.toNat h.pp.toNat h.digit h rm := by
  have hpp := h.pp.isLt
  unfold vexRow map1NP map166 map1F2 map2NP map266 map2F3 map2F2 map3F2 at hp
  generalize h.digit = digit at *
  split at hp
  -- map 2 with 66 looks for CMPccXADD, E0 to EF, before its table
  case h_5 hmap hpp =>
    rw [hmap, hpp]
    split at hp
    case isTrue hop =>
      have hop := (extractLsb'_4_4_eq_iff op 14 (by decide)).mp hop
      simp at hp
      constructor
      all_goals grind
    case isFalse =>
      generalize op.toNat = n at *
      split at hp
      any_goals split at hp
      all_goals simp at hp
      all_goals constructor
      all_goals simp +decide [hp]
      all_goals grind
  case h_9 => exact absurd hp Row.not_passes_unassigned
  all_goals
    rename_i hmap hpp
    rw [hmap, hpp]
    generalize op.toNat = n at *
    split at hp
  any_goals split at hp
  all_goals simp at hp
  all_goals constructor
  all_goals simp +decide [hp]
  all_goals grind

/-! ### An encoding with all its bytes -/

/-- The bytes of a row's immediate. -/
def Row.immLen : Row → Nat
  | .imm0 _ => 0
  | .imm8 _ => 1
  | .imm16 _ => 2
  | .imm32 _ => 4
  | .imm64 _ => 8

@[simp] theorem Row.immLen_imm0 (r : Sel) : (Row.imm0 r).immLen = 0 := rfl
@[simp] theorem Row.immLen_imm8 (f : BitVec 8 → Sel) : (Row.imm8 f).immLen = 1 := rfl
@[simp] theorem Row.immLen_unassigned : unassigned.immLen = 0 := rfl

theorem Row.immLen_izRow_le (sz : OSize) (f : ImmZ → Sel) : (izRow sz f).immLen ≤ 4 := by
  cases sz <;> simp [izRow, Row.immLen]

theorem map4Scalable_immLen_le (op : Nat) (h : EvexHead) (rm : RM) : (map4Scalable op h rm).immLen ≤ 4 := by
  unfold map4Scalable
  repeat' split
  all_goals simp [Row.immLen_izRow_le]

theorem map4Row_immLen_le (op : Byte) (h : EvexHead) (rm : RM) : (map4Row op h rm).immLen ≤ 4 := by
  unfold map4Row map4NP map466 map4F3 map4F2 cmovRow
  repeat' split
  all_goals simp [map4Scalable_immLen_le]

theorem vexRow_immLen_le (map : BitVec 3) (op : Byte) (h : EvexHead) (rm : RM) : (vexRow map op h rm).immLen ≤ 4 := by
  unfold vexRow map1NP map166 map1F2 map2NP map266 map2F3 map2F2 map3F2
  repeat' split
  all_goals simp

theorem evexRow_immLen_le (map : BitVec 3) (op : Byte) (h : EvexHead) (rm : RM) :
    (evexRow map op h rm).immLen ≤ 4 := by
  unfold evexRow
  split
  · exact map4Row_immLen_le op h rm
  · exact vexRow_immLen_le map op h rm

/-- With the bytes of its immediate there, a row goes on with an instruction it selects. -/
theorem Row.take_eq (row : Row) (k : Sel → List Byte → Decoded) {bs : List Byte} (h : row.immLen ≤ bs.length) :
    ∃ r rest, row.Selects r ∧ row.take k bs = k r rest := by
  match row, bs with
  | .imm0 r, bs => exact ⟨r, bs, rfl, rfl⟩
  | .imm8 f, a :: bs => exact ⟨f a, bs, ⟨a, rfl⟩, rfl⟩
  | .imm16 f, a :: b :: bs => exact ⟨_, bs, ⟨_, rfl⟩, rfl⟩
  | .imm32 f, a :: b :: c :: d :: bs => exact ⟨_, bs, ⟨_, rfl⟩, rfl⟩
  | .imm64 f, a :: b :: c :: d :: e :: f' :: g :: h' :: bs => exact ⟨_, bs, ⟨_, rfl⟩, rfl⟩

theorem takeDisp_isSome (mod : BitVec 2) {bs : List Byte} (h : 4 ≤ bs.length) :
    ∃ d rest, takeDisp mod bs = some (d, rest) ∧ bs.length ≤ rest.length + 4 := by
  match bs with
  | a :: b :: c :: d :: bs =>
    unfold takeDisp
    split
    · exact ⟨_, _, rfl, by simp⟩
    · exact ⟨_, _, rfl, by simp⟩
    · exact ⟨_, _, rfl, by simp⟩

theorem takeDisp32_isSome {bs : List Byte} (h : 4 ≤ bs.length) :
    ∃ d rest, takeDisp32 bs = some (d, rest) ∧ bs.length ≤ rest.length + 4 := by
  match bs with
  | a :: b :: c :: d :: bs => exact ⟨_, _, rfl, by simp⟩

/-- Five bytes are enough for a memory form, which has a SIB byte exactly when r/m is 100 (30_encoding.md R153). -/
theorem takeForm_isSome (x4 x3 b4 b3 : Bool) (mod : BitVec 2) (rm : BitVec 3) {bs : List Byte} (h : 5 ≤ bs.length) :
    ∃ f rest, takeForm x4 x3 b4 b3 mod rm bs = some (f, rest) ∧ bs.length ≤ rest.length + 5 ∧
      (f.isSib = true ↔ rm = 4) := by
  unfold takeForm
  by_cases hrm : rm = 4
  · match bs with
    | sib :: bs =>
      simp only [List.length_cons] at h
      obtain ⟨d, rest, hd, hlen⟩ := takeDisp_isSome mod (bs := bs) (by omega)
      obtain ⟨d32, rest32, hd32, hlen32⟩ := takeDisp32_isSome (bs := bs) (by omega)
      by_cases hbase : fieldLo sib = 5 ∧ mod = 0
      · exact ⟨_, rest32, by simp only [if_pos hrm, if_pos hbase, hd32]; rfl, by simp; omega,
          by simp [MemForm.isSib, hrm]⟩
      · exact ⟨_, rest, by simp only [if_pos hrm, if_neg hbase, hd]; rfl, by simp; omega,
          by simp [MemForm.isSib, hrm]⟩
  · obtain ⟨d, rest, hd, hlen⟩ := takeDisp_isSome mod (bs := bs) (by omega)
    obtain ⟨d32, rest32, hd32, hlen32⟩ := takeDisp32_isSome (bs := bs) (by omega)
    by_cases hrip : rm = 5 ∧ mod = 0
    · exact ⟨_, rest32, by simp only [if_neg hrm, if_pos hrip, hd32]; rfl, by omega,
        by simpa [MemForm.isSib] using hrm⟩
    · exact ⟨_, rest, by simp only [if_neg hrm, if_neg hrip, hd]; rfl, by omega,
        by simpa [MemForm.isSib] using hrm⟩

/-- The kind of r/m operand ModRM asks for: Mod, the extended id of a register, the SIB byte of a memory operand
(30_encoding.md R152, R153). -/
def RM.AsModrm (rm : RM) (modrm : Byte) (b4 b3 : Bool) : Prop :=
  if field2 modrm = 3 then rm = .reg (idOf b4 b3 (fieldLo modrm))
  else ∃ m, rm = .mem m ∧ (m.form.isSib = true ↔ fieldLo modrm = 4)

theorem takeRM_isSome (seg : Option Segment) (a32 x4 x3 b4 b3 : Bool) (modrm : Byte) {bs : List Byte}
    (h : 5 ≤ bs.length) : ∃ rm rest, takeRM seg a32 x4 x3 b4 b3 modrm bs = some (rm, rest) ∧
      bs.length ≤ rest.length + 5 ∧ rm.AsModrm modrm b4 b3 := by
  unfold takeRM RM.AsModrm
  by_cases hmod : field2 modrm = 3
  · simp only [if_pos hmod]
    exact ⟨_, _, rfl, by omega, rfl⟩
  · obtain ⟨f, rest, hf, hlen, hsib⟩ := takeForm_isSome x4 x3 b4 b3 (field2 modrm) (fieldLo modrm) h
    simp only [if_neg hmod, hf]
    exact ⟨_, _, rfl, hlen, _, rfl, hsib⟩

/-- With nine bytes behind ModRM, an EVEX instruction of map 4 or of a promoted opcode comes to what its row selects. -/
theorem decodeEvex_eq (p : Pre) {p0 p1 p2 op modrm : Byte} {bs : List Byte} (hbs : 9 ≤ bs.length)
    (hmap : (p0.extractLsb' 0 3 == 4 || promotedVex (p0.extractLsb' 0 3) op) = true) :
    ∃ rm r rest, rm.AsModrm modrm (p0.getLsbD 3) (!p0.getLsbD 5) ∧
      (evexRow (p0.extractLsb' 0 3) op (evexHead p0 p1 p2 modrm) rm).Selects r ∧
      decodeEvex p (p0 :: p1 :: p2 :: op :: modrm :: bs) = if p.evexOk then r.outcome rest else .ud := by
  obtain ⟨rm, rest, hrm, hlen, hmodrm⟩ := takeRM_isSome p.seg p.a32 (!p1.getLsbD 2) (!p0.getLsbD 6) (p0.getLsbD 3)
    (!p0.getLsbD 5) modrm (bs := bs) (by omega)
  have himm := evexRow_immLen_le (p0.extractLsb' 0 3) op (evexHead p0 p1 p2 modrm) rm
  obtain ⟨r, rest', hr, htake⟩ := Row.take_eq (evexRow (p0.extractLsb' 0 3) op (evexHead p0 p1 p2 modrm) rm)
    (fun r bs => if p.evexOk then r.outcome bs else .ud) (bs := rest) (by omega)
  exact ⟨rm, r, rest', hmodrm, hr, by simp only [decodeEvex, hmap, hrm, htake, reduceCtorEq, if_false]⟩

/-- A LOCK, 66, F2, F3 or REX before 62 raises #UD, whatever the fourteen bytes after it are (30_encoding.md R118). -/
theorem decodeEvex_of_not_evexOk {p : Pre} (hp : p.evexOk = false) {bs : List Byte} (h : 14 ≤ bs.length) :
    decodeEvex p bs = .ud := by
  match bs with
  | p0 :: p1 :: p2 :: op :: modrm :: bs =>
    cases hmap : (p0.extractLsb' 0 3 == 4 || promotedVex (p0.extractLsb' 0 3) op) with
    | true =>
      have hbs : 9 ≤ bs.length := by
        simp only [List.length_cons] at h
        omega
      obtain ⟨rm, r, rest, -, -, heq⟩ := decodeEvex_eq p (p1 := p1) (p2 := p2) (modrm := modrm) hbs hmap
      rw [heq, hp]
      rfl
    | false => simp only [decodeEvex, hmap, hp, if_true, Bool.false_eq_true, if_false]

theorem add_rex : ∀ b : Byte, b.toNat / 16 = 4 → Pre.empty.add b = some { Pre.empty with rex := true } := by
  decide

/-- Settles O11, by `decodeEvex_of_not_evexOk`: each of the bytes clears `evexOk`. -/
theorem forbiddenPrefixBeforeEvexIsUd : Obligations.ForbiddenPrefixBeforeEvexIsUd := by
  intro b bs hb hbs
  have hadd : ∃ q, Pre.empty.add b = some q ∧ q.evexOk = false := by
    rcases hb with rfl | rfl | rfl | rfl | ⟨hlo, hhi⟩
    · exact ⟨_, rfl, rfl⟩
    · exact ⟨_, rfl, rfl⟩
    · exact ⟨_, rfl, rfl⟩
    · exact ⟨_, rfl, rfl⟩
    · exact ⟨_, add_rex b (by omega), rfl⟩
  obtain ⟨q, hq, hok⟩ := hadd
  have hpre : takePre Pre.empty (b :: 0x62 :: bs) = (q, 0x62 :: bs) := by
    rw [takePre, hq]
    exact takePre_of_notPrefix rfl bs
  rw [decode_of_evex hpre, decodeEvex_of_not_evexOk hok hbs]

/-! ### The fields of EVEX and ModRM as numbers -/

theorem field2_eq_three_iff (b : Byte) : field2 b = 3 ↔ b.toNat / 64 = 3 := by
  revert b; decide

theorem fieldLo_eq_four_iff (b : Byte) : fieldLo b = 4 ↔ b.toNat % 8 = 4 := by
  revert b; decide

section
variable (p0 p1 p2 modrm : Byte)

theorem evexHead_pp : (evexHead p0 p1 p2 modrm).pp.toNat = p1.toNat % 4 := by
  simp [evexHead]

theorem evexHead_digit : (evexHead p0 p1 p2 modrm).digit = modrm.toNat / 8 % 8 := by
  have : ∀ (b4 b3 : Bool) (m : Byte), (low3 (idOf b4 b3 (fieldHi m))).toNat = m.toNat / 8 % 8 := by decide
  exact this _ _ modrm

theorem evexHead_hi : (evexHead p0 p1 p2 modrm).hi = 0#3 ↔ p2.toNat / 32 = 0 := by
  simp only [evexHead]
  revert p2; decide

theorem evexHead_lo : (evexHead p0 p1 p2 modrm).lo = 0#2 ↔ p2.toNat % 4 = 0 := by
  simp only [evexHead]
  revert p2; decide

theorem evexHead_v : (evexHead p0 p1 p2 modrm).v = 0#5 ↔ Machine.vIsZero p1 p2 = true := by
  have h1 : ∀ b : Byte, (~~~(b.extractLsb' 3 4) = 0#4) ↔ b.toNat / 8 % 16 = 15 := by decide
  have h2 : ∀ (a : Bool) (v : BitVec 4), BitVec.ofBool (!a) ++ v = 0#5 ↔ v = 0#4 ∧ a = true := by decide
  simp only [evexHead, h2, h1, Machine.vIsZero, Bool.and_eq_true, beq_iff_eq]

theorem evexHead_xmmOk : xmmOk (evexHead p0 p1 p2 modrm).r = p0.getLsbD 4 := by
  have : ∀ (b4 b3 : Bool) (l : BitVec 3), xmmOk (idOf (!b4) b3 l) = b4 := by decide
  exact this _ _ _

end

theorem toNat_extractLsb'_0_3 (b : Byte) : (b.extractLsb' 0 3).toNat = b.toNat % 8 := by
  simp

theorem promotedVex_of_promotedOpcode : ∀ (map : BitVec 3) (op : Byte),
    Machine.promotedOpcode map.toNat op.toNat = true → promotedVex map op = true := by
  decide

theorem RM.AsModrm.of_mem {m : Mem} {modrm : Byte} {b4 b3 : Bool} (h : RM.AsModrm (.mem m) modrm b4 b3) :
    modrm.toNat / 64 ≠ 3 ∧ (m.form.isSib = true ↔ modrm.toNat % 8 = 4) := by
  unfold RM.AsModrm at h
  simp only [field2_eq_three_iff, fieldLo_eq_four_iff] at h
  split at h
  · simp at h
  · obtain ⟨m', hm, hsib⟩ := h
    obtain rfl := RM.mem.inj hm
    exact ⟨‹_›, hsib⟩

theorem RM.AsModrm.of_reg {i : RegId} {modrm : Byte} {b4 b3 : Bool} (h : RM.AsModrm (.reg i) modrm b4 b3) :
    modrm.toNat / 64 = 3 ∧ i.getLsbD 4 = b4 := by
  unfold RM.AsModrm at h
  simp only [field2_eq_three_iff] at h
  split at h
  · have : ∀ (b4 b3 : Bool) (l : BitVec 3), (idOf b4 b3 l).getLsbD 4 = b4 := by decide
    exact ⟨‹_›, by rw [RM.reg.inj h, this]⟩
  · simp at h

theorem RM.AsModrm.of_xrm {x : XRM} {modrm : Byte} {b4 b3 : Bool} (h : RM.AsModrm x.toRM modrm b4 b3) :
    modrm.toNat / 64 = 3 → b4 = false := by
  cases x with
  | xmm i =>
    have : ∀ i : BitVec 4, (xmmReg i).getLsbD 4 = false := by decide
    intro _
    rw [← h.of_reg.2, this]
  | mem m => exact fun hmod => absurd hmod h.of_mem.1

/-! ### EVEX behind overrides -/

/-- The segment overrides and 67 may stand before EVEX (30_encoding.md R118). -/
theorem Pre.add_override {b : Byte}
    (hb : b.toNat ∈ [0x26, 0x2E, 0x36, 0x3E, 0x64, 0x65, 0x67]) (p : Pre) :
    ∃ q, p.add b = some q ∧ q.evexOk = p.evexOk := by
  simp only [List.mem_cons, List.not_mem_nil, or_false] at hb
  rcases hb with hb | hb | hb | hb | hb | hb | hb <;> simp [Pre.add, hb, Pre.evexOk]

section
variable {pre : List Byte} (hpre : ∀ b ∈ pre, b.toNat ∈ [0x26, 0x2E, 0x36, 0x3E, 0x64, 0x65, 0x67])

include hpre in
theorem takePre_overrides (p : Pre) (rest : List Byte) :
    ∃ q, takePre p (pre ++ 0x62 :: rest) = (q, 0x62 :: rest) ∧ q.evexOk = p.evexOk := by
  induction pre generalizing p with
  | nil => exact ⟨p, takePre_of_notPrefix rfl rest, rfl⟩
  | cons b pre ih =>
    obtain ⟨q, hadd, hq⟩ := Pre.add_override (hpre b (by simp)) p
    obtain ⟨q', htake, hq'⟩ := ih (fun c hc => hpre c (by simp [hc])) q
    exact ⟨q', by rw [List.cons_append, takePre, hadd]; exact htake, hq'.trans hq⟩

variable {p0 p1 p2 op modrm : Byte} {bs : List Byte} (hbs : 9 ≤ bs.length)
include hpre hbs

/-- An EVEX instruction that does not raise #UD has passed the checks of its row. -/
theorem evexRow_passes_of_ne_ud
    (hmap : (p0.extractLsb' 0 3 == 4 || promotedVex (p0.extractLsb' 0 3) op) = true)
    (hne : decode (Machine.evexBytes pre p0 p1 p2 op modrm bs) ≠ .ud) :
    ∃ rm : RM, rm.AsModrm modrm (p0.getLsbD 3) (!p0.getLsbD 5) ∧
      (evexRow (p0.extractLsb' 0 3) op (evexHead p0 p1 p2 modrm) rm).Passes := by
  obtain ⟨q, htake, hq⟩ := takePre_overrides hpre Pre.empty (p0 :: p1 :: p2 :: op :: modrm :: bs)
  obtain ⟨rm, r, rest, hmodrm, hr, heq⟩ := decodeEvex_eq q (p1 := p1) (p2 := p2) (modrm := modrm) hbs hmap
  refine ⟨rm, hmodrm, r, hr, ?_⟩
  rintro rfl
  rw [Machine.evexBytes, decode_of_evex htake, heq, hq] at hne
  exact hne rfl

theorem map4Checks_of_ne_ud (hmap : p0.toNat % 8 = 4)
    (hne : decode (Machine.evexBytes pre p0 p1 p2 op modrm bs) ≠ .ud) :
    ∃ rm : RM, rm.AsModrm modrm (p0.getLsbD 3) (!p0.getLsbD 5) ∧
      Map4Checks op.toNat (p1.toNat % 4) (modrm.toNat / 8 % 8) (evexHead p0 p1 p2 modrm) rm := by
  have hmap : p0.extractLsb' 0 3 = 4 := BitVec.eq_of_toNat_eq ((toNat_extractLsb'_0_3 p0).trans hmap)
  obtain ⟨rm, hrm, hp⟩ := evexRow_passes_of_ne_ud hpre hbs (by rw [hmap]; rfl) hne
  rw [evexRow, if_pos hmap] at hp
  have hchecks := map4Row_checks hp
  rw [evexHead_pp, evexHead_digit] at hchecks
  exact ⟨rm, hrm, hchecks⟩

theorem vexChecks_of_ne_ud (hprom : Machine.promotedOpcode (p0.toNat % 8) op.toNat = true)
    (hne : decode (Machine.evexBytes pre p0 p1 p2 op modrm bs) ≠ .ud) :
    ∃ rm : RM, rm.AsModrm modrm (p0.getLsbD 3) (!p0.getLsbD 5) ∧
      VexChecks (p0.toNat % 8) op.toNat (p1.toNat % 4) (modrm.toNat / 8 % 8) (evexHead p0 p1 p2 modrm) rm := by
  rw [← toNat_extractLsb'_0_3] at hprom ⊢
  obtain ⟨rm, hrm, hp⟩ := evexRow_passes_of_ne_ud hpre hbs
    (by rw [promotedVex_of_promotedOpcode _ _ hprom, Bool.or_true]) hne
  have hmap : p0.extractLsb' 0 3 ≠ 4 := by
    intro hmap
    simp [hmap, Machine.promotedOpcode] at hprom
  rw [evexRow, if_neg hmap] at hp
  have hchecks := vexRow_checks hp
  rw [evexHead_pp, evexHead_digit] at hchecks
  exact ⟨rm, hrm, hchecks⟩

end

/-- Settles O60, by the checks of an encoding that does not raise #UD: each ground for #UD contradicts one of them. -/
theorem reservedEvexEncodingsAreUd : Obligations.ReservedEvexEncodingsAreUd := by
  intro pre p0 p1 p2 op modrm bs hpre hbs
  have hhi := evexHead_hi p0 p1 p2 modrm
  have hlo := evexHead_lo p0 p1 p2 modrm
  have hv := evexHead_v p0 p1 p2 modrm
  have hr := evexHead_xmmOk p0 p1 p2 modrm
  have hnd : (evexHead p0 p1 p2 modrm).nd = p2.getLsbD 4 := rfl
  have hnf : (evexHead p0 p1 p2 modrm).nf = p2.getLsbD 2 := rfl
  have hcc := ccFormat_eq op modrm
  constructor
  · intro hmap
    by_cases hud : decode (Machine.evexBytes pre p0 p1 p2 op modrm bs) = .ud
    · simp only [hud, implies_true, and_self]
    obtain ⟨rm, hrm, hopcode, hreserved, hreservedCc, hvz, hone, hzu, hnfz, hdigits, hmem, hreg, hxmmR, hxmmRm⟩ :=
      map4Checks_of_ne_ud hpre hbs hmap hud
    simp only [hhi, hlo, hv, hr, hnd, hnf] at hreserved hreservedCc hvz hone hzu hnfz hxmmR
    have hlisted {k : Nat} (hpp : p1.toNat % 4 = k) : op.toNat ∈ map4Opcodes k := hpp ▸ hopcode
    refine ⟨?_, ?_, ?_, ?_, ?_, ?_, ?_, ?_, ?_, ?_, ?_, ?_, ?_, ?_⟩
    · intro hform hbits
      have := hreserved (hcc ▸ hform)
      omega
    · intro hform hbits
      have := hreservedCc (hcc ▸ hform)
      simp_all
    · intro hform hnd0 hv0
      have := hvz (hcc ▸ hform)
      simp_all
    · intro hop hbits
      have := hone hop
      simp_all
    · intro hop hbits
      have := hzu hop
      simp_all
    · intro hop hbits
      have := hnfz hop
      simp_all
    · exact fun hpp hop => absurd (hlisted hpp) hop
    · exact fun hpp hop => absurd (hlisted hpp) hop
    · exact fun hpp hop => absurd (hlisted hpp) hop
    · exact fun hpp hop => absurd (hlisted hpp) hop
    · exact fun hbad => absurd hbad hdigits
    · intro hmod hop
      obtain ⟨m, rfl⟩ := hmem hop
      exact absurd hmod hrm.of_mem.1
    · intro hmod hop
      obtain ⟨b, rfl⟩ := hreg hop
      exact absurd hrm.of_reg.1 hmod
    · intro hop hbits
      obtain hr4 | ⟨hmod, hb4⟩ := hbits
      · exact absurd (hr4.symm.trans (hxmmR hop)) (by decide)
      · obtain hop | ⟨hop, hpp⟩ := hop
        · obtain ⟨x, rfl⟩ := hxmmRm hop
          exact absurd (hb4.symm.trans (hrm.of_xrm hmod)) (by decide)
        · obtain ⟨m, rfl⟩ := hmem (.inr (.inr ⟨by simp at hop ⊢; omega, hpp⟩))
          exact absurd hmod hrm.of_mem.1
  · intro hprom
    by_cases hud : decode (Machine.evexBytes pre p0 p1 p2 op modrm bs) = .ud
    · simp only [hud, implies_true, and_self]
    obtain ⟨rm, hrm, hreserved, hnoV, hnfz, hpp, hmem, hreg, hsib⟩ := vexChecks_of_ne_ud hpre hbs hprom hud
    simp only [hhi, hlo, hv, hnd, hnf] at hreserved hnoV hnfz
    refine ⟨?_, ?_, ?_, ?_, ?_, ?_⟩
    · intro hbits
      simp_all
    · intro hop hbits
      have := hnoV hop
      simp_all
    · intro hop hbits
      have := hnfz hop
      simp_all
    · exact fun hbad => absurd hbad hpp
    · intro hmod hop
      have hisMem : ∃ m, rm = .mem m := by
        simp only [List.mem_cons, List.not_mem_nil, or_false] at hop
        obtain (hop | hop) | hop := hop
        · exact hmem (.inl hop)
        · exact (hsib hop).imp fun _ => And.left
        · exact hmem (.inr hop)
      obtain ⟨m, rfl⟩ := hisMem
      exact absurd hmod hrm.of_mem.1
    · intro hmod hop
      obtain hop | ⟨hop, hbase⟩ := hop
      · obtain ⟨b, rfl⟩ := hreg hop
        exact absurd hrm.of_reg.1 hmod
      · obtain ⟨m, rfl, hm⟩ := hsib hop
        exact absurd (hrm.of_mem.2.mp hm) hbase

end Sys2Proof
end

section
/-! O12. What REX2 may not follow or be followed by, JMPABS, and the moves to and from the control and debug registers
(30_encoding.md R105 to R112, 45_jmpabs_rex2.md R370, 10_state.md R42). -/
namespace Sys2Proof

theorem rex2Reserved0_of_row : ∀ op : Byte,
    (op.toNat / 16 = 4 ∨ op.toNat / 16 = 7 ∨ op.toNat / 16 = 10 ∨ op.toNat / 16 = 14) →
      rex2Reserved0 op = true := by
  decide

/-- A1 stands in the reserved row A and is none of the escape and legacy bytes. -/
theorem rex2Reserved0_of_leading : ∀ op : Byte,
    op.toNat ∈ [0x0F, 0x26, 0x2E, 0x36, 0x3E, 0x62, 0x64, 0x65, 0x66, 0x67, 0xC4, 0xC5, 0xD5, 0xF0, 0xF2, 0xF3] →
    op ≠ 0xA1 ∧ rex2Reserved0 op = true := by
  decide

theorem rex2Reserved1_of_row : ∀ op : Byte, (op.toNat / 16 = 3 ∨ op.toNat / 16 = 8) → rex2Reserved1 op = true := by
  decide

/-- Map 1 opcodes 20 to 23 are neither reserved, nor always #UD, nor in the subset (10_state.md R42). -/
theorem movSystemReg_opcode : ∀ op : Byte, op.toNat / 4 = 8 →
    (rex2Reserved1 op || alreadyUd1 Pre.empty op) = false ∧ rex2Modrm1 op = false ∧ rex2Group true op = false ∧
      isMovSystemReg op = true ∧ op.getLsbD 0 = decide (op.toNat % 2 = 1) := by
  decide

theorem idOf_fieldHi (b4 b3 : Bool) (modrm : Byte) :
    idOf b4 b3 (fieldHi modrm) = BitVec.ofNat 5 (16 * b4.toNat + 8 * b3.toNat + modrm.toNat / 8 % 8) := by
  revert b4 b3 modrm
  decide

theorem decode_rex2_eq (bs : List Byte) : decode (0xD5 :: bs) = decodeRex2Body Pre.empty bs :=
  decode_of_rex2 (takePre_of_notPrefix rfl _) rfl

theorem decode_rex2_reserved0 {pl op : Byte} (hm0 : pl.getLsbD 7 = false) (hA1 : op ≠ 0xA1)
    (hop : rex2Reserved0 op = true) (bs : List Byte) : decode (0xD5 :: pl :: op :: bs) = .ud := by
  simp only [decode_rex2_eq, decodeRex2Body, hm0, hA1, hop, and_false, Bool.true_or, Bool.false_eq_true, if_false,
    if_true]

theorem decode_rex2_reserved1 {pl op : Byte} (hm0 : pl.getLsbD 7 = true) (hop : rex2Reserved1 op = true)
    (bs : List Byte) : decode (0xD5 :: pl :: op :: bs) = .ud := by
  simp only [decode_rex2_eq, decodeRex2Body, hm0, hop, Bool.true_eq_false, false_and, Bool.true_or, if_false, if_true]

/-- JMPABS has no W (45_jmpabs_rex2.md R370). -/
theorem decode_jmpabs_w {pl : Byte} (hm0 : pl.getLsbD 7 = false) (hw : pl.getLsbD 3 = true) (bs : List Byte) :
    decode (0xD5 :: pl :: 0xA1 :: bs) = .ud := by
  simp only [decode_rex2_eq, decodeRex2Body, hm0, hw, and_self, decodeJmpabs, if_true]

/-- R4 and R3 of the payload count for control and debug registers (10_state.md R42). -/
theorem decode_movSystemReg {pl op : Byte} (hm0 : pl.getLsbD 7 = true) (hop : op.toNat / 4 = 8) (modrm : Byte)
    (bs : List Byte) :
    decode (0xD5 :: pl :: op :: modrm :: bs) = .refused (.movSystemReg (decide (op.toNat % 2 = 1))
      (BitVec.ofNat 5 (16 * (pl.getLsbD 6).toNat + 8 * (pl.getLsbD 2).toNat + modrm.toNat / 8 % 8))) := by
  obtain ⟨hud, hmodrm, hgroup, hsys, hbit⟩ := movSystemReg_opcode op hop
  simp only [decode_rex2_eq, decodeRex2Body, hm0, hud, hmodrm, hgroup, hsys, hbit, idOf_fieldHi, Bool.true_eq_false,
    false_and, Bool.false_eq_true, if_false, if_true]

/-- REX before REX2 turns every outcome but missing bytes into #UD (30_encoding.md R108, 60_exceptions.md R432). -/
theorem decode_rex_rex2 {rex : Byte} (hrex : rex.toNat / 16 = 4) (bs : List Byte) :
    decode (rex :: 0xD5 :: bs) = (decode (0xD5 :: bs)).orUd := by
  have hpre : takePre Pre.empty (rex :: 0xD5 :: bs) = ({ Pre.empty with rex := true }, 0xD5 :: bs) := by
    rw [takePre, add_rex rex hrex]
    exact takePre_of_notPrefix rfl bs
  rw [decode_rex2_eq, decode, hpre]
  rfl

theorem Decoded.orUd_of_ne_truncated {d : Decoded} (h : d ≠ .truncated) : d.orUd = .ud := by
  cases d with
  | truncated => exact absurd rfl h
  | _ => rfl

/-- Settles O12, by the branch of `decodeRex2Body` each clause comes to. -/
theorem rex2ReservedOpcodeRows : Obligations.Rex2ReservedOpcodeRows := by
  refine ⟨?_, ?_, ?_, ?_, ?_, ?_, ?_⟩
  · exact fun pl op bs hm0 hA1 hrow => decode_rex2_reserved0 hm0 hA1 (rex2Reserved0_of_row op hrow) bs
  · intro pl op bs hm0 hop
    obtain ⟨hA1, hres⟩ := rex2Reserved0_of_leading op hop
    exact decode_rex2_reserved0 hm0 hA1 hres bs
  · exact fun pl op bs hm0 hrow => decode_rex2_reserved1 hm0 (rex2Reserved1_of_row op hrow) bs
  · exact fun pl target bs hm0 hw => decode_jmpabs hm0 hw target bs
  · exact fun pl bs hm0 hw => decode_jmpabs_w hm0 hw bs
  · exact fun pl op modrm bs hm0 hop => decode_movSystemReg hm0 hop modrm bs
  · intro rex bs hrex
    rw [decode_rex_rex2 hrex]
    exact ⟨fun h => by rw [h]; rfl, Decoded.orUd_of_ne_truncated⟩

end Sys2Proof
end

section
/-! O10. The spec's example words: each is the encoding of its instruction, and the decoder reads an encoding back
(30_encoding.md sections 2 to 7). -/
namespace Sys2Proof

theorem decode_of_encode_eq {i : Instr} {bs : List Byte} (hwf : i.wf = true) (h : encode i = bs) :
    decode bs = .ok i [] := by
  rw [← h, ← List.append_nil (encode i)]
  exact decodeOfEncodeIsTheInstruction i [] hwf

/-- Settles O10, by O9: the words are the encodings of the instructions. -/
theorem decodedWordsOfTheSpec : Obligations.DecodedWordsOfTheSpec :=
  ⟨decode_of_encode_eq rfl rfl, decode_of_encode_eq rfl rfl, decode_of_encode_eq rfl rfl,
    decode_of_encode_eq rfl rfl, decode_of_encode_eq rfl rfl, decode_of_encode_eq rfl rfl⟩

end Sys2Proof
end

section
/-! O22. What the flags of sums, differences and logical operations say of the exact result (40_alu.md R181). The carry
in is one more summand, and a borrow is the carry of the sum that gives the minuend back. -/
namespace Sys2Proof.Machine

/-! ### SF, ZF and PF -/

/-- An even number of eight bits is 1 exactly when their exclusive or is 0. -/
theorem not_xor8_iff_countP_even (p : Nat → Bool) :
    (!(p 0 ^^ p 1 ^^ p 2 ^^ p 3 ^^ p 4 ^^ p 5 ^^ p 6 ^^ p 7)) = true ↔ (List.range 8).countP p % 2 = 0 := by
  rw [show List.range 8 = [0, 1, 2, 3, 4, 5, 6, 7] from rfl]
  simp only [List.countP_cons, List.countP_nil]
  generalize p 0 = b0, p 1 = b1, p 2 = b2, p 3 = b3, p 4 = b4, p 5 = b5, p 6 = b6, p 7 = b7
  revert b0 b1 b2 b3 b4 b5 b6 b7
  decide

theorem parity_iff {N : Nat} (r : BitVec N) :
    parity r = true ↔ ((List.range 8).countP fun i => r.getLsbD i) % 2 = 0 :=
  not_xor8_iff_countP_even fun i => r.getLsbD i

/-- Flags that hold the top bit, the comparison with 0 and the parity of a result tell of it. -/
theorem Flags.tellsOf_of_eq {N : Nat} {f : Flags} {r : BitVec N} (hsf : f.sf = r.msb) (hzf : f.zf = (r == 0))
    (hpf : f.pf = parity r) : f.tellsOf r := by
  refine ⟨?sf, ?zf, ?pf⟩
  case sf => rw [hsf, BitVec.msb_eq_toInt, decide_eq_true_iff]
  case zf => rw [hzf, beq_iff_eq]
  case pf => rw [hpf, parity_iff]

theorem addFlags_tellsOf {N : Nat} (a b : BitVec N) (c : Bool) : (addFlags a b c).tellsOf (addWith a b c) :=
  Flags.tellsOf_of_eq rfl rfl rfl

theorem subFlags_tellsOf {N : Nat} (a b : BitVec N) (c : Bool) : (subFlags a b c).tellsOf (subWith a b c) :=
  Flags.tellsOf_of_eq rfl rfl rfl

theorem logicFlags_tellsOf {N : Nat} (af : Bool) (r : BitVec N) : (logicFlags af r).tellsOf r :=
  Flags.tellsOf_of_eq rfl rfl rfl

/-! ### The sum with carry in -/

section
variable {N : Nat} (a b : BitVec N) (c : Bool)

theorem setWidth_ofBool : (BitVec.ofBool c).setWidth N = BitVec.ofNat N c.toNat := by
  rw [← BitVec.ofNat_toNat, BitVec.toNat_ofBool]

theorem addWith_false : addWith a b false = a + b := by
  rw [addWith, setWidth_ofBool, Bool.toNat_false, BitVec.add_zero]

theorem subWith_false : subWith a b false = a - b := by
  rw [subWith, setWidth_ofBool, Bool.toNat_false, BitVec.sub_zero]

theorem toNat_addWith : (addWith a b c).toNat = (a.toNat + b.toNat + c.toNat) % 2 ^ N := by
  simp only [addWith, setWidth_ofBool, BitVec.toNat_add, BitVec.toNat_ofNat, Nat.mod_add_mod, Nat.add_mod_mod]

theorem toInt_addWith : (addWith a b c).toInt = (a.toInt + b.toInt + c.toNat).bmod (2 ^ N) := by
  have h : addWith a b c = BitVec.ofInt N (a.toInt + b.toInt + c.toNat) := by
    simp only [addWith, setWidth_ofBool, BitVec.ofInt_add, BitVec.ofInt_toInt, BitVec.ofInt_natCast]
  rw [h, BitVec.toInt_ofInt]

theorem addFlags_cf_iff :
    (addFlags a b c).cf = true ↔ ((addWith a b c).toNat : Int) ≠ a.toNat + b.toNat + c.toNat := by
  rw [toNat_addWith]
  norm_cast
  rw [Nat.mod_eq_iff_lt (Nat.two_pow_pos N).ne', not_lt]
  exact decide_eq_true_iff

/-- The signed value of the sum is the exact one or 2^N off it, as the exact one is in a range of 2^(N+1) values. -/
theorem exists_toInt_addWith_eq :
    ∃ k : Int, (k = -1 ∨ k = 0 ∨ k = 1) ∧ (addWith a b c).toInt = a.toInt + b.toInt + c.toNat - 2 ^ N * k := by
  have hc : c.toNat ≤ 1 := c.toNat_le
  have ha := And.intro a.le_two_mul_toInt a.two_mul_toInt_lt
  have hb := And.intro b.le_two_mul_toInt b.two_mul_toInt_lt
  have hr := And.intro (addWith a b c).le_two_mul_toInt (addWith a b c).two_mul_toInt_lt
  obtain ⟨k, hk⟩ : ∃ k : Int, (addWith a b c).toInt = a.toInt + b.toInt + c.toNat - 2 ^ N * k :=
    ⟨_, by rw [toInt_addWith, Int.bmod_eq_self_sub_mul_bdiv]; norm_cast⟩
  have hlow : -2 < k := by nlinarith
  have hhigh : k < 2 := by nlinarith
  exact ⟨k, by omega, hk⟩

/-- Signed overflow: where the sum is 2^N off the exact one, its sign is not that of the two operands. -/
theorem addFlags_of_iff (hN : 0 < N) :
    (addFlags a b c).of = true ↔ (addWith a b c).toInt ≠ a.toInt + b.toInt + c.toNat := by
  have hof : (addFlags a b c).of = (a.msb == b.msb && (addWith a b c).msb != a.msb) := rfl
  have heven : (2 : Int) ∣ 2 ^ N := dvd_pow_self 2 hN.ne'
  have hc : c.toNat ≤ 1 := c.toNat_le
  have ha := And.intro a.le_two_mul_toInt a.two_mul_toInt_lt
  have hb := And.intro b.le_two_mul_toInt b.two_mul_toInt_lt
  have hr := And.intro (addWith a b c).le_two_mul_toInt (addWith a b c).two_mul_toInt_lt
  obtain ⟨k, hk, hsum⟩ := exists_toInt_addWith_eq a b c
  simp only [hof, BitVec.msb_eq_toInt, Bool.and_eq_true, beq_iff_eq, bne_iff_ne, ne_eq, decide_eq_decide]
  rcases hk with rfl | rfl | rfl <;> omega

/-! ### The difference with borrow in -/

theorem addWith_subWith : addWith (subWith a b c) b c = a := by
  simp only [addWith, subWith]
  ring

theorem subFlags_cf_iff :
    (subFlags a b c).cf = true ↔ ((subWith a b c).toNat : Int) ≠ a.toNat - b.toNat - c.toNat := by
  have hcf : (subFlags a b c).cf = true ↔ a.toNat < b.toNat + c.toNat := decide_eq_true_iff
  have hr := (subWith a b c).isLt
  have hsum := toNat_addWith (subWith a b c) b c
  rw [addWith_subWith] at hsum
  rw [hcf]
  rcases Nat.lt_or_ge ((subWith a b c).toNat + b.toNat + c.toNat) (2 ^ N) with hlt | hge
  · rw [Nat.mod_eq_of_lt hlt] at hsum
    omega
  · have hle := Nat.mod_le ((subWith a b c).toNat + b.toNat + c.toNat - 2 ^ N) (2 ^ N)
    rw [← Nat.mod_eq_sub_mod hge, ← hsum] at hle
    omega

/-- The difference overflows exactly when the sum that gives the minuend back does. -/
theorem subFlags_of_eq : (subFlags a b c).of = (addFlags (subWith a b c) b c).of := by
  have hmsb : ∀ x y z : Bool, (x != y && z != x) = (z == y && x != z) := by decide
  simp only [addFlags, subFlags, addWith_subWith]
  exact hmsb a.msb b.msb (subWith a b c).msb

theorem subFlags_of_iff (hN : 0 < N) :
    (subFlags a b c).of = true ↔ (subWith a b c).toInt ≠ a.toInt - b.toInt - c.toNat := by
  rw [subFlags_of_eq, addFlags_of_iff _ _ _ hN, addWith_subWith]
  omega

end

/-- Settles O22: CF and OF by the exact sum, for differences by the sum that gives the minuend back; SF, ZF and PF by
`Flags.tellsOf`. -/
theorem meaningOfAddAndSubtractFlags : Obligations.MeaningOfAddAndSubtractFlags := by
  intro N a b c hN
  obtain ⟨hAddSf, hAddZf, hAddPf⟩ := addFlags_tellsOf a b c
  obtain ⟨hSubSf, hSubZf, hSubPf⟩ := subFlags_tellsOf a b c
  exact ⟨addFlags_cf_iff a b c, addFlags_of_iff a b c hN, decide_eq_true_iff, hAddZf, hAddSf, hAddPf,
    subFlags_cf_iff a b c, subFlags_of_iff a b c hN, decide_eq_true_iff, hSubZf, hSubSf, hSubPf,
    fun r af => ⟨rfl, rfl, rfl, logicFlags_tellsOf af r⟩⟩

end Sys2Proof.Machine
end

section
/-! O33 and O36. With the gate open and the operands accessible, an operation of one or two operands goes on with its
result in the destination and its flags (40_alu.md R182). -/
namespace Sys2Proof.Machine

section
variable {s : State} {N : Nat} {d : Dst} {x y : Src} {nf : Bool}

theorem dstReg_ready {i : RegId} {ndd : Option RegId} : dstReady s N (dstReg i ndd) := of_eq_true dstReady_dstReg

/-- `binary_ok` read as a completion, for a result and flags that may be written otherwise. -/
theorem binary_completes {op : AluOp} {r : BitVec N} {f : Flags} (hs : s.apxEnabled = true) (hx : srcReady s N x)
    (hy : srcReady s N y) (hd : dstReady s N d) (hr : op.result s.flags.cf (srcValue s N x) (srcValue s N y) = r)
    (hf : op.flags s.flags.cf (s.anyFlag 0) (srcValue s N x) (srcValue s N y) = f) :
    finish (binary N op d x y nf s) = .next (resultState s N d r nf f) := by
  subst hr hf
  exact finish_next.2 ((binary_ok N op d x y nf).2 ⟨hs, hx, hy, hd, rfl⟩)

/-- `unary_ok` read as a completion, for a result and flags that may be written otherwise. -/
theorem unary_completes {op : UnOp} {r : BitVec N} {f : Flags} (hs : s.apxEnabled = true) (hx : srcReady s N x)
    (hd : dstReady s N d) (hr : op.result (srcValue s N x) = r) (hf : op.flags s.flags (srcValue s N x) = f) :
    finish (unary N op d x nf s) = .next (resultState s N d r nf f) := by
  subst hr hf
  exact finish_next.2 ((unary_ok N op d x nf).2 ⟨hs, hx, hd, rfl⟩)

theorem putDst_setFlags_self (v : BitVec N) : (putDst s N d v).setFlags s.flags = putDst s N d v := by
  cases d <;> rfl

/-- NOT writes no flag (40_alu.md R191). -/
theorem unaryNot_completes (hs : s.apxEnabled = true) (hx : srcReady s N x) (hd : dstReady s N d) :
    finish (unary N .not d x false s) = .next (putDst s N d (~~~(srcValue s N x))) :=
  (unary_completes hs hx hd rfl rfl).trans (congrArg Host.Outcome.next (putDst_setFlags_self _))

theorem addCarry_completes (hs : s.apxEnabled = true) (hadx : s.params.features.adx = true) (hx : srcReady s N x)
    (hy : srcReady s N y) (hd : dstReady s N d) :
    finish (addCarry N d x y s) =
      .next (resultState s N d (addWith (srcValue s N x) (srcValue s N y) s.flags.cf) false
        (s.flags.withCf (carryOut (srcValue s N x) (srcValue s N y) s.flags.cf))) :=
  finish_next.2 ((addCarry_ok N d x y).2 ⟨hs, hadx, hx, hy, hd, rfl⟩)

theorem addOverflow_completes (hs : s.apxEnabled = true) (hadx : s.params.features.adx = true) (hx : srcReady s N x)
    (hy : srcReady s N y) (hd : dstReady s N d) :
    finish (addOverflow N d x y s) =
      .next (resultState s N d (addWith (srcValue s N x) (srcValue s N y) s.flags.of) false
        (s.flags.withOf (carryOut (srcValue s N x) (srcValue s N y) s.flags.of))) :=
  finish_next.2 ((addOverflow_ok N d x y).2 ⟨hs, hadx, hx, hy, hd, rfl⟩)

end

/-- Settles O33, by `binary_completes`: the forms differ in which operand is r/m, the only one an access check is for.
The result of ADD and SUB is written without the carry in, and the AF of a logical operation is a free value. -/
theorem evexArithmeticAndLogic : Obligations.EvexArithmeticAndLogic := by
  refine ⟨?adcRmR, ?adcRRm, ?adcRmImm, ?adcRmI8, ?addRmR, ?addRRm, ?addRmImm, ?addRmI8, ?andRmR, ?andRRm, ?andRmImm,
    ?andRmI8, ?orRRm, ?orRmR, ?orRmImm, ?orRmI8, ?sbbRmR, ?sbbRRm, ?sbbRmImm, ?sbbRmI8, ?subRmR, ?subRRm, ?subRmImm,
    ?subRmI8, ?xorRmR, ?xorRRm, ?xorRmImm, ?xorRmI8⟩
  case adcRmR | adcRmImm | adcRmI8 | sbbRmR | sbbRmImm | sbbRmI8 =>
    intros; rename_i hs hrm hd
    exact binary_completes hs hrm trivial hd rfl rfl
  case adcRRm | sbbRRm =>
    intros; rename_i hs hrm
    exact binary_completes hs trivial hrm dstReg_ready rfl rfl
  case addRmR | addRmImm | addRmI8 =>
    intros; rename_i hs hrm hd
    exact binary_completes hs hrm trivial hd (addWith_false ..) rfl
  case addRRm =>
    intros; rename_i hs hrm
    exact binary_completes hs trivial hrm dstReg_ready (addWith_false ..) rfl
  case subRmR | subRmImm | subRmI8 =>
    intros; rename_i hs hrm hd
    exact binary_completes hs hrm trivial hd (subWith_false ..) rfl
  case subRRm =>
    intros; rename_i hs hrm
    exact binary_completes hs trivial hrm dstReg_ready (subWith_false ..) rfl
  case andRmR | andRmImm | andRmI8 | orRmR | orRmImm | orRmI8 | xorRmR | xorRmImm | xorRmI8 =>
    intros; rename_i hs hrm hd
    exact ⟨_, binary_completes hs hrm trivial hd rfl rfl⟩
  case andRRm | orRRm | xorRRm =>
    intros; rename_i hs hrm
    exact ⟨_, binary_completes hs trivial hrm dstReg_ready rfl rfl⟩

/-- Settles O36, by what each operation completes with. -/
theorem oneOperandAndCarryChains : Obligations.OneOperandAndCarryChains := by
  refine ⟨?adcx, ?adox, ?dec, ?inc, ?neg, ?not, ?rex2Not, ?rex2Neg, ?rex2Inc, ?rex2Dec⟩
  case adcx =>
    exact fun _ _ _ _ _ hs hadx hrm => addCarry_completes hs hadx trivial hrm dstReg_ready
  case adox =>
    exact fun _ _ _ _ _ hs hadx hrm => addOverflow_completes hs hadx trivial hrm dstReg_ready
  case inc | rex2Inc =>
    intros; rename_i hs hrm hd
    exact unary_completes hs hrm hd (addWith_false ..) rfl
  case dec | neg | rex2Dec | rex2Neg =>
    intros; rename_i hs hrm hd
    exact unary_completes hs hrm hd (subWith_false ..) rfl
  case not | rex2Not =>
    intros; rename_i hs hrm hd
    exact unaryNot_completes hs hrm hd

end Sys2Proof.Machine
end

section
/-! O23, O24, O37 and O39. The results and flags of shifts, rotates and double shifts by bit position
(41_shift_rotate.md), and that each form goes on with them. -/
namespace Sys2Proof.Machine

/-! ### Rotation by bit position -/

section
variable {N : Nat} (x : BitVec N) (r : Nat) {i : Nat}

/-- The bits below the count are those that came round. -/
theorem getLsbD_rotateLeft_eq_mod (hi : i < N) : (x.rotateLeft r).getLsbD i = x.getLsbD ((i + (N - r % N)) % N) := by
  have hr : r % N < N := Nat.mod_lt r (by omega)
  rw [BitVec.getLsbD_rotateLeft]
  by_cases h : i < r % N
  · rw [Nat.mod_eq_of_lt (by omega : i + (N - r % N) < N), Nat.add_comm i]
    simp [h]
  · rw [show i + (N - r % N) = i - r % N + N by omega, Nat.add_mod_right,
      Nat.mod_eq_of_lt (by omega : i - r % N < N)]
    simp [h, hi]

/-- The bits above N less the count are those that came round. -/
theorem getLsbD_rotateRight_eq_mod (hi : i < N) : (x.rotateRight r).getLsbD i = x.getLsbD ((i + r) % N) := by
  have hr : r % N < N := Nat.mod_lt r (by omega)
  rw [BitVec.getLsbD_rotateRight, Nat.add_mod, Nat.mod_eq_of_lt hi]
  by_cases h : i < N - r % N
  · rw [Nat.mod_eq_of_lt (by omega : i + r % N < N), Nat.add_comm i]
    simp [h]
  · rw [show i + r % N = i - (N - r % N) + N by omega, Nat.add_mod_right,
      Nat.mod_eq_of_lt (by omega : i - (N - r % N) < N)]
    simp [h, hi]

end

/-! ### Results of SHL, SHR, SAR, ROL and ROR -/

section
variable {N : Nat} (cf : Bool) (a : BitVec N) (c : Nat) {i : Nat}

theorem toNat_result_shl : (ShiftOp.result .shl cf a c).toNat = a.toNat * 2 ^ c % 2 ^ N := by
  rw [ShiftOp.result, BitVec.toNat_shiftLeft, Nat.shiftLeft_eq]

theorem toNat_result_shr : (ShiftOp.result .shr cf a c).toNat = a.toNat / 2 ^ c := by
  rw [ShiftOp.result, BitVec.toNat_ushiftRight, Nat.shiftRight_eq_div_pow]

theorem toInt_result_sar : (ShiftOp.result .sar cf a c).toInt = a.toInt / (2 ^ c : Int) := by
  rw [ShiftOp.result, BitVec.toInt_sshiftRight, Int.shiftRight_eq_div_pow]
  norm_cast

theorem getLsbD_result_rol (hi : i < N) :
    (ShiftOp.result .rol cf a c).getLsbD i = a.getLsbD ((i + (N - c % N)) % N) := by
  rw [ShiftOp.result, getLsbD_rotateLeft_eq_mod _ _ hi, Nat.mod_mod]

theorem getLsbD_result_ror (hi : i < N) : (ShiftOp.result .ror cf a c).getLsbD i = a.getLsbD ((i + c) % N) := by
  rw [ShiftOp.result, getLsbD_rotateRight_eq_mod _ _ hi, Nat.add_mod_mod]

end

/-! ### Flags of SHL, SHR, SAR, ROL and ROR -/

section
variable {N c : Nat} (op : ShiftOp) (old : Flags) (any : Nat → Bool) (a : BitVec N)

theorem shiftFlags_zero : shiftFlags op old any a 0 = old := if_pos rfl

theorem shiftFlags_of_ne_zero (hc : c ≠ 0) : shiftFlags op old any a c = op.flags old any a c := if_neg hc

theorem shiftFlags_shl (hc : c ≠ 0) :
    (c ≤ N → (shiftFlags .shl old any a c).cf = a.getLsbD (N - c)) ∧
    (c = 1 → 0 < N → (shiftFlags .shl old any a c).of = ((a <<< c).msb ^^ a.msb)) ∧
    (shiftFlags .shl old any a c).tellsOf (a <<< c) := by
  rw [shiftFlags_of_ne_zero _ _ _ _ hc]
  refine ⟨fun hle => if_pos hle, ?of, Flags.tellsOf_of_eq rfl rfl rfl⟩
  rintro rfl hN
  have hle : 1 ≤ N := hN
  simp [ShiftOp.flags, ShiftOp.result, Flags.setSZP, hle, BitVec.msb_eq_getLsbD_last a]

theorem shiftFlags_shr (hc : c ≠ 0) :
    (c ≤ N → (shiftFlags .shr old any a c).cf = a.getLsbD (c - 1)) ∧
    (c = 1 → (shiftFlags .shr old any a c).of = a.msb) ∧
    (shiftFlags .shr old any a c).tellsOf (a >>> c) := by
  rw [shiftFlags_of_ne_zero _ _ _ _ hc]
  exact ⟨fun hle => if_pos hle, fun h1 => if_pos h1, Flags.tellsOf_of_eq rfl rfl rfl⟩

theorem shiftFlags_sar (hc : c ≠ 0) :
    (shiftFlags .sar old any a c).cf = (if c ≤ N then a.getLsbD (c - 1) else a.msb) ∧
    (c = 1 → (shiftFlags .sar old any a c).of = false) ∧
    (shiftFlags .sar old any a c).tellsOf (a.sshiftRight c) := by
  rw [shiftFlags_of_ne_zero _ _ _ _ hc]
  exact ⟨rfl, fun h1 => if_pos h1, Flags.tellsOf_of_eq rfl rfl rfl⟩

/-- The carry is the lowest bit of the result, the last one to come round. -/
theorem shiftFlags_rol_cf (hN : 0 < N) (hc : c ≠ 0) :
    (shiftFlags .rol old any a c).cf = a.getLsbD ((N - c % N) % N) := by
  rw [shiftFlags_of_ne_zero _ _ _ _ hc]
  exact (getLsbD_result_rol old.cf a c hN).trans (by rw [Nat.zero_add])

/-- The carry is the highest bit of the result, the last one to come round. -/
theorem shiftFlags_ror_cf (hN : 0 < N) (hc : c ≠ 0) :
    (shiftFlags .ror old any a c).cf = a.getLsbD ((N - 1 + c) % N) := by
  rw [shiftFlags_of_ne_zero _ _ _ _ hc]
  exact (BitVec.msb_eq_getLsbD_last _).trans (getLsbD_result_ror old.cf a c (Nat.sub_lt hN Nat.one_pos))

/-- A rotation left by 1 brings the top bit round to the bottom. -/
theorem shiftFlags_rol_of (hN : 0 < N) :
    (shiftFlags .rol old any a 1).of = ((a.rotateLeft (1 % N)).msb ^^ a.msb) := by
  have hof : (shiftFlags .rol old any a 1).of =
      ((a.rotateLeft (1 % N)).msb ^^ (ShiftOp.result .rol old.cf a 1).getLsbD 0) := rfl
  have hplace : (0 + (N - 1 % N)) % N = N - 1 := by
    rcases Nat.lt_or_ge 1 N with h | h
    · rw [Nat.mod_eq_of_lt h, Nat.zero_add, Nat.mod_eq_of_lt (Nat.sub_lt hN Nat.one_pos)]
    · rw [show N = 1 by omega]
  rw [hof, getLsbD_result_rol _ _ _ hN, hplace, BitVec.msb_eq_getLsbD_last a]

/-- A rotation right by 1 brings the bottom bit round to the top, and moves the top bit to the place below it. -/
theorem shiftFlags_ror_of (hN : 2 ≤ N) : (shiftFlags .ror old any a 1).of = (a.getLsbD 0 ^^ a.msb) := by
  have hof : (shiftFlags .ror old any a 1).of =
      ((ShiftOp.result .ror old.cf a 1).msb ^^ (ShiftOp.result .ror old.cf a 1).getLsbD (N - 2)) := rfl
  rw [hof, BitVec.msb_eq_getLsbD_last, BitVec.msb_eq_getLsbD_last, getLsbD_result_ror _ _ _ (by omega),
    getLsbD_result_ror _ _ _ (by omega), Nat.sub_add_cancel (by omega), Nat.mod_self,
    show N - 2 + 1 = N - 1 by omega, Nat.mod_eq_of_lt (by omega)]

/-- The rotates write CF and OF only, and no flag when the count is 0. -/
theorem shiftFlags_keepsSzap (hop : op = .rcl ∨ op = .rcr ∨ op = .rol ∨ op = .ror) :
    (shiftFlags op old any a c).keepsSzap old := by
  by_cases hc : c = 0
  · subst hc
    rw [shiftFlags_zero]
    exact ⟨rfl, rfl, rfl, rfl⟩
  · rw [shiftFlags_of_ne_zero _ _ _ _ hc]
    rcases hop with rfl | rfl | rfl | rfl <;> exact ⟨rfl, rfl, rfl, rfl⟩

end

/-- Settles O23: the results as numbers or by bit position, and the flags from the bits of the result. -/
theorem meaningOfShiftsAndRotates : Obligations.MeaningOfShiftsAndRotates := by
  intro N a c cf old any hN
  refine ⟨toNat_result_shl cf a c, toNat_result_shr cf a c, toInt_result_sar cf a c,
    fun i hi => ⟨getLsbD_result_rol cf a c hi, getLsbD_result_ror cf a c hi⟩,
    fun op => shiftFlags_zero op old any a, fun hc => ?flags⟩
  obtain ⟨hShlCf, hShlOf, hShl⟩ := shiftFlags_shl old any a hc
  obtain ⟨hShrCf, hShrOf, hShr⟩ := shiftFlags_shr old any a hc
  obtain ⟨hSarCf, hSarOf, hSar⟩ := shiftFlags_sar old any a hc
  refine ⟨hShlCf, fun h1 => hShlOf h1 hN, hShl, hShrCf, hShrOf, hShr, hSarCf, hSarOf, hSar,
    shiftFlags_rol_cf old any a hN hc, ?rolOf, shiftFlags_keepsSzap _ old any a (by simp),
    shiftFlags_ror_cf old any a hN hc, ?rorOf, shiftFlags_keepsSzap _ old any a (by simp)⟩
  case rolOf =>
    rintro rfl
    exact shiftFlags_rol_of old any a hN
  case rorOf =>
    rintro rfl h2
    exact shiftFlags_ror_of old any a h2

/-! ### RCL and RCR: rotation of CF and the operand -/

section
variable {N c : Nat}

/-- A masked count is reduced modulo N + 1 for 8 and 16 bits and already below N + 1 for 32 and 64
(41_shift_rotate.md R221). -/
theorem carryCount_eq_mod (hN : N = 8 ∨ N = 16 ∨ N = 32 ∨ N = 64) (hc : c < if N = 64 then 64 else 32) :
    carryCount N c = c % (N + 1) := by
  rcases hN with rfl | rfl | rfl | rfl
  case inl | inr.inl => rfl
  case inr.inr.inl | inr.inr.inr => exact (Nat.mod_eq_of_lt (Nat.lt_succ_of_lt hc)).symm

variable (left cf : Bool) (a : BitVec N) {i : Nat}

theorem rotateCarry_mod : rotateCarry left cf a (c % (N + 1)) = rotateCarry left cf a c := by
  cases left
  case false => exact BitVec.rotateRight_mod_eq_rotateRight
  case true => exact BitVec.rotateLeft_mod_eq_rotateLeft

theorem getLsbD_rotateCarry_left (hi : i < N + 1) :
    (rotateCarry true cf a c).getLsbD i = (BitVec.cons cf a).getLsbD ((i + (N + 1 - c % (N + 1))) % (N + 1)) :=
  getLsbD_rotateLeft_eq_mod (BitVec.cons cf a) c hi

theorem getLsbD_rotateCarry_right (hi : i < N + 1) :
    (rotateCarry false cf a c).getLsbD i = (BitVec.cons cf a).getLsbD ((i + c) % (N + 1)) :=
  getLsbD_rotateRight_eq_mod (BitVec.cons cf a) c hi

theorem rotateCarry_zero : rotateCarry left cf a 0 = BitVec.cons cf a := by
  refine BitVec.eq_of_getLsbD_eq fun i hi => ?_
  cases left
  case false => rw [getLsbD_rotateCarry_right _ _ hi, Nat.add_zero i, Nat.mod_eq_of_lt hi]
  case true => rw [getLsbD_rotateCarry_left _ _ hi, Nat.zero_mod, Nat.sub_zero, Nat.add_mod_right, Nat.mod_eq_of_lt hi]

/-- The new CF of RCL and RCR is place N of the rotation; a count of 0 is no exception to that. -/
theorem ite_rotateCarry_msb :
    (if c = 0 then cf else (rotateCarry left cf a c).msb) = (rotateCarry left cf a c).getLsbD N := by
  split
  case isTrue h => rw [h, rotateCarry_zero, BitVec.getLsbD_cons, if_pos rfl]
  case isFalse => exact BitVec.msb_eq_getLsbD_last _

end

section
variable {N c : Nat} (old : Flags) (any : Nat → Bool) (a : BitVec N) {i : Nat}

theorem getLsbD_result_rcl (hk : carryCount N c = c % (N + 1)) (hi : i < N) :
    (ShiftOp.result .rcl old.cf a c).getLsbD i =
      (BitVec.cons old.cf a).getLsbD ((i + (N + 1 - c % (N + 1))) % (N + 1)) := by
  rw [ShiftOp.result, hk, rotateCarry_mod, BitVec.getLsbD_setWidth, decide_eq_true hi, Bool.true_and,
    getLsbD_rotateCarry_left _ _ (by omega)]

theorem getLsbD_result_rcr (hk : carryCount N c = c % (N + 1)) (hi : i < N) :
    (ShiftOp.result .rcr old.cf a c).getLsbD i = (BitVec.cons old.cf a).getLsbD ((i + c) % (N + 1)) := by
  rw [ShiftOp.result, hk, rotateCarry_mod, BitVec.getLsbD_setWidth, decide_eq_true hi, Bool.true_and,
    getLsbD_rotateCarry_right _ _ (by omega)]

theorem shiftFlags_rcl_cf (hk : carryCount N c = c % (N + 1)) (hc : c ≠ 0) :
    (shiftFlags .rcl old any a c).cf =
      (BitVec.cons old.cf a).getLsbD ((N + (N + 1 - c % (N + 1))) % (N + 1)) := by
  rw [shiftFlags_of_ne_zero _ _ _ _ hc]
  refine (ite_rotateCarry_msb true old.cf a).trans ?_
  rw [hk, rotateCarry_mod, getLsbD_rotateCarry_left _ _ (Nat.lt_succ_self N)]

theorem shiftFlags_rcr_cf (hk : carryCount N c = c % (N + 1)) (hc : c ≠ 0) :
    (shiftFlags .rcr old any a c).cf = (BitVec.cons old.cf a).getLsbD ((N + c) % (N + 1)) := by
  rw [shiftFlags_of_ne_zero _ _ _ _ hc]
  refine (ite_rotateCarry_msb false old.cf a).trans ?_
  rw [hk, rotateCarry_mod, getLsbD_rotateCarry_right _ _ (Nat.lt_succ_self N)]

theorem shiftFlags_rcl_of :
    (shiftFlags .rcl old any a 1).of =
      ((ShiftOp.result .rcl old.cf a 1).msb ^^ (shiftFlags .rcl old any a 1).cf) := rfl

theorem shiftFlags_rcr_of : (shiftFlags .rcr old any a 1).of = (a.msb ^^ old.cf) := rfl

theorem carryCount_zero : carryCount N 0 = 0 := by simp [carryCount]

theorem result_rcl_zero (cf : Bool) : ShiftOp.result .rcl cf a 0 = a := by
  rw [ShiftOp.result, carryCount_zero, rotateCarry_zero, BitVec.setWidth_cons]

theorem result_rcr_zero (cf : Bool) : ShiftOp.result .rcr cf a 0 = a := by
  rw [ShiftOp.result, carryCount_zero, rotateCarry_zero, BitVec.setWidth_cons]

end

/-- Settles O24: with the count reduced modulo N + 1, RCL and RCR are rotations of the N + 1 bits CF:a. -/
theorem meaningOfRotatesThroughCarry : Obligations.MeaningOfRotatesThroughCarry := by
  intro N a c old any hN hlt hc
  have hk : carryCount N c = c % (N + 1) := carryCount_eq_mod hN hlt
  refine ⟨fun i hi => getLsbD_result_rcl old a hk hi, shiftFlags_rcl_cf old any a hk hc, ?rclOf,
    fun i hi => getLsbD_result_rcr old a hk hi, shiftFlags_rcr_cf old any a hk hc, ?rcrOf,
    shiftFlags_keepsSzap _ old any a (by simp), shiftFlags_keepsSzap _ old any a (by simp),
    shiftFlags_zero _ old any a, shiftFlags_zero _ old any a, result_rcl_zero a old.cf, result_rcr_zero a old.cf⟩
  case rclOf =>
    rintro rfl
    exact shiftFlags_rcl_of old any a
  case rcrOf =>
    rintro rfl
    exact shiftFlags_rcr_of old any a

/-! ### Double shifts -/

section
variable {N c : Nat} (left : Bool) (old : Flags) (any : Nat → Bool) (w : Word) (a b : BitVec N) {i : Nat}

theorem doubleResult_zero : doubleResult left w a b 0 = a := if_pos rfl

theorem doubleFlags_zero : doubleFlags left old any w a b 0 = old := if_pos rfl

theorem doubleResult_of_le (hc : c ≠ 0) (hle : c ≤ N) :
    doubleResult left w a b c = if left then (a <<< c) ||| (b >>> (N - c)) else (a >>> c) ||| (b <<< (N - c)) := by
  rw [doubleResult, if_neg hc, if_neg (Nat.not_lt.2 hle)]

theorem doubleResult_of_gt (h : N < c) : doubleResult left w a b c = w.setWidth N := by
  rw [doubleResult, if_neg (Nat.ne_zero_of_lt h), if_pos h]

theorem doubleFlags_of_gt (h : N < c) :
    doubleFlags left old any w a b c = ⟨any 0, any 1, any 2, any 3, any 4, any 5⟩ := by
  rw [doubleFlags, if_neg (Nat.ne_zero_of_lt h), if_pos h]

/-- SHLD: the low places come from the top of the second operand, whose other bits fall below place 0. -/
theorem getLsbD_doubleResult_left (hc : c ≠ 0) (hle : c ≤ N) (hi : i < N) :
    (doubleResult true w a b c).getLsbD i = if i < c then b.getLsbD (N - c + i) else a.getLsbD (i - c) := by
  rw [doubleResult_of_le true w a b hc hle, if_pos rfl, BitVec.getLsbD_or, BitVec.getLsbD_shiftLeft,
    BitVec.getLsbD_ushiftRight]
  split
  case isTrue h => simp [h]
  case isFalse h => simp [h, hi, BitVec.getLsbD_of_ge b (N - c + i) (by omega)]

/-- SHRD: the high places come from the bottom of the second operand, which is shifted above the first one's bits. -/
theorem getLsbD_doubleResult_right (hc : c ≠ 0) (hle : c ≤ N) (hi : i < N) :
    (doubleResult false w a b c).getLsbD i =
      if i + c < N then a.getLsbD (i + c) else b.getLsbD (i + c - N) := by
  rw [doubleResult_of_le false w a b hc hle, if_neg Bool.false_ne_true, BitVec.getLsbD_or, BitVec.getLsbD_shiftLeft,
    BitVec.getLsbD_ushiftRight, Nat.add_comm c i]
  split
  case isTrue h => simp [show i < N - c by omega]
  case isFalse h =>
    simp [BitVec.getLsbD_of_ge a (i + c) (by omega), hi, show ¬ i < N - c by omega,
      show i - (N - c) = i + c - N by omega]

theorem doubleFlags_of_le (hc : c ≠ 0) (hle : c ≤ N) :
    (doubleFlags left old any w a b c).cf = (if left then a.getLsbD (N - c) else a.getLsbD (c - 1)) ∧
    (c = 1 → (doubleFlags left old any w a b c).of = ((doubleResult left w a b c).msb ^^ a.msb)) ∧
    (doubleFlags left old any w a b c).tellsOf (doubleResult left w a b c) := by
  rw [doubleFlags, if_neg hc, if_neg (Nat.not_lt.2 hle)]
  exact ⟨rfl, fun h1 => if_pos h1, Flags.tellsOf_of_eq rfl rfl rfl⟩

end

/-! ### Each form goes on -/

section
variable {s : State} {N : Nat} {d : Dst} {x y : Src} {count : Count} {nf : Bool}

/-- `shift_ok` read as a completion. -/
theorem shift_completes {op : ShiftOp} (hs : s.apxEnabled = true) (hx : srcReady s N x) (hd : dstReady s N d) :
    finish (shift N op d x count nf s) =
      .next (resultState s N d (op.result s.flags.cf (srcValue s N x) (maskedCount N (count.raw s))) nf
        (shiftFlags op s.flags s.anyFlag (srcValue s N x) (maskedCount N (count.raw s)))) :=
  finish_next.2 ((shift_ok N op d x count nf).2 ⟨hs, hx, hd, rfl⟩)

/-- `doubleShift_ok` read as a completion. -/
theorem doubleShift_completes {left : Bool} (hs : s.apxEnabled = true) (hx : srcReady s N x) (hy : srcReady s N y)
    (hd : dstReady s N d) :
    finish (doubleShift N left d x y count nf s) =
      .next (resultState s N d
        (doubleResult left (Config.freeWord s.free 0) (srcValue s N x) (srcValue s N y)
          (maskedCount N (count.raw s))) nf
        (doubleFlags left s.flags s.anyFlag (Config.freeWord s.free 0) (srcValue s N x) (srcValue s N y)
          (maskedCount N (count.raw s)))) :=
  finish_next.2 ((doubleShift_ok N left d x y count nf).2 ⟨hs, hx, hy, hd, rfl⟩)

end

/-- Settles O37: the forms differ in the operation, in where the count comes from and in the destination, and
`shift_completes` is about all of them. -/
theorem evexShiftsAndRotates : Obligations.EvexShiftsAndRotates := by
  refine ⟨?rclI8, ?rclOne, ?rclCl, ?rcrI8, ?rcrOne, ?rcrCl, ?rolI8, ?rolOne, ?rolCl, ?rorI8, ?rorOne, ?rorCl,
    ?sarI8, ?sarOne, ?sarCl, ?shlI8, ?shlOne, ?shlCl, ?shrI8, ?shrOne, ?shrCl⟩
  case rclI8 | rcrI8 | rolI8 | rorI8 | sarI8 | shlI8 | shrI8 | rclOne | rcrOne | rolOne | rorOne | sarOne | shlOne
    | shrOne | rclCl | rcrCl | rolCl | rorCl | sarCl | shlCl | shrCl =>
    intros; rename_i hs hrm hd
    exact ⟨_, shift_completes hs hrm hd⟩

/-- Settles O39: each form by `doubleShift_completes`, and the results and flags by the masked count being 0, from 1 to
N, or above N. -/
theorem doubleShifts : Obligations.DoubleShifts := by
  refine ⟨?shldI8, ?shldCl, ?shrdI8, ?shrdCl, ?rex2ShldI8, ?rex2ShldCl, ?rex2ShrdI8, ?rex2ShrdCl, ?meaning⟩
  case shldI8 | shldCl | shrdI8 | shrdCl | rex2ShldI8 | rex2ShldCl | rex2ShrdI8 | rex2ShrdCl =>
    intros; rename_i hs hrm hd
    exact ⟨_, _, doubleShift_completes hs hrm trivial hd⟩
  case meaning =>
    intro N a b c w old any left _
    refine ⟨doubleResult_zero left w a b, doubleFlags_zero left old any w a b, fun hc hle => ?inRange,
      fun hgt => ⟨doubleResult_of_gt left w a b hgt, doubleFlags_of_gt left old any w a b hgt⟩⟩
    obtain ⟨hShldCf, -, -⟩ := doubleFlags_of_le true old any w a b hc hle
    obtain ⟨hShrdCf, -, -⟩ := doubleFlags_of_le false old any w a b hc hle
    obtain ⟨-, hOf, hTells⟩ := doubleFlags_of_le left old any w a b hc hle
    exact ⟨fun i hi => getLsbD_doubleResult_left w a b hc hle hi,
      fun i hi => getLsbD_doubleResult_right w a b hc hle hi, hShldCf, hShrdCf, hOf, hTells⟩

end Sys2Proof.Machine
end

section
/-! O26, O27, O40 and O41. The halves of an exact product, the quotient and remainder of a division, and that each
multiply and divide goes on with them (42_muldiv_misc.md, 43_promoted_vex.md R303). -/
namespace Sys2Proof.Machine

/-- An integer is the signed value of its low N bits exactly when it fits them. -/
theorem toInt_ofInt_eq_self_iff {N : Nat} (hN : 0 < N) {x : Int} :
    (BitVec.ofInt N x).toInt = x ↔ -(2 ^ (N - 1) : Int) ≤ x ∧ x < (2 ^ (N - 1) : Int) := by
  constructor
  · intro h
    rw [← h]
    exact ⟨BitVec.le_toInt _, BitVec.toInt_lt⟩
  · exact fun ⟨hlow, hhigh⟩ => BitVec.toInt_ofInt_eq_self hN hlow hhigh

/-- A natural number is the value of its low N bits exactly when it fits them. -/
theorem toNat_ofNat_eq_self_iff {N x : Nat} : (BitVec.ofNat N x).toNat = x ↔ x < 2 ^ N := by
  rw [BitVec.toNat_ofNat, Nat.mod_eq_iff_lt (Nat.two_pow_pos N).ne']

/-! ### Exact products -/

section
variable {N : Nat} (a b : BitVec N) (sg : Bool)

theorem product_unsigned : product false a b = ((a.toNat * b.toNat : Nat) : Int) := rfl

theorem product_signed : product true a b = a.toInt * b.toInt := rfl

theorem setWidth_ofInt {M : Nat} (h : N ≤ M) (x : Int) : (BitVec.ofInt M x).setWidth N = BitVec.ofInt N x := by
  have hpow : (((2 ^ N : Nat) : Int)) ∣ ((2 ^ M : Nat) : Int) := Int.natCast_dvd_natCast.2 (Nat.pow_dvd_pow 2 h)
  apply BitVec.eq_of_toNat_eq
  rw [BitVec.toNat_setWidth, BitVec.toNat_ofInt, BitVec.toNat_ofInt, ← Int.emod_emod_of_dvd x hpow,
    Int.toNat_emod (Int.emod_nonneg _ (by positivity)) (by positivity), Int.toNat_natCast]

/-- The halves are the upper and the lower N bits of the product in 2N bits. -/
theorem productHigh_append_productLow :
    productHigh sg a b ++ productLow sg a b = BitVec.ofInt (N + N) (product sg a b) := by
  have hhigh : productHigh sg a b = (BitVec.ofInt (N + N) (product sg a b)).extractLsb' N N := by
    rw [productHigh, Nat.two_mul]
    exact BitVec.eq_of_toNat_eq (by rw [BitVec.toNat_setWidth, BitVec.toNat_ushiftRight, BitVec.extractLsb'_toNat])
  have hlow : productLow sg a b = (BitVec.ofInt (N + N) (product sg a b)).extractLsb' 0 N := by
    rw [← BitVec.setWidth_eq_extractLsb' (Nat.le_add_left N N), setWidth_ofInt (Nat.le_add_left N N), productLow]
  rw [hhigh, hlow, BitVec.extractLsb'_append_extractLsb']

theorem toNat_product_halves :
    (productHigh false a b).toNat * 2 ^ N + (productLow false a b).toNat = a.toNat * b.toNat := by
  have hlt : a.toNat * b.toNat < 2 ^ (N + N) := by
    rw [pow_add]
    exact Nat.mul_lt_mul'' a.isLt b.isLt
  have happend := congrArg BitVec.toNat (productHigh_append_productLow a b false)
  rw [product_unsigned, BitVec.ofInt_natCast, toNat_ofNat_eq_self_iff.2 hlt, BitVec.toNat_append,
    ← Nat.shiftLeft_add_eq_or_of_lt (productLow false a b).isLt, Nat.shiftLeft_eq] at happend
  exact happend

theorem toInt_product_halves (hN : 0 < N) :
    (productHigh true a b).toInt * 2 ^ N + ((productLow true a b).toNat : Int) = a.toInt * b.toInt := by
  have hfits : (BitVec.ofInt (N + N) (a.toInt * b.toInt)).toInt = a.toInt * b.toInt := by
    rw [toInt_ofInt_eq_self_iff (by omega)]
    have hpow : (2 : Int) ^ (N * 2 - 2) < 2 ^ (N + N - 1) := pow_lt_pow_right₀ (by norm_num) (by omega)
    have hlow := BitVec.le_toInt_mul_toInt (x := a) (y := b)
    have hhigh := BitVec.toInt_mul_toInt_le (x := a) (y := b)
    omega
  have happend := congrArg BitVec.toInt (productHigh_append_productLow a b true)
  rw [product_signed, hfits, BitVec.toInt_append, if_neg (by simp [hN.ne'])] at happend
  rw [← happend, Int.mul_comm]

/-- The upper half of the unsigned product is 0 exactly when the lower half holds the product. -/
theorem wideOverflow_unsigned_iff : wideOverflow false a b = true ↔ 2 ^ N ≤ a.toNat * b.toNat := by
  have hlow := (productLow false a b).isLt
  have hne : wideOverflow false a b = true ↔ productHigh false a b ≠ 0#N := bne_iff_ne
  rw [hne, ← toNat_product_halves a b]
  constructor
  · intro h
    exact (Nat.le_mul_of_pos_left _ (BitVec.toNat_pos_of_ne_zero h)).trans (Nat.le_add_right _ _)
  · intro h hzero
    rw [hzero, BitVec.toNat_zero, Nat.zero_mul, Nat.zero_add] at h
    exact absurd hlow (Nat.not_lt.2 h)

theorem mul_eq_ofInt : a * b = BitVec.ofInt N (a.toInt * b.toInt) := by
  rw [BitVec.ofInt_mul, BitVec.ofInt_toInt, BitVec.ofInt_toInt]

/-- IMUL overflows exactly when the signed product is outside the range of N bits. -/
theorem wideOverflow_signed_iff (hN : 0 < N) :
    wideOverflow true a b = true ↔
      a.toInt * b.toInt < -(2 ^ (N - 1) : Int) ∨ (2 ^ (N - 1) : Int) ≤ a.toInt * b.toInt := by
  have hne : wideOverflow true a b = true ↔ (a * b).toInt ≠ a.toInt * b.toInt := bne_iff_ne
  rw [hne, mul_eq_ofInt, ne_eq, toInt_ofInt_eq_self_iff hN]
  omega

end

/-- Settles O27: the two halves are the product in 2N bits, in which it always fits. -/
theorem meaningOfMultiplication : Obligations.MeaningOfMultiplication := fun _ a b hN =>
  ⟨toNat_product_halves a b, toInt_product_halves a b hN, wideOverflow_unsigned_iff a b,
    wideOverflow_signed_iff a b hN, mul_eq_ofInt a b⟩

/-! ### Quotient and remainder -/

/-- Division that rounds toward zero gives the one quotient and remainder whose remainder is smaller than the divisor
and has the sign of the dividend. -/
theorem tdiv_tmod_iff {n d q r : Int} (hd : d ≠ 0) :
    n.tdiv d = q ∧ n.tmod d = r ↔ n = q * d + r ∧ r.natAbs < d.natAbs ∧ (r = 0 ∨ (r < 0 ↔ n < 0)) := by
  rw [mul_comm q d]
  rcases le_or_gt 0 n with hn | hn
  · rw [Int.tdiv_tmod_unique hn hd]
    omega
  · rw [Int.tdiv_tmod_unique' hn.le hd]
    omega

section
variable {N : Nat} (n : BitVec (2 * N)) (d q r : BitVec N)

theorem divide_zero (sg : Bool) : divide sg n (0 : BitVec N) = none := if_pos rfl

theorem divide_unsigned (hd : d ≠ 0) :
    divide false n d =
      if 2 ^ N ≤ n.toNat / d.toNat then none
      else some (BitVec.ofNat N (n.toNat / d.toNat), BitVec.ofNat N (n.toNat % d.toNat)) := if_neg hd

theorem divide_signed (hd : d ≠ 0) :
    divide true n d =
      if n.toInt.tdiv d.toInt < -(2 ^ (N - 1) : Int) ∨ (2 ^ (N - 1) : Int) - 1 < n.toInt.tdiv d.toInt then none
      else some (BitVec.ofInt N (n.toInt.tdiv d.toInt), BitVec.ofInt N (n.toInt.tmod d.toInt)) := if_neg hd

theorem toInt_ne_zero_of_ne_zero (hd : d ≠ 0) : d.toInt ≠ 0 := by
  rw [ne_eq, ← BitVec.toInt_zero (w := N), BitVec.toInt_inj]
  exact hd

theorem ofNat_eq_iff {x : Nat} (hx : x < 2 ^ N) : BitVec.ofNat N x = q ↔ x = q.toNat := by
  rw [← BitVec.toNat_inj, toNat_ofNat_eq_self_iff.2 hx]

theorem ofInt_eq_iff (hN : 0 < N) {x : Int} (hlow : -(2 ^ (N - 1) : Int) ≤ x) (hhigh : x < (2 ^ (N - 1) : Int)) :
    BitVec.ofInt N x = q ↔ x = q.toInt := by
  rw [← BitVec.toInt_inj, BitVec.toInt_ofInt_eq_self hN hlow hhigh]

/-- The quotient of N bits is the whole quotient; the remainder always fits, as it is below the divisor. -/
theorem divide_unsigned_eq_some_iff (hd : d ≠ 0) :
    divide false n d = some (q, r) ↔ n.toNat / d.toNat = q.toNat ∧ n.toNat % d.toNat = r.toNat := by
  have hr : n.toNat % d.toNat < 2 ^ N := (Nat.mod_lt _ (BitVec.toNat_pos_of_ne_zero hd)).trans d.isLt
  rw [divide_unsigned n d hd]
  split
  case isTrue h => exact ⟨nofun, fun ⟨hq, _⟩ => absurd q.isLt (Nat.not_lt.2 (hq ▸ h))⟩
  case isFalse h =>
    rw [Option.some.injEq, Prod.mk.injEq, ofNat_eq_iff q (Nat.lt_of_not_le h), ofNat_eq_iff r hr]

theorem divide_signed_eq_some_iff (hN : 0 < N) (hd : d ≠ 0) :
    divide true n d = some (q, r) ↔ n.toInt.tdiv d.toInt = q.toInt ∧ n.toInt.tmod d.toInt = r.toInt := by
  have hq := And.intro q.le_toInt (BitVec.toInt_lt (x := q))
  have hdiv := And.intro d.le_toInt (BitVec.toInt_lt (x := d))
  have hr : (n.toInt.tmod d.toInt).natAbs < d.toInt.natAbs := by
    rw [Int.natAbs_tmod]
    exact Nat.mod_lt _ (Int.natAbs_pos.2 (toInt_ne_zero_of_ne_zero d hd))
  rw [divide_signed n d hd]
  split
  case isTrue h => exact ⟨nofun, fun ⟨hquot, _⟩ => by omega⟩
  case isFalse h =>
    rw [Option.some.injEq, Prod.mk.injEq, ofInt_eq_iff q hN (by omega) (by omega),
      ofInt_eq_iff r hN (by omega) (by omega)]

theorem divide_unsigned_eq_none (h : d = 0 ∨ 2 ^ N ≤ n.toNat / d.toNat) : divide false n d = none := by
  by_cases hd : d = 0
  · rw [hd, divide_zero]
  · rw [divide_unsigned n d hd, if_pos (h.resolve_left hd)]

theorem divide_signed_eq_none
    (h : d = 0 ∨ n.toInt.tdiv d.toInt < -(2 ^ (N - 1) : Int) ∨ (2 ^ (N - 1) : Int) ≤ n.toInt.tdiv d.toInt) :
    divide true n d = none := by
  by_cases hd : d = 0
  · rw [hd, divide_zero]
  · rw [divide_signed n d hd, if_pos ((h.resolve_left hd).imp_right (by omega))]

end

/-- Settles O26: quotient and remainder of N bits are the exact ones, and these are characterised by their sum and the
size and sign of the remainder. -/
theorem meaningOfDivision : Obligations.MeaningOfDivision := by
  intro N n d q r hN
  by_cases hd : d = 0
  · subst hd
    simp only [divide_zero, reduceCtorEq, ne_eq, not_true_eq_false, false_and, and_self]
  · simp only [ne_eq, hd, not_false_eq_true, true_and]
    constructor
    · rw [divide_unsigned_eq_some_iff n d q r hd, Nat.div_mod_unique (BitVec.toNat_pos_of_ne_zero hd), Nat.mul_comm,
        Nat.add_comm, eq_comm]
    · rw [divide_signed_eq_some_iff n d q r hN hd, tdiv_tmod_iff (toInt_ne_zero_of_ne_zero d hd)]

/-! ### Each form goes on, or raises #DE -/

section
variable {s : State} {N : Nat} {d : Dst} {x y : Src} {sg nf : Bool}

/-- `imulTo_ok` read as a completion. -/
theorem imulTo_completes (hs : s.apxEnabled = true) (hx : srcReady s N x) (hy : srcReady s N y)
    (hd : dstReady s N d) :
    finish (imulTo N d x y nf s) =
      .next (resultState s N d (srcValue s N x * srcValue s N y) nf
        (mulFlags s.anyFlag (imulOverflow (srcValue s N x) (srcValue s N y)))) :=
  finish_next.2 ((imulTo_ok N d x y nf).2 ⟨hs, hx, hy, hd, rfl⟩)

/-- `mulWide_ok` read as a completion. -/
theorem mulWide_completes (hs : s.apxEnabled = true) (hx : srcReady s N x) :
    finish (mulWide N sg x nf s) =
      .next ((writeWide N s (productLow sg (s.readGpr N 0) (srcValue s N x))
        (productHigh sg (s.readGpr N 0) (srcValue s N x))).setFlagsUnless nf
          (mulFlags s.anyFlag (wideOverflow sg (s.readGpr N 0) (srcValue s N x)))) :=
  finish_next.2 ((mulWide_ok N sg x nf).2 ⟨hs, hx, rfl⟩)

/-- `mulx_ok` read as a completion. -/
theorem mulx_completes {hi lo : RegId} (hs : s.apxEnabled = true) (hf : s.params.features.bmi2 = true)
    (hx : srcReady s N x) :
    finish (mulx N hi lo x s) =
      .next ((s.writeGpr N lo (productLow false (s.readGpr N 2) (srcValue s N x)) false).writeGpr N hi
        (productHigh false (s.readGpr N 2) (srcValue s N x)) false) :=
  finish_next.2 ((mulx_ok N hi lo x).2 ⟨hs, hf, hx, rfl⟩)

/-- `divWide_ok` read as a completion. -/
theorem divWide_completes {q r : BitVec N} (hs : s.apxEnabled = true) (hx : srcReady s N x)
    (h : divide sg (dividend N s) (srcValue s N x) = some (q, r)) :
    finish (divWide N sg x nf s) = .next ((writeWide N s q r).setFlagsUnless nf s.anyFlags) :=
  finish_next.2 ((divWide_ok N sg x nf).2 ⟨hs, hx, q, r, h, rfl⟩)

/-- Where there is no quotient, #DE comes after the read of the source (42_muldiv_misc.md R253, R254). -/
theorem divWide_raises (hs : s.apxEnabled = true) (hx : srcReady s N x)
    (h : divide sg (dividend N s) (srcValue s N x) = none) :
    finish (divWide N sg x nf s) = takeException .de :=
  raises_after_source hs rfl hx (by rw [h]; rfl)

end

/-- Settles O40: the forms with a destination by `imulTo_completes`, the others by `mulWide_completes` and
`mulx_completes`. -/
theorem multiplications : Obligations.Multiplications := by
  refine ⟨?imulRRmIz, ?imulRRmI8, ?imulRRm, ?imulRm, ?mulRm, ?mulx, ?rex2ImulRRmIz, ?rex2ImulRRmI8, ?rex2ImulRRm,
    ?rex2MulRm, ?rex2ImulRm⟩
  case imulRRmIz | imulRRmI8 | rex2ImulRRmIz | rex2ImulRRmI8 =>
    intros; rename_i hs hrm
    exact ⟨_, imulTo_completes hs hrm trivial trivial⟩
  case imulRRm =>
    exact fun _ _ _ _ _ _ hs hrm => ⟨_, imulTo_completes hs trivial hrm dstReg_ready⟩
  case rex2ImulRRm =>
    exact fun _ _ _ _ hs hrm => ⟨_, imulTo_completes hs trivial hrm trivial⟩
  case imulRm | mulRm | rex2ImulRm | rex2MulRm =>
    intros; rename_i hs hrm
    exact ⟨_, mulWide_completes hs hrm⟩
  case mulx => exact fun _ _ _ _ _ hs hbmi2 hrm => mulx_completes hs hbmi2 hrm

/-- Settles O41: a quotient by `divWide_completes`, none by `divWide_raises`. -/
theorem divisions : Obligations.Divisions := by
  refine ⟨?divRm, ?idivRm, ?rex2DivRm, ?rex2IdivRm, ?divRmDe, ?idivRmDe, ?rex2DivRmDe, ?rex2IdivRmDe⟩
  case divRm | idivRm | rex2DivRm | rex2IdivRm =>
    intros; rename_i hs hrm hq
    exact ⟨_, divWide_completes hs hrm hq⟩
  case divRmDe | rex2DivRmDe =>
    intros; rename_i hs hrm hnone
    exact divWide_raises hs hrm (divide_unsigned_eq_none _ _ hnone)
  case idivRmDe | rex2IdivRmDe =>
    intros; rename_i hs hrm hnone
    exact divWide_raises hs hrm (divide_signed_eq_none _ _ hnone)

end Sys2Proof.Machine
end

section
/-! O25, O28 and O42. What LZCNT, TZCNT, POPCNT and CRC32 compute and what MOVBE moves, and that each form goes on with it
(42_muldiv_misc.md). -/
namespace Sys2Proof.Machine

/-! ### Counts -/

theorem leadingZeros_zero {N : Nat} (i : Nat) : leadingZeros 0#N i = i := by
  induction i with
  | zero => rfl
  | succ i ih => rw [leadingZeros, BitVec.getLsbD_zero, if_neg Bool.false_ne_true, ih]

theorem trailingZeros_zero {N : Nat} (i n : Nat) : trailingZeros 0#N i n = n := by
  induction n generalizing i with
  | zero => rfl
  | succ n ih => rw [trailingZeros, BitVec.getLsbD_zero, if_neg Bool.false_ne_true, ih]

section
variable {N : Nat} (a : BitVec N)

theorem leadingZeros_succ_of_set {i : Nat} (h : a.getLsbD i = true) : leadingZeros a (i + 1) = 0 := if_pos h

theorem leadingZeros_succ_of_clear {i : Nat} (h : a.getLsbD i = false) :
    leadingZeros a (i + 1) = leadingZeros a i + 1 := if_neg (Bool.not_eq_true _ ▸ h)

theorem trailingZeros_succ_of_set {i n : Nat} (h : a.getLsbD i = true) : trailingZeros a i (n + 1) = 0 := if_pos h

theorem trailingZeros_succ_of_clear {i n : Nat} (h : a.getLsbD i = false) :
    trailingZeros a i (n + 1) = trailingZeros a (i + 1) n + 1 := if_neg (Bool.not_eq_true _ ▸ h)

theorem toNat_getLsbD (i : Nat) : (a.getLsbD i).toNat = a.toNat / 2 ^ i % 2 := Nat.toNat_testBit a.toNat i

/-- The highest 1 bit below place i is as many places below it as there are leading zeros. -/
theorem leadingZeros_bounds {i : Nat} (h : a.toNat % 2 ^ i ≠ 0) :
    leadingZeros a i < i ∧ 2 ^ (i - 1 - leadingZeros a i) ≤ a.toNat % 2 ^ i ∧
      a.toNat % 2 ^ i < 2 ^ (i - leadingZeros a i) := by
  induction i with
  | zero => exact absurd (Nat.mod_one _) h
  | succ i ih =>
    have hsucc : a.toNat % 2 ^ (i + 1) = a.toNat % 2 ^ i + 2 ^ i * (a.getLsbD i).toNat := by
      rw [toNat_getLsbD, Nat.pow_succ, Nat.mod_mul]
    cases hbit : a.getLsbD i
    case false =>
      simp only [hbit, Bool.toNat_false, Nat.mul_zero, Nat.add_zero] at hsucc
      rw [hsucc] at h ⊢
      obtain ⟨hlt, hlow, hhigh⟩ := ih h
      rw [leadingZeros_succ_of_clear a hbit, Nat.add_sub_add_right i 1 (leadingZeros a i),
        show i + 1 - 1 - (leadingZeros a i + 1) = i - 1 - leadingZeros a i by omega]
      exact ⟨Nat.succ_lt_succ hlt, hlow, hhigh⟩
    case true =>
      rw [hbit, Bool.toNat_true, Nat.mul_one] at hsucc
      rw [leadingZeros_succ_of_set a hbit]
      exact ⟨Nat.succ_pos i, hsucc ▸ Nat.le_add_left .., Nat.mod_lt _ (Nat.two_pow_pos _)⟩

/-- The lowest 1 bit from place i on is as many places above it as there are trailing zeros. -/
theorem trailingZeros_spec {i n : Nat} (h : a.toNat / 2 ^ i % 2 ^ n ≠ 0) :
    trailingZeros a i n < n ∧ a.toNat / 2 ^ i % 2 ^ trailingZeros a i n = 0 ∧
      a.toNat / 2 ^ i / 2 ^ trailingZeros a i n % 2 = 1 := by
  induction n generalizing i with
  | zero => exact absurd (Nat.mod_one _) h
  | succ n ih =>
    have hbitNat := toNat_getLsbD a i
    cases hbit : a.getLsbD i
    case false =>
      rw [hbit, Bool.toNat_false] at hbitNat
      have hdiv : a.toNat / 2 ^ (i + 1) = a.toNat / 2 ^ i / 2 := by rw [Nat.pow_succ, Nat.div_div_eq_div_mul]
      have hsplit (m : Nat) : a.toNat / 2 ^ i % 2 ^ (m + 1) = 2 * (a.toNat / 2 ^ (i + 1) % 2 ^ m) := by
        rw [Nat.pow_succ', Nat.mod_mul, ← hbitNat, Nat.zero_add, hdiv]
      rw [hsplit] at h
      obtain ⟨hlt, heven, hodd⟩ := ih (Nat.ne_zero_of_mul_ne_zero_right h)
      rw [trailingZeros_succ_of_clear a hbit, hsplit, heven, Nat.pow_succ', ← Nat.div_div_eq_div_mul, ← hdiv]
      exact ⟨Nat.succ_lt_succ hlt, rfl, hodd⟩
    case true =>
      rw [hbit, Bool.toNat_true] at hbitNat
      rw [trailingZeros_succ_of_set a hbit, Nat.pow_zero, Nat.div_one]
      exact ⟨Nat.succ_pos n, Nat.mod_one _, hbitNat.symm⟩

theorem onesBelow_eq_countP (i : Nat) : onesBelow a i = (List.range i).countP fun j => a.getLsbD j := by
  induction i with
  | zero => rfl
  | succ i ih =>
    rw [onesBelow, ih, List.range_succ, List.countP_append, List.countP_singleton]
    cases a.getLsbD i <;> rfl

theorem count_of_zero : CountOp.lzcnt.count (0 : BitVec N) = N ∧ CountOp.tzcnt.count (0 : BitVec N) = N :=
  ⟨leadingZeros_zero N, trailingZeros_zero 0 N⟩

theorem count_lzcnt_bounds (h : a ≠ 0) :
    CountOp.lzcnt.count a < N ∧ 2 ^ (N - 1 - CountOp.lzcnt.count a) ≤ a.toNat ∧
      a.toNat < 2 ^ (N - CountOp.lzcnt.count a) := by
  have hmod : a.toNat % 2 ^ N = a.toNat := Nat.mod_eq_of_lt a.isLt
  have hbounds := leadingZeros_bounds a (i := N) (by rw [hmod]; exact (BitVec.toNat_pos_of_ne_zero h).ne')
  rwa [hmod] at hbounds

theorem count_tzcnt_spec (h : a ≠ 0) :
    CountOp.tzcnt.count a < N ∧ a.toNat % 2 ^ CountOp.tzcnt.count a = 0 ∧
      a.toNat / 2 ^ CountOp.tzcnt.count a % 2 = 1 := by
  have hdiv : a.toNat / 2 ^ 0 = a.toNat := Nat.div_one _
  have hspec := trailingZeros_spec a (i := 0) (n := N)
    (by rw [hdiv, Nat.mod_eq_of_lt a.isLt]; exact (BitVec.toNat_pos_of_ne_zero h).ne')
  rwa [hdiv] at hspec

/-- The first bit LZCNT looks at is the top one. -/
theorem count_lzcnt_eq_zero (hN : 0 < N) : (CountOp.lzcnt.count a == 0) = a.msb := by
  obtain ⟨i, rfl⟩ := Nat.exists_eq_succ_of_ne_zero hN.ne'
  rw [BitVec.msb_eq_getLsbD_last]
  cases hbit : a.getLsbD (i + 1 - 1)
  case false => exact congrArg (· == 0) (leadingZeros_succ_of_clear a hbit)
  case true => exact congrArg (· == 0) (leadingZeros_succ_of_set a hbit)

/-- The first bit TZCNT looks at is the bottom one. -/
theorem count_tzcnt_eq_zero (hN : 0 < N) : (CountOp.tzcnt.count a == 0) = a.getLsbD 0 := by
  obtain ⟨n, rfl⟩ := Nat.exists_eq_succ_of_ne_zero hN.ne'
  cases hbit : a.getLsbD 0
  case false => exact congrArg (· == 0) (trailingZeros_succ_of_clear a hbit)
  case true => exact congrArg (· == 0) (trailingZeros_succ_of_set a hbit)

end

/-! ### The checksum -/

/-- One step of the division: a shift right and, where the bit shifted out was 1, the reversed polynomial. -/
def crcStep (x : BitVec 32) : BitVec 32 := x >>> 1 ^^^ if x.getLsbD 0 then 0x82F63B78 else 0

theorem crcSteps_eq_iterate (crc : BitVec 32) (n : Nat) : crcSteps crc n = crcStep^[n] crc := by
  have hstep (x : BitVec 32) : (if x.getLsbD 0 then x >>> 1 ^^^ 0x82F63B78#32 else x >>> 1) = crcStep x := by
    rw [crcStep]
    split <;> simp
  induction n generalizing crc with
  | zero => rfl
  | succ n ih => rw [crcSteps, hstep, ih, Function.iterate_succ_apply]

theorem crcStep_xor : Function.Semiconj₂ crcStep (· ^^^ ·) (· ^^^ ·) := by
  intro x y
  have hpoly (b c : Bool) : (if (b ^^ c) then 0x82F63B78 else 0 : BitVec 32) =
      (if b then 0x82F63B78 else 0) ^^^ if c then 0x82F63B78 else 0 := by
    cases b <;> cases c <;> rfl
  simp only [crcStep, BitVec.ushiftRight_xor_distrib, BitVec.getLsbD_xor, hpoly]
  ac_rfl

/-- A step is linear, so the checksum is: the bytes may all go with one of the two starting values. -/
theorem crcBytes_xor (x y : BitVec 32) (bs : List Byte) :
    crcBytes (x ^^^ y) bs = crcBytes x bs ^^^ crcBytes y (bs.map fun _ => 0) := by
  induction bs generalizing x y with
  | nil => rfl
  | cons b bs ih =>
    have hbyte : x ^^^ y ^^^ b.setWidth 32 = (x ^^^ b.setWidth 32) ^^^ (y ^^^ (0 : Byte).setWidth 32) := by
      simp; ac_rfl
    simp only [List.map_cons, crcBytes, crcSteps_eq_iterate]
    rw [hbyte, crcStep_xor.iterate 8, ih]

/-- Settles O25: the highest and the lowest 1 bit by induction on the places looked at, the checksum by the linearity
of its step. -/
theorem meaningOfBitCounts : Obligations.MeaningOfBitCounts := by
  intro N a
  refine ⟨?zero, fun h => ?nonzero, onesBelow_eq_countP a N, fun any => ?flags, fun _ => rfl, fun crc b bs => ?bytes,
    by decide, crcBytes_xor⟩
  case zero =>
    rintro rfl
    exact count_of_zero
  case nonzero =>
    obtain ⟨hlz, hlow, hhigh⟩ := count_lzcnt_bounds a h
    exact ⟨hlz, hlow, hhigh, count_tzcnt_spec a h⟩
  case flags =>
    exact ⟨beq_iff_eq, beq_iff_eq, beq_iff_eq, beq_iff_eq,
      fun hN => ⟨count_lzcnt_eq_zero a hN, count_tzcnt_eq_zero a hN⟩, rfl⟩
  case bytes => exact congrArg (crcBytes · bs) (crcSteps_eq_iterate _ 8)

/-! ### Byte order -/

section
variable {k : Nat} (a : BitVec (8 * k))

theorem byteReverse_eq : byteReverse a = BitVec.ofNat (8 * k) (leValue (leBytes k a.toNat).reverse) := by
  rw [byteReverse, Nat.mul_div_cancel_left k (by norm_num)]

theorem leBytes_byteReverse : leBytes k (byteReverse a).toNat = (leBytes k a.toNat).reverse := by
  have hlen : (leBytes k a.toNat).reverse.length = k := by rw [List.length_reverse, length_leBytes]
  have hlt := leValue_lt (leBytes k a.toNat).reverse
  have hbytes := leBytes_leValue (leBytes k a.toNat).reverse
  rw [hlen] at hlt hbytes
  rw [byteReverse_eq, BitVec.toNat_ofNat, Nat.mod_eq_of_lt (by rwa [pow_mul]), hbytes]

theorem byteReverse_byteReverse : byteReverse (byteReverse a) = a := by
  rw [byteReverse_eq, leBytes_byteReverse, List.reverse_reverse, ofNat_leValue_leBytes k rfl]

/-- Byte j of a value is the j-th of its little-endian bytes. -/
theorem getElem?_leBytes_eq_extractLsb' {j : Nat} (hj : j < k) :
    (leBytes k a.toNat)[j]? = some (a.extractLsb' (8 * j) 8) := by
  rw [getElem?_leBytes hj, BitVec.extractLsb', Nat.shiftRight_eq_div_pow, pow_mul, show 2 ^ 8 = 256 from rfl]

theorem extractLsb'_byteReverse {j : Nat} (hj : j < k) :
    (byteReverse a).extractLsb' (8 * j) 8 = a.extractLsb' (8 * (k - 1 - j)) 8 := by
  apply Option.some.inj
  rw [← getElem?_leBytes_eq_extractLsb' _ hj, leBytes_byteReverse, List.getElem?_reverse (by rwa [length_leBytes]),
    length_leBytes, getElem?_leBytes_eq_extractLsb' a (by omega)]

end

/-- Settles O28: reversing the value reverses the list of its bytes. -/
theorem meaningOfByteReversal : Obligations.MeaningOfByteReversal := fun _ a =>
  ⟨fun _ hj => extractLsb'_byteReverse a hj, byteReverse_byteReverse a⟩

/-! ### Each form goes on -/

section
variable {s : State} {N : Nat} {d : Dst} {x : Src} {reg : RegId} {nf : Bool}

/-- `countBits_ok` read as a completion. -/
theorem countBits_completes {op : CountOp} {ok : Features → Bool} (hs : s.apxEnabled = true)
    (hf : ok s.params.features = true) (hx : srcReady s N x) :
    finish (countBits N op ok reg x nf s) =
      .next ((s.writeGpr N reg (BitVec.ofNat N (op.count (srcValue s N x))) false).setFlagsUnless nf
        (op.flags s.anyFlag (srcValue s N x))) :=
  finish_next.2 ((countBits_ok N op ok reg x nf).2 ⟨hs, hf, hx, rfl⟩)

/-- `crc32_ok` read as a completion. -/
theorem crc32_completes (hs : s.apxEnabled = true) (hx : srcReady s N x) :
    finish (crc32 N reg x s) =
      .next (s.writeGpr 32 reg (crcBytes (s.readGpr 32 reg) (leBytes (N / 8) (srcValue s N x).toNat)) false) :=
  finish_next.2 ((crc32_ok N reg x).2 ⟨hs, hx, rfl⟩)

/-- `movbe_ok` read as a completion. -/
theorem movbe_completes (hs : s.apxEnabled = true) (hf : s.params.features.movbe = true) (hx : srcReady s N x)
    (hd : dstReady s N d) : finish (movbe N d x s) = .next (putDst s N d (byteReverse (srcValue s N x))) :=
  finish_next.2 ((movbe_ok N d x).2 ⟨hs, hf, hx, hd, rfl⟩)

end

/-- Settles O42, by what each operation completes with; POPCNT needs no feature. -/
theorem countsChecksumsAndByteSwaps : Obligations.CountsChecksumsAndByteSwaps := by
  refine ⟨?crc32Rm8, ?crc32Rm, ?lzcnt, ?movbeRRm, ?movbeRmR, ?popcnt, ?tzcnt⟩
  case crc32Rm8 | crc32Rm =>
    intros; rename_i hs hrm
    exact crc32_completes hs hrm
  case lzcnt | tzcnt =>
    intros; rename_i hs hf hrm
    exact ⟨_, countBits_completes hs hf hrm⟩
  case popcnt => exact fun _ _ _ _ _ hs hrm => ⟨_, countBits_completes hs rfl hrm⟩
  case movbeRRm => exact fun _ _ _ _ hs hf hrm => movbe_completes hs hf hrm dstReg_ready
  case movbeRmR => exact fun _ _ _ _ hs hf hd => movbe_completes hs hf trivial hd

end Sys2Proof.Machine
end

section
/-! O44 and O50. That the conditional moves, SETcc, the direct stores and the enqueues go on with their results
(42_muldiv_misc.md, 46_conditional.md, 45_jmpabs_rex2.md R374, R387). -/
namespace Sys2Proof.Machine

section
variable {s : State} {N : Nat} {cc : Cond} {reg v : RegId} {rm : RM} {m : Mem} {zu : Bool}

/-! ### Conditional moves -/

/-- `cmovNdd_ok` read as a completion: the source is read whatever the condition. -/
theorem cmovNdd_completes (hs : s.apxEnabled = true) (hrm : rmReady s N rm) :
    finish (cmovNdd cc N v reg rm s) =
      .next (s.writeGpr N v (if s.flags.cond cc then rmValue s N rm else s.readGpr N reg) true) :=
  finish_next.2 ((cmovNdd_ok cc N v reg rm).2 ⟨hs, hrm, rfl⟩)

/-- `cmovLegacy_ok` read as a completion: the source is read whatever the condition. -/
theorem cmovLegacy_completes (hs : s.apxEnabled = true) (hrm : rmReady s N rm) :
    finish (cmovLegacy cc N reg rm s) =
      .next (if s.flags.cond cc then s.writeGpr N reg (rmValue s N rm) false
        else if N = 32 then s.writeGpr 32 reg (s.readGpr 32 reg) false else s) :=
  finish_next.2 ((cmovLegacy_ok cc N reg rm).2 ⟨hs, hrm, rfl⟩)

/-- `cfcmovLoad_ok` read as a completion: only a true condition needs the source. -/
theorem cfcmovLoad_completes (hs : s.apxEnabled = true) (hrm : s.flags.cond cc = true → rmReady s N rm) :
    finish (cfcmovLoad cc N reg rm s) =
      .next (s.writeGpr N reg (if s.flags.cond cc then rmValue s N rm else 0) true) :=
  finish_next.2 ((cfcmovLoad_ok cc N reg rm).2 ⟨hs, hrm, rfl⟩)

/-- `cfcmovReg_ok` read as a completion. -/
theorem cfcmovReg_completes (hs : s.apxEnabled = true) :
    finish (cfcmovReg cc N v reg s) =
      .next (s.writeGpr N v (if s.flags.cond cc then s.readGpr N reg else 0) true) :=
  finish_next.2 ((cfcmovReg_ok cc N v reg).2 ⟨hs, rfl⟩)

/-- `cfcmovStore_ok` read as a completion: only a true condition needs the destination. -/
theorem cfcmovStore_completes (hs : s.apxEnabled = true) (hd : s.flags.cond cc = true → dstReady s N (.mem m)) :
    finish (cfcmovStore cc N m reg s) =
      .next (if s.flags.cond cc then putDst s N (.mem m) (s.readGpr N reg) else s) :=
  finish_next.2 ((cfcmovStore_ok cc N m reg).2 ⟨hs, hd, rfl⟩)

/-- `cfcmovNdd_ok` read as a completion: only a true condition needs the source. -/
theorem cfcmovNdd_completes (hs : s.apxEnabled = true) (hrm : s.flags.cond cc = true → rmReady s N rm) :
    finish (cfcmovNdd cc N v reg rm s) =
      .next (s.writeGpr N v (if s.flags.cond cc then rmValue s N rm else s.readGpr N reg) true) :=
  finish_next.2 ((cfcmovNdd_ok cc N v reg rm).2 ⟨hs, hrm, rfl⟩)

/-! ### SETcc -/

/-- The byte SETcc writes: a truth value in eight bits. -/
theorem setWidth_ofBool_eq_ite (b : Bool) : (BitVec.ofBool b).setWidth 8 = if b then 1 else 0 := by
  cases b <;> rfl

theorem setByte_reg_completes (hs : s.apxEnabled = true) :
    finish (setByte cc (.reg reg) zu s) = .next (s.writeGpr 8 reg (if s.flags.cond cc then 1 else 0) zu) := by
  rw [← setWidth_ofBool_eq_ite]
  exact finish_next.2 ((setByte_ok cc (.reg reg) zu).2 ⟨hs, trivial, rfl⟩)

theorem setByte_mem_completes (hs : s.apxEnabled = true) (hd : dstReady s 8 (.mem m)) :
    finish (setByte cc (.mem m) zu s) = .next (putDst s 8 (.mem m) (if s.flags.cond cc then 1 else 0)) := by
  rw [← setWidth_ofBool_eq_ite]
  exact finish_next.2 ((setByte_ok cc (.mem m) zu).2 ⟨hs, hd, rfl⟩)

/-! ### Direct stores and enqueues -/

/-- `enqcmd_ok` read as a completion: the bits 30:0 of the command are 0. -/
theorem enqcmd_completes (hs : s.apxEnabled = true) (hf : s.params.features.enqcmd = true)
    (hdst : aligned64 (addrReg s m.a32 reg) = true) (hpasid : s.ctrl.pasidValid = true)
    (hread : accessOk s (memAccess s m 64 .read false 1))
    (hcmd : (memValue s 512 (linAddr s m)).setWidth 31 = (0 : BitVec 31)) :
    finish (enqcmd reg m s) = .next s.enqueued :=
  finish_next.2 ((enqcmd_ok reg m).2 ⟨hs, hf, hdst, hpasid, hread, hcmd, rfl⟩)

/-- `enqcmds_ok` read as a completion: the bits 30:20 of the command are 0. -/
theorem enqcmds_completes (hs : s.apxEnabled = true) (hf : s.params.features.enqcmd = true) (hcpl : s.cpl = 0)
    (hdst : aligned64 (addrReg s m.a32 reg) = true) (hread : accessOk s (memAccess s m 64 .read false 1))
    (hcmd : ((memValue s 512 (linAddr s m)) >>> 20).setWidth 11 = (0 : BitVec 11)) :
    finish (enqcmds reg m s) = .next s.enqueued :=
  finish_next.2 ((enqcmds_ok reg m).2 ⟨hs, hf, hcpl, hdst, hread, hcmd, rfl⟩)

/-- `movdir64b_ok` read as a completion. -/
theorem movdir64b_completes (hs : s.apxEnabled = true) (hf : s.params.features.movdir = true)
    (hdst : aligned64 (addrReg s m.a32 reg) = true) (hread : accessOk s (memAccess s m 64 .read true 1))
    (hwrite : accessOk s (movdir64bAccess s m.a32 reg)) :
    finish (movdir64b reg m s) = .next (s.poke (addrReg s m.a32 reg) 64 (memValue s 512 (linAddr s m)).toNat) :=
  finish_next.2 ((movdir64b_ok reg m).2 ⟨hs, hf, hdst, hread, hwrite, rfl⟩)

/-- `movdiri_ok` read as a completion. -/
theorem movdiri_completes (hs : s.apxEnabled = true) (hf : s.params.features.movdir = true)
    (hd : dstReady s N (.mem m)) :
    finish (movdiri N m reg s) = .next (putDst s N (.mem m) (s.readGpr N reg)) :=
  finish_next.2 ((movdiri_ok N m reg).2 ⟨hs, hf, hd, rfl⟩)

end

/-- Settles O44, by what each conditional operation completes with; the CFCMOVcc forms hand their access on under the
condition. -/
theorem conditionalMovesAndSetByte : Obligations.ConditionalMovesAndSetByte :=
  ⟨fun _ _ _ _ _ _ hs hrm => cmovNdd_completes hs hrm,
    fun _ _ _ _ _ hs hrm => cfcmovLoad_completes hs hrm,
    fun _ _ _ _ _ hs => cfcmovReg_completes hs,
    fun _ _ _ _ _ hs hd => cfcmovStore_completes hs hd,
    fun _ _ _ _ _ _ hs hrm => cfcmovNdd_completes hs hrm,
    fun _ _ _ _ hs => setByte_reg_completes hs,
    fun _ _ _ _ hs hd => setByte_mem_completes hs hd,
    fun _ _ _ _ _ hs hrm => cmovLegacy_completes hs hrm,
    fun _ _ _ hs => setByte_reg_completes hs,
    fun _ _ _ hs hd => setByte_mem_completes hs hd⟩

/-- Settles O50, by what each operation completes with. -/
theorem directStoresAndEnqueues : Obligations.DirectStoresAndEnqueues :=
  ⟨fun _ _ _ hs hf hdst hpasid hread hcmd => enqcmd_completes hs hf hdst hpasid hread hcmd,
    fun _ _ _ hs hf hcpl hdst hread hcmd => enqcmds_completes hs hf hcpl hdst hread hcmd,
    fun _ _ _ hs hf hdst hread hwrite => movdir64b_completes hs hf hdst hread hwrite,
    fun _ _ _ _ hs hf hd => movdiri_completes hs hf hd⟩

end Sys2Proof.Machine
end

section
/-! O29, O43, O45, O46 and O47. What PDEP, PEXT and BEXTR move by bit position, and that the promoted VEX instructions
go on with their results (43_promoted_vex.md). -/
namespace Sys2Proof.Machine

/-! ### Deposit and extract -/

section
variable {N : Nat} (src mask : BitVec N)

theorem onesBelow_monotone : Monotone (onesBelow mask) := monotone_nat_of_le_succ fun _ => Nat.le_add_right ..

theorem onesBelow_succ_of_set {i : Nat} (h : mask.getLsbD i = true) :
    onesBelow mask (i + 1) = onesBelow mask i + 1 := by
  rw [onesBelow, h, Bool.toNat_true]

theorem onesBelow_succ_of_clear {i : Nat} (h : mask.getLsbD i = false) :
    onesBelow mask (i + 1) = onesBelow mask i := by
  rw [onesBelow, h, Bool.toNat_false, Nat.add_zero]

theorem onesBelow_le (i : Nat) : onesBelow mask i ≤ i := by
  rw [onesBelow_eq_countP]
  exact List.countP_le_length.trans List.length_range.le

/-- Each place of a packed value belongs to one set mask bit. -/
theorem exists_set_of_lt_onesBelow {k n : Nat} (h : k < onesBelow mask n) :
    ∃ i < n, mask.getLsbD i = true ∧ onesBelow mask i = k := by
  induction n with
  | zero => exact absurd h (Nat.not_lt_zero k)
  | succ n ih =>
    by_cases hk : k < onesBelow mask n
    · obtain ⟨i, hi, hset, hrank⟩ := ih hk
      exact ⟨i, Nat.lt_succ_of_lt hi, hset, hrank⟩
    · cases hbit : mask.getLsbD n
      case false => exact absurd (onesBelow_succ_of_clear mask hbit ▸ h) hk
      case true =>
        rw [onesBelow_succ_of_set mask hbit] at h
        exact ⟨n, Nat.lt_succ_self n, hbit, by omega⟩

theorem depositBits_succ (i k n : Nat) :
    depositBits src mask i k (n + 1) =
      Nat.bit (mask.getLsbD i && src.getLsbD k) (depositBits src mask (i + 1) (k + (mask.getLsbD i).toNat) n) := by
  rw [depositBits, Nat.bit_val]
  cases mask.getLsbD i
  case false => rfl
  case true => exact Nat.add_comm _ _

theorem extractBits_succ_of_set {i n : Nat} (h : mask.getLsbD i = true) :
    extractBits src mask i (n + 1) = Nat.bit (src.getLsbD i) (extractBits src mask (i + 1) n) := by
  rw [extractBits, if_pos h, Nat.bit_val, Nat.add_comm]

theorem extractBits_succ_of_clear {i n : Nat} (h : mask.getLsbD i = false) :
    extractBits src mask i (n + 1) = extractBits src mask (i + 1) n := if_neg (Bool.not_eq_true _ ▸ h)

/-- The source place goes up with the set mask bits passed, so at place i + j it is their number below i + j. -/
theorem testBit_depositBits {i j n : Nat} (hj : j < n) :
    (depositBits src mask i (onesBelow mask i) n).testBit j =
      (mask.getLsbD (i + j) && src.getLsbD (onesBelow mask (i + j))) := by
  induction n generalizing i j with
  | zero => exact absurd hj (Nat.not_lt_zero j)
  | succ n ih =>
    rw [depositBits_succ]
    cases j with
    | zero => rw [Nat.testBit_bit_zero, Nat.add_zero]
    | succ j =>
      rw [Nat.testBit_bit_succ, ← onesBelow, ih (Nat.lt_of_succ_lt_succ hj), Nat.add_right_comm, Nat.add_assoc]

/-- From bit i on, the source bit of a set mask bit goes to the number p of set mask bits between. -/
theorem testBit_extractBits {i j n p : Nat} (hj : j < n) (hset : mask.getLsbD (i + j) = true)
    (hp : onesBelow mask i + p = onesBelow mask (i + j)) :
    (extractBits src mask i n).testBit p = src.getLsbD (i + j) := by
  induction n generalizing i j p with
  | zero => exact absurd hj (Nat.not_lt_zero j)
  | succ n ih =>
    cases j with
    | zero =>
      obtain rfl : p = 0 := Nat.add_left_cancel hp
      rw [extractBits_succ_of_set src mask (i := i) hset, Nat.testBit_bit_zero, Nat.add_zero]
    | succ j =>
      have hmono : onesBelow mask (i + 1) ≤ onesBelow mask (i + 1 + j) :=
        onesBelow_monotone mask (Nat.le_add_right _ _)
      rw [← Nat.add_assoc, Nat.add_right_comm] at hset hp ⊢
      cases hbit : mask.getLsbD i
      case false =>
        rw [← onesBelow_succ_of_clear mask hbit] at hp
        rw [extractBits_succ_of_clear src mask hbit, ih (Nat.lt_of_succ_lt_succ hj) hset hp]
      case true =>
        rw [onesBelow_succ_of_set mask hbit] at hmono
        obtain ⟨q, rfl⟩ : ∃ q, p = q + 1 := ⟨p - 1, by omega⟩
        rw [extractBits_succ_of_set src mask hbit, Nat.testBit_bit_succ, ih (Nat.lt_of_succ_lt_succ hj) hset]
        rw [onesBelow_succ_of_set mask hbit]
        omega

/-- An extracted value has no bits beyond the set mask bits there are. -/
theorem testBit_extractBits_of_le {i n p : Nat} (h : onesBelow mask (i + n) ≤ onesBelow mask i + p) :
    (extractBits src mask i n).testBit p = false := by
  induction n generalizing i p with
  | zero => exact Nat.zero_testBit p
  | succ n ih =>
    have hmono : onesBelow mask (i + 1) ≤ onesBelow mask (i + 1 + n) :=
      onesBelow_monotone mask (Nat.le_add_right _ _)
    rw [← Nat.add_assoc, Nat.add_right_comm] at h
    cases hbit : mask.getLsbD i
    case false =>
      rw [← onesBelow_succ_of_clear mask hbit] at h
      rw [extractBits_succ_of_clear src mask hbit, ih h]
    case true =>
      rw [onesBelow_succ_of_set mask hbit] at hmono
      obtain ⟨q, rfl⟩ : ∃ q, p = q + 1 := ⟨p - 1, by omega⟩
      rw [extractBits_succ_of_set src mask hbit, Nat.testBit_bit_succ, ih]
      rw [onesBelow_succ_of_set mask hbit]
      omega

theorem getLsbD_result_pdep {i : Nat} (hi : i < N) :
    (Bmi2Op.pdep.result src mask).getLsbD i = (mask.getLsbD i && src.getLsbD (onesBelow mask i)) := by
  have hbit := testBit_depositBits src mask (i := 0) hi
  rw [Nat.zero_add] at hbit
  rw [Bmi2Op.result, BitVec.getLsbD_ofNat, decide_eq_true hi, Bool.true_and]
  exact hbit

theorem getLsbD_result_pext {i : Nat} (hi : i < N) (hset : mask.getLsbD i = true) :
    (Bmi2Op.pext.result src mask).getLsbD (onesBelow mask i) = src.getLsbD i := by
  have hbit := testBit_extractBits src mask (i := 0) (p := onesBelow mask i) hi (by rwa [Nat.zero_add])
    (by rw [Nat.zero_add, onesBelow, Nat.zero_add])
  rw [Nat.zero_add] at hbit
  rw [Bmi2Op.result, BitVec.getLsbD_ofNat, decide_eq_true ((onesBelow_le mask i).trans_lt hi), Bool.true_and, hbit]

theorem getLsbD_result_pext_of_le {k : Nat} (h : onesBelow mask N ≤ k) :
    (Bmi2Op.pext.result src mask).getLsbD k = false := by
  have hbit := testBit_extractBits_of_le src mask (i := 0) (n := N) (p := k)
    (by rwa [Nat.zero_add, onesBelow, Nat.zero_add])
  rw [Bmi2Op.result, BitVec.getLsbD_ofNat, hbit, Bool.and_false]

/-- The low bits that the mask has room for come back: each has its own set mask bit. -/
theorem result_pext_pdep :
    Bmi2Op.pext.result (Bmi2Op.pdep.result src mask) mask = src &&& BitVec.ofNat N (2 ^ onesBelow mask N - 1) := by
  apply BitVec.eq_of_getLsbD_eq
  intro k hk
  rw [BitVec.getLsbD_and, BitVec.getLsbD_ofNat, Nat.testBit_two_pow_sub_one, decide_eq_true hk, Bool.true_and]
  by_cases h : k < onesBelow mask N
  · obtain ⟨i, hi, hset, rfl⟩ := exists_set_of_lt_onesBelow mask h
    rw [getLsbD_result_pext _ mask hi hset, getLsbD_result_pdep src mask hi, hset, decide_eq_true h, Bool.true_and,
      Bool.and_true]
  · rw [getLsbD_result_pext_of_le _ mask (Nat.le_of_not_lt h), decide_eq_false h, Bool.and_false]

theorem result_pdep_pext : Bmi2Op.pdep.result (Bmi2Op.pext.result src mask) mask = src &&& mask := by
  apply BitVec.eq_of_getLsbD_eq
  intro i hi
  rw [getLsbD_result_pdep _ mask hi, BitVec.getLsbD_and]
  cases hset : mask.getLsbD i
  case false => rw [Bool.false_and, Bool.and_false]
  case true => rw [getLsbD_result_pext src mask hi hset, Bool.true_and, Bool.and_true]

end

/-! ### The field BEXTR cuts out -/

section
variable {N : Nat} (a : BitVec N)

/-- A shift by N or more leaves 0, as the quotient by 2^N or more does. -/
theorem toNat_ite_ushiftRight (start : Nat) : (if start < N then a >>> start else 0).toNat = a.toNat / 2 ^ start := by
  split
  case isTrue => rw [BitVec.toNat_ushiftRight, Nat.shiftRight_eq_div_pow]
  case isFalse h =>
    have hlt : a.toNat < 2 ^ start := a.isLt.trans_le (Nat.pow_le_pow_right two_pos (Nat.le_of_not_lt h))
    rw [Nat.div_eq_of_lt hlt]
    exact BitVec.toNat_zero

theorem toNat_and_lowBits {len : Nat} (h : len < N) :
    (a &&& BitVec.ofNat N (2 ^ len - 1)).toNat = a.toNat % 2 ^ len := by
  have hlt : 2 ^ len - 1 < 2 ^ N := (Nat.sub_le ..).trans_lt (Nat.pow_lt_pow_right one_lt_two h)
  rw [BitVec.toNat_and, BitVec.toNat_ofNat, Nat.mod_eq_of_lt hlt, Nat.and_two_pow_sub_one_eq_mod]

theorem toNat_bitField (start len : Nat) : (bitField a start len).toNat = a.toNat / 2 ^ start % 2 ^ len := by
  rw [bitField]
  split
  case isTrue h => rw [toNat_and_lowBits _ h, toNat_ite_ushiftRight]
  case isFalse h =>
    have hlt : a.toNat / 2 ^ start < 2 ^ len :=
      (Nat.div_le_self ..).trans_lt (a.isLt.trans_le (Nat.pow_le_pow_right two_pos (Nat.le_of_not_lt h)))
    rw [toNat_ite_ushiftRight, Nat.mod_eq_of_lt hlt]

end

/-- Settles O29: PDEP and PEXT by bit position, by induction on the places looked at, and from that what each of them
does to the result of the other. -/
theorem meaningOfDepositAndExtract : Obligations.MeaningOfDepositAndExtract := by
  intro N a m start len
  simp only [← onesBelow_eq_countP]
  exact ⟨fun i hi => getLsbD_result_pdep a m hi, fun i hi hset => getLsbD_result_pext a m hi hset,
    fun k hk => getLsbD_result_pext_of_le a m hk, result_pext_pdep a m, result_pdep_pext a m,
    toNat_bitField a start len⟩

/-! ### Bit manipulation goes on -/

section
variable {s : State} {N : Nat} {x y : Src} {reg v : RegId} {nf : Bool}

theorem toNat_readGpr_byte : (s.readGpr 8 v).toNat = (s.getGpr v).toNat % 256 := BitVec.toNat_setWidth ..

/-- `andn_ok` read as a completion. -/
theorem andn_completes (hs : s.apxEnabled = true) (hf : s.params.features.bmi1 = true) (hx : srcReady s N x) :
    finish (andn N reg v x nf s) =
      .next ((s.writeGpr N reg (~~~(s.readGpr N v) &&& srcValue s N x) false).setFlagsUnless nf
        ⟨false, s.anyFlag 0, s.anyFlag 1, (~~~(s.readGpr N v) &&& srcValue s N x) == 0,
          (~~~(s.readGpr N v) &&& srcValue s N x).msb, false⟩) :=
  finish_next.2 ((andn_ok N reg v x nf).2 ⟨hs, hf, hx, rfl⟩)

/-- `bextr_ok` read as a completion, with start and length as the numbers that the low two bytes hold. -/
theorem bextr_completes (hs : s.apxEnabled = true) (hf : s.params.features.bmi1 = true) (hx : srcReady s N x) :
    finish (bextr N reg x v nf s) =
      .next ((s.writeGpr N reg
          (bitField (srcValue s N x) ((s.getGpr v).toNat % 256) ((s.getGpr v).toNat / 256 % 256)) false).setFlagsUnless
        nf ⟨false, s.anyFlag 0, s.anyFlag 1,
          bitField (srcValue s N x) ((s.getGpr v).toNat % 256) ((s.getGpr v).toNat / 256 % 256) == 0,
          s.anyFlag 2, false⟩) := by
  have hlen : ((s.getGpr v >>> 8).setWidth 8).toNat = (s.getGpr v).toNat / 256 % 256 := by
    rw [BitVec.toNat_setWidth, BitVec.toNat_ushiftRight, Nat.shiftRight_eq_div_pow]
  rw [← toNat_readGpr_byte, ← hlen]
  exact finish_next.2 ((bextr_ok N reg x v nf).2 ⟨hs, hf, hx, rfl⟩)

/-- `blsi_ok` read as a completion. -/
theorem blsi_completes (hs : s.apxEnabled = true) (hf : s.params.features.bmi1 = true) (hx : srcReady s N x) :
    finish (blsi N v x nf s) =
      .next ((s.writeGpr N v ((0 - srcValue s N x) &&& srcValue s N x) false).setFlagsUnless nf
        ⟨srcValue s N x != 0, s.anyFlag 0, s.anyFlag 1, ((0 - srcValue s N x) &&& srcValue s N x) == 0,
          ((0 - srcValue s N x) &&& srcValue s N x).msb, false⟩) :=
  finish_next.2 ((blsi_ok N v x nf).2 ⟨hs, hf, hx, rfl⟩)

/-- `blsmsk_ok` read as a completion. -/
theorem blsmsk_completes (hs : s.apxEnabled = true) (hf : s.params.features.bmi1 = true) (hx : srcReady s N x) :
    finish (blsmsk N v x nf s) =
      .next ((s.writeGpr N v ((srcValue s N x - BitVec.ofNat N 1) ^^^ srcValue s N x) false).setFlagsUnless nf
        ⟨srcValue s N x == 0, s.anyFlag 0, s.anyFlag 1, false,
          ((srcValue s N x - BitVec.ofNat N 1) ^^^ srcValue s N x).msb, false⟩) :=
  finish_next.2 ((blsmsk_ok N v x nf).2 ⟨hs, hf, hx, rfl⟩)

/-- `blsr_ok` read as a completion. -/
theorem blsr_completes (hs : s.apxEnabled = true) (hf : s.params.features.bmi1 = true) (hx : srcReady s N x) :
    finish (blsr N v x nf s) =
      .next ((s.writeGpr N v ((srcValue s N x - BitVec.ofNat N 1) &&& srcValue s N x) false).setFlagsUnless nf
        ⟨srcValue s N x == 0, s.anyFlag 0, s.anyFlag 1, ((srcValue s N x - BitVec.ofNat N 1) &&& srcValue s N x) == 0,
          ((srcValue s N x - BitVec.ofNat N 1) &&& srcValue s N x).msb, false⟩) :=
  finish_next.2 ((blsr_ok N v x nf).2 ⟨hs, hf, hx, rfl⟩)

/-- The result of BZHI: the low bits of the source up to the index in the low byte of the control register
(43_promoted_vex.md R296). -/
def bzhiResult (s : State) (N : Nat) (v : RegId) (a : BitVec N) : BitVec N :=
  if (s.getGpr v).toNat % 256 < N then a &&& BitVec.ofNat N (2 ^ ((s.getGpr v).toNat % 256) - 1) else a

/-- `bzhi_ok` read as a completion. -/
theorem bzhi_completes (hs : s.apxEnabled = true) (hf : s.params.features.bmi2 = true) (hx : srcReady s N x) :
    finish (bzhi N reg x v nf s) =
      .next ((s.writeGpr N reg (bzhiResult s N v (srcValue s N x)) false).setFlagsUnless nf
        ⟨decide (N - 1 < (s.getGpr v).toNat % 256), s.anyFlag 0, s.anyFlag 1, bzhiResult s N v (srcValue s N x) == 0,
          (bzhiResult s N v (srcValue s N x)).msb, false⟩) := by
  rw [bzhiResult, ← toNat_readGpr_byte]
  exact finish_next.2 ((bzhi_ok N reg x v nf).2 ⟨hs, hf, hx, rfl⟩)

/-- `bmi2_ok` read as a completion. -/
theorem bmi2_completes {op : Bmi2Op} (hs : s.apxEnabled = true) (hf : s.params.features.bmi2 = true)
    (hx : srcReady s N x) (hy : srcReady s N y) :
    finish (bmi2 N op reg x y s) = .next (s.writeGpr N reg (op.result (srcValue s N x) (srcValue s N y)) false) :=
  finish_next.2 ((bmi2_ok N op reg x y).2 ⟨hs, hf, hx, hy, rfl⟩)

/-- The count byte of RORX fits both operand sizes. -/
theorem toNat_imm8_setWidth (sz : YSize) (imm : BitVec 8) : ((imm.setWidth 64).setWidth sz.bits).toNat = imm.toNat := by
  have hbits : 2 ^ 8 ≤ 2 ^ sz.bits := by cases sz <;> decide
  rw [BitVec.toNat_setWidth, BitVec.toNat_setWidth_of_le (by decide), Nat.mod_eq_of_lt (imm.isLt.trans_le hbits)]

theorem rorx_completes {sz : YSize} {imm : BitVec 8} (hs : s.apxEnabled = true)
    (hf : s.params.features.bmi2 = true) (hx : srcReady s sz.bits x) :
    finish (bmi2 sz.bits .rorx reg x (.imm (imm.setWidth 64)) s) =
      .next (s.writeGpr sz.bits reg ((srcValue s sz.bits x).rotateRight (imm.toNat % sz.bits)) false) := by
  rw [← toNat_imm8_setWidth sz imm]
  exact bmi2_completes hs hf hx trivial

end

/-- Settles O43, by what each operation completes with; the free values are those of the state. -/
theorem bitManipulation : Obligations.BitManipulation :=
  ⟨fun s _ _ _ _ _ hs hf hrm => ⟨s.anyFlag, andn_completes hs hf hrm⟩,
    fun s _ _ _ _ _ hs hf hrm => ⟨s.anyFlag, bextr_completes hs hf hrm⟩,
    fun s _ _ _ _ hs hf hrm => ⟨s.anyFlag, blsi_completes hs hf hrm⟩,
    fun s _ _ _ _ hs hf hrm => ⟨s.anyFlag, blsmsk_completes hs hf hrm⟩,
    fun s _ _ _ _ hs hf hrm => ⟨s.anyFlag, blsr_completes hs hf hrm⟩,
    fun s _ _ _ _ _ hs hf hrm => ⟨s.anyFlag, bzhi_completes hs hf hrm⟩,
    fun _ _ _ _ _ hs hf hrm => bmi2_completes hs hf trivial hrm,
    fun _ _ _ _ _ hs hf hrm => bmi2_completes hs hf trivial hrm,
    fun _ _ _ _ _ hs hf hrm => rorx_completes hs hf hrm,
    fun _ _ _ _ _ hs hf hrm => bmi2_completes hs hf hrm trivial,
    fun _ _ _ _ _ hs hf hrm => bmi2_completes hs hf hrm trivial,
    fun _ _ _ _ _ hs hf hrm => bmi2_completes hs hf hrm trivial⟩

/-! ### CMPccXADD -/

section
variable {s : State} {N : Nat} {cc : Cond} {m : Mem} {reg v : RegId}

/-- `cmpxadd_ok` read as a completion: only a true condition needs the write. -/
theorem cmpxadd_completes (hs : s.apxEnabled = true) (hf : s.params.features.cmpccxadd = true)
    (hread : accessOk s (cmpxaddAccess s N m .read))
    (hwrite : (subFlags (memValue s N (linAddr s m)) (s.readGpr N reg) false).cond cc = true →
      accessOk s (cmpxaddAccess s N m .write)) :
    finish (cmpxadd cc N m reg v s) =
      .next (((if (subFlags (memValue s N (linAddr s m)) (s.readGpr N reg) false).cond cc then
          s.poke (linAddr s m) (N / 8) (memValue s N (linAddr s m) + s.readGpr N v).toNat
        else s).writeGpr N reg (memValue s N (linAddr s m)) false).setFlags
          (subFlags (memValue s N (linAddr s m)) (s.readGpr N reg) false)) :=
  finish_next.2 ((cmpxadd_ok cc N m reg v).2 ⟨hs, hf, hread, hwrite, rfl⟩)

/-- The mandatory alignment is checked by the read, so whatever the condition (60_exceptions.md R448). -/
theorem cmpxadd_raises_of_misaligned (hs : s.apxEnabled = true) (hf : s.params.features.cmpccxadd = true)
    (hc : (cmpxaddAccess s N m .read).canonicalOk s.params.laWidth = true)
    (ha : (linAddr s m).toNat % (N / 8) ≠ 0) : finish (cmpxadd cc N m reg v s) = takeException .gp :=
  cmpxadd_raises_of_read hs hf (checkAccess_of_misaligned hc ha)

end

/-- Settles O45: by `cmpxadd_completes`, and #GP(0) by `cmpxadd_raises_of_misaligned`. -/
theorem compareAndAdd : Obligations.CompareAndAdd :=
  ⟨fun _ _ _ _ _ _ hs hf hread hwrite => cmpxadd_completes hs hf hread hwrite,
    fun _ _ _ _ _ _ hs hf hc ha => cmpxadd_raises_of_misaligned hs hf hc ha⟩

/-! ### Opmask moves -/

section
variable {s : State} {N : Nat} {ok : Features → Bool} {k i : ShortId} {m : Mem} {reg : RegId}

/-- `kmovLoad_ok` read as a completion, from an opmask register. -/
theorem kmovLoad_k_completes (hs : s.apxEnabled = true) (hf : ok s.params.features = true)
    (hk : shortIdOk s.params k = true) (hi : shortIdOk s.params i = true) (hts : s.ctrl.cr0Ts = false) :
    finish (kmovLoad N ok k (.k i) s) = .next (s.setK k.id (((s.getK i.id).setWidth N).setWidth 64)) :=
  finish_next.2 ((kmovLoad_ok N ok k (.k i)).2 ⟨hs, hf, hk, hts, hi, rfl⟩)

/-- `kmovLoad_ok` read as a completion, from memory. -/
theorem kmovLoad_mem_completes (hs : s.apxEnabled = true) (hf : ok s.params.features = true)
    (hk : shortIdOk s.params k = true) (hts : s.ctrl.cr0Ts = false) (hm : rmReady s N (.mem m)) :
    finish (kmovLoad N ok k (.mem m) s) = .next (s.setK k.id ((memValue s N (linAddr s m)).setWidth 64)) :=
  finish_next.2 ((kmovLoad_ok N ok k (.mem m)).2 ⟨hs, hf, hk, hts, hm, rfl⟩)

/-- `kmovFromGpr_ok` read as a completion. -/
theorem kmovFromGpr_completes (hs : s.apxEnabled = true) (hf : ok s.params.features = true)
    (hk : shortIdOk s.params k = true) (hts : s.ctrl.cr0Ts = false) :
    finish (kmovFromGpr N ok k reg s) = .next (s.setK k.id ((s.readGpr N reg).setWidth 64)) :=
  finish_next.2 ((kmovFromGpr_ok N ok k reg).2 ⟨hs, hf, hk, hts, rfl⟩)

/-- `kmovToGpr_ok` read as a completion. -/
theorem kmovToGpr_completes (hs : s.apxEnabled = true) (hf : ok s.params.features = true)
    (hk : shortIdOk s.params k = true) (hts : s.ctrl.cr0Ts = false) :
    finish (kmovToGpr N ok reg k s) =
      .next (s.writeGpr 64 reg (((s.getK k.id).setWidth N).setWidth 64) false) :=
  finish_next.2 ((kmovToGpr_ok N ok reg k).2 ⟨hs, hf, hk, hts, rfl⟩)

/-- `kmovStore_ok` read as a completion. -/
theorem kmovStore_completes (hs : s.apxEnabled = true) (hf : ok s.params.features = true)
    (hk : shortIdOk s.params k = true) (hts : s.ctrl.cr0Ts = false) (hm : dstReady s N (.mem m)) :
    finish (kmovStore N ok m k s) = .next (putDst s N (.mem m) ((s.getK k.id).setWidth N)) :=
  finish_next.2 ((kmovStore_ok N ok m k).2 ⟨hs, hf, hk, hts, hm, rfl⟩)

end

/-- Settles O46: one completion for each direction, whatever the width. -/
theorem opmaskMoves : Obligations.OpmaskMoves := by
  refine ⟨?kmovbKK, ?kmovbKM, ?kmovbKR, ?kmovbRK, ?kmovbMK, ?kmovdRK, ?kmovdKK, ?kmovdKM, ?kmovdKR, ?kmovdMK,
    ?kmovqKK, ?kmovqKM, ?kmovqKR, ?kmovqRK, ?kmovqMK, ?kmovwKK, ?kmovwKM, ?kmovwKR, ?kmovwRK, ?kmovwMK⟩
  case kmovbKK | kmovdKK | kmovqKK | kmovwKK =>
    exact fun _ _ _ hs hf hk hi hts => kmovLoad_k_completes hs hf hk hi hts
  case kmovbKM | kmovdKM | kmovqKM | kmovwKM =>
    exact fun _ _ _ hs hf hk hts hm => kmovLoad_mem_completes hs hf hk hts hm
  case kmovbKR | kmovdKR | kmovqKR | kmovwKR =>
    exact fun _ _ _ hs hf hk hts => kmovFromGpr_completes hs hf hk hts
  case kmovbRK | kmovdRK | kmovqRK | kmovwRK =>
    exact fun _ _ _ hs hf hk hts => kmovToGpr_completes hs hf hk hts
  case kmovbMK | kmovdMK | kmovqMK | kmovwMK =>
    exact fun _ _ _ hs hf hk hts hm => kmovStore_completes hs hf hk hts hm

/-! ### Tiles -/

section
variable {s : State} {m : Mem} {k : ShortId}

/-- `loadTileConfig_ok` read as a completion. -/
theorem loadTileConfig_completes (hs : s.apxEnabled = true) (hf : s.params.features.amxTile = true)
    (hread : accessOk s (memAccess s m 64 .read false 1))
    (hcfg : memValue s 512 (linAddr s m) ∉ s.params.tileCfgRejected) :
    finish (loadTileConfig m s) =
      .next (s.withTile (Config.loadTileCfg s.tile (memValue s 512 (linAddr s m)))) :=
  finish_next.2 ((loadTileConfig_ok m).2
    ⟨hs, hf, hread, Bool.eq_false_iff.2 (hcfg ∘ List.contains_iff_mem.1), rfl⟩)

/-- `storeTileConfig_ok` read as a completion. -/
theorem storeTileConfig_completes (hs : s.apxEnabled = true) (hf : s.params.features.amxTile = true)
    (hwrite : accessOk s (memAccess s m 64 .write false 1)) :
    finish (storeTileConfig m s) = .next (s.poke (linAddr s m) 64 (Config.tileCfgBytes s.tile).toNat) :=
  finish_next.2 ((storeTileConfig_ok m).2 ⟨hs, hf, hwrite, rfl⟩)

/-- `tileLoad_ok` read as a completion. -/
theorem tileLoad_completes (hs : s.apxEnabled = true) (ht : tileReady s k) (hsib : hasSib m.form = true)
    (hrows : rowsReady s m (s.tileShape k.id).colsb .read 0 (s.tileShape k.id).rows) :
    finish (tileLoad k m s) =
      .next (s.withTile (tileWithContents s.tile (Config.tileLoad s.tile.contents k.id.toNat
        (tileRows s m (s.tileShape k.id).colsb 0 (s.tileShape k.id).rows)))) :=
  finish_next.2 (tileLoad_ok.2 ⟨hs, ⟨ht, hsib⟩, hrows, rfl⟩)

/-- `tileStore_ok` read as a completion. -/
theorem tileStore_completes (hs : s.apxEnabled = true) (ht : tileReady s k) (hsib : hasSib m.form = true)
    (hrows : rowsReady s m (s.tileShape k.id).colsb .write 0 (s.tileShape k.id).rows) :
    finish (tileStore m k s) =
      .next (s.withMem (writeRows s m k.id (s.tileShape k.id).colsb 0 s.mem (s.tileShape k.id).rows)) :=
  finish_next.2 (tileStore_ok.2 ⟨hs, ⟨ht, hsib⟩, hrows, rfl⟩)

end

/-- Settles O47, by what each operation completes with; TILELOADDT1 loads as TILELOADD does. -/
theorem tileInstructions : Obligations.TileInstructions :=
  ⟨fun _ _ hs hf hread hcfg => loadTileConfig_completes hs hf hread hcfg,
    fun _ _ hs hf hwrite => storeTileConfig_completes hs hf hwrite,
    fun _ _ _ hs ht hsib hrows => tileLoad_completes hs ht hsib hrows,
    fun _ _ _ hs ht hsib hrows => tileLoad_completes hs ht hsib hrows,
    fun _ _ _ hs ht hsib hrows => tileStore_completes hs ht hsib hrows⟩

end Sys2Proof.Machine
end

section
/-! O48 and O49. That the Key Locker and SHA instructions, the invalidations and the shadow-stack writes go on with
their results (44_promoted_system_crypto.md). -/
namespace Sys2Proof.Machine

section
variable {s : State} {m : Mem}

/-! ### Key Locker and SHA -/

/-- `klBlock_ok` read as a completion: ZF is the refusal of the handle, the other flags are 0. -/
theorem klBlock_completes {H : Nat} {f : BitVec H → Xmm → Nat → Bool × Xmm} {x : BitVec 4} (hs : s.apxEnabled = true)
    (hkl : klReady s s.params.features.keylocker) (hread : accessOk s (memAccess s m (H / 8) .read false 1)) :
    finish (klBlock H f x m s) =
      .next ((s.withXmm (if (f (memValue s H (linAddr s m)) (s.getXmm x) s.iwkey).1 = true then
        s.xmm.set x.toNat (f (memValue s H (linAddr s m)) (s.getXmm x) s.iwkey).2 else s.xmm)).setFlags
        ⟨false, false, false, !(f (memValue s H (linAddr s m)) (s.getXmm x) s.iwkey).1, false, false⟩) :=
  finish_next.2 ((klBlock_ok H f x m).2 ⟨hs, hkl, hread, rfl⟩)

/-- `klWide_ok` read as a completion: ZF is the refusal of the handle, the other flags are 0. -/
theorem klWide_completes {H : Nat} {f : BitVec H → Vector Xmm 8 → Nat → Bool × Vector Xmm 8}
    (hs : s.apxEnabled = true) (hkl : klReady s s.params.features.keylockerWide)
    (hread : accessOk s (memAccess s m (H / 8) .read false 1)) :
    finish (klWide H f m s) =
      .next ((s.withXmm (if (f (memValue s H (linAddr s m)) s.lowXmm s.iwkey).1 = true then
        setLowXmm s.xmm (f (memValue s H (linAddr s m)) s.lowXmm s.iwkey).2 else s.xmm)).setFlags
        ⟨false, false, false, !(f (memValue s H (linAddr s m)) s.lowXmm s.iwkey).1, false, false⟩) :=
  finish_next.2 ((klWide_ok H f m).2 ⟨hs, hkl, hread, rfl⟩)

/-- `sha_ok` read as a completion. -/
theorem sha_completes {f : Xmm → Xmm → Xmm} {x : BitVec 4} {src : XRM} (hs : s.apxEnabled = true)
    (hsha : shaReady s) (hsrc : xrmReady s src) :
    finish (sha f x src s) = .next (s.setXmm x (f (s.getXmm x) (xrmValue s src))) :=
  finish_next.2 ((sha_ok f x src).2 ⟨hs, hsha, hsrc, rfl⟩)

/-! ### Invalidations -/

section
variable {reg : RegId}

/-- `invept_ok` read as a completion: no effect but free flags. -/
theorem invept_completes (hs : s.apxEnabled = true) (hvmx : s.params.features.vmx = true)
    (hin : s.ctrl.inVmxOperation = true) (hept : s.ctrl.eptSupported = true) (hinv : s.ctrl.inveptSupported = true)
    (hcpl : s.cpl = 0) (hread : accessOk s (memAccess s m 16 .read false 1)) :
    finish (invept reg m s) = .next (s.setFlags s.anyFlags) :=
  finish_next.2 ((invept_ok reg m).2 ⟨hs, hvmx, hin, hept, hinv, hcpl, hread, rfl⟩)

/-- `invvpid_ok` read as a completion: no effect but free flags. -/
theorem invvpid_completes (hs : s.apxEnabled = true) (hvmx : s.params.features.vmx = true)
    (hin : s.ctrl.inVmxOperation = true) (hvpid : s.ctrl.vpidSupported = true) (hinv : s.ctrl.invvpidSupported = true)
    (hcpl : s.cpl = 0) (hread : accessOk s (memAccess s m 16 .read false 1)) :
    finish (invvpid reg m s) = .next (s.setFlags s.anyFlags) :=
  finish_next.2 ((invvpid_ok reg m).2 ⟨hs, hvmx, hin, hvpid, hinv, hcpl, hread, rfl⟩)

/-- `invpcid_ok` read as a completion: the flags stay too. -/
theorem invpcid_completes (hs : s.apxEnabled = true) (hf : s.params.features.invpcid = true) (hcpl : s.cpl = 0)
    (htype : (s.getGpr reg).toNat ≤ 3) (hread : accessOk s (memAccess s m 16 .read false 1))
    (hdesc : invpcidDescOk s (s.getGpr reg) (memValue s 128 (linAddr s m)) = true) :
    finish (invpcid reg m s) = .next s :=
  finish_next.2 ((invpcid_ok reg m).2 ⟨hs, hf, hcpl, htype, hread, hdesc, rfl⟩)

/-! ### Shadow-stack writes -/

/-- `wrss_ok` read as a completion: the privilege level picks the kind of shadow stack. -/
theorem wrss_completes {N : Nat} (hs : s.apxEnabled = true) (hcet : s.params.features.cet = true)
    (hcr4 : s.ctrl.cr4Cet = true) (hwrss : wrssEnabled s = true)
    (hwrite : accessOk s
      (shadowAccess s m (N / 8) (if s.cpl = 3 then .shadowUser else .shadowSupervisor))) :
    finish (wrss N m reg s) = .next (s.poke (linAddr s m) (N / 8) (s.readGpr N reg).toNat) :=
  finish_next.2 ((wrss_ok N m reg).2 ⟨hs, hcet, hcr4, hwrss, hwrite, rfl⟩)

/-- `wruss_ok` read as a completion. -/
theorem wruss_completes {N : Nat} (hs : s.apxEnabled = true) (hcet : s.params.features.cet = true)
    (hcr4 : s.ctrl.cr4Cet = true) (hcpl : s.cpl = 0)
    (hwrite : accessOk s (shadowAccess s m (N / 8) .shadowUser)) :
    finish (wruss N m reg s) = .next (s.poke (linAddr s m) (N / 8) (s.readGpr N reg).toNat) :=
  finish_next.2 ((wruss_ok N m reg).2 ⟨hs, hcet, hcr4, hcpl, hwrite, rfl⟩)

end

end

/-- Settles O48: one completion for each class, whatever the cipher or hash function. ENCODEKEY leaves in xmm4..xmm6
the free values of the state. -/
theorem keyLockerAndSha : Obligations.KeyLockerAndSha := by
  refine ⟨?aesdec128, ?aesdec256, ?aesdecWide128, ?aesdecWide256, ?aesenc128, ?aesenc256, ?aesencWide128,
    ?aesencWide256, ?encodekey128, ?encodekey256, ?sha1msg1, ?sha1msg2, ?sha1nexte, ?sha1rnds4, ?sha256msg1,
    ?sha256msg2, ?sha256rnds2⟩
  case aesdec128 | aesdec256 | aesenc128 | aesenc256 =>
    exact fun _ _ _ hs hkl hread => klBlock_completes hs hkl hread
  case aesdecWide128 | aesdecWide256 | aesencWide128 | aesencWide256 =>
    exact fun _ _ hs hkl hread => klWide_completes hs hkl hread
  case encodekey128 =>
    exact fun s reg b hs hkl =>
      ⟨Config.freeXmm s.free 4, Config.freeXmm s.free 5, Config.freeXmm s.free 6,
        finish_next.2 ((encodeKey128_ok reg b).2 ⟨hs, hkl, rfl⟩)⟩
  case encodekey256 =>
    exact fun s reg b hs hkl =>
      ⟨Config.freeXmm s.free 4, Config.freeXmm s.free 5, Config.freeXmm s.free 6,
        finish_next.2 ((encodeKey256_ok reg b).2 ⟨hs, hkl, rfl⟩)⟩
  case sha1msg1 | sha1msg2 | sha1nexte | sha256msg1 | sha256msg2 | sha256rnds2 =>
    exact fun _ _ _ hs hsha hsrc => sha_completes hs hsha hsrc
  case sha1rnds4 =>
    exact fun _ _ _ _ hs hsha hsrc => sha_completes hs hsha hsrc

/-- Settles O49, by what each operation completes with; the free flags of INVEPT and INVVPID are those of the state. -/
theorem invalidationsAndShadowStackWrites : Obligations.InvalidationsAndShadowStackWrites :=
  ⟨fun s _ _ hs hvmx hin hept hinv hcpl hread => ⟨s.anyFlags, invept_completes hs hvmx hin hept hinv hcpl hread⟩,
    fun _ _ _ hs hf hcpl htype hread hdesc => invpcid_completes hs hf hcpl htype hread hdesc,
    fun s _ _ hs hvmx hin hvpid hinv hcpl hread => ⟨s.anyFlags, invvpid_completes hs hvmx hin hvpid hinv hcpl hread⟩,
    fun _ _ _ hs hcet hcr4 hwrss hwrite => wrss_completes hs hcet hcr4 hwrss hwrite,
    fun _ _ _ hs hcet hcr4 hwrss hwrite => wrss_completes hs hcet hcr4 hwrss hwrite,
    fun _ _ _ hs hcet hcr4 hcpl hwrite => wruss_completes hs hcet hcr4 hcpl hwrite,
    fun _ _ _ hs hcet hcr4 hcpl hwrite => wruss_completes hs hcet hcr4 hcpl hwrite⟩

end Sys2Proof.Machine
end

section
/-! O34, O35, O38, O51, O52 and O55. The REX2 forms of the legacy instructions, CCMPscc and CTESTscc, and JMPABS
(45_jmpabs_rex2.md, 46_conditional.md). -/
namespace Sys2Proof.Machine

/-! ### Arithmetic, logic, shifts and rotates -/

/-- Settles O34, by `evexArithmeticAndLogic`: a REX2 form means what the EVEX form means without an NDD register and
with NF = 0 (45_jmpabs_rex2.md R377). -/
theorem rex2ArithmeticAndLogic : Obligations.Rex2ArithmeticAndLogic := by
  obtain ⟨adcRmR, adcRRm, adcRmImm, adcRmI8, addRmR, addRRm, addRmImm, addRmI8, andRmR, andRRm, andRmImm, andRmI8,
    orRRm, orRmR, orRmImm, orRmI8, sbbRmR, sbbRRm, sbbRmImm, sbbRmI8, subRmR, subRRm, subRmImm, subRmI8, xorRmR,
    xorRRm, xorRmImm, xorRmI8⟩ := evexArithmeticAndLogic
  exact
    ⟨fun s sz rm reg => addRmR s sz rm reg none false, fun s sz reg rm => addRRm s sz reg rm none false,
      fun s rm imm => addRmImm s rm imm none false, fun s sz rm imm => addRmI8 s sz rm imm none false,
      fun s sz rm reg => orRmR s sz rm reg none false, fun s sz reg rm => orRRm s sz reg rm none false,
      fun s rm imm => orRmImm s rm imm none false, fun s sz rm imm => orRmI8 s sz rm imm none false,
      fun s sz rm reg => adcRmR s sz rm reg none, fun s sz reg rm => adcRRm s sz reg rm none,
      fun s rm imm => adcRmImm s rm imm none, fun s sz rm imm => adcRmI8 s sz rm imm none,
      fun s sz rm reg => sbbRmR s sz rm reg none, fun s sz reg rm => sbbRRm s sz reg rm none,
      fun s rm imm => sbbRmImm s rm imm none, fun s sz rm imm => sbbRmI8 s sz rm imm none,
      fun s sz rm reg => andRmR s sz rm reg none false, fun s sz reg rm => andRRm s sz reg rm none false,
      fun s rm imm => andRmImm s rm imm none false, fun s sz rm imm => andRmI8 s sz rm imm none false,
      fun s sz rm reg => subRmR s sz rm reg none false, fun s sz reg rm => subRRm s sz reg rm none false,
      fun s rm imm => subRmImm s rm imm none false, fun s sz rm imm => subRmI8 s sz rm imm none false,
      fun s sz rm reg => xorRmR s sz rm reg none false, fun s sz reg rm => xorRRm s sz reg rm none false,
      fun s rm imm => xorRmImm s rm imm none false, fun s sz rm imm => xorRmI8 s sz rm imm none false⟩

/-- Settles O38: the forms differ in the operation and in where the count comes from, and `shift_completes` is about
all of them; the undefined flags are the free values of the state. -/
theorem rex2ShiftsAndRotates : Obligations.Rex2ShiftsAndRotates := by
  refine ⟨?rolI8, ?rorI8, ?rclI8, ?rcrI8, ?shlI8, ?shrI8, ?sarI8, ?rolOne, ?rorOne, ?rclOne, ?rcrOne, ?shlOne, ?shrOne,
    ?sarOne, ?rolCl, ?rorCl, ?rclCl, ?rcrCl, ?shlCl, ?shrCl, ?sarCl⟩
  case shlI8 => exact fun s _ _ _ _ hs hrm hd => ⟨s.anyFlag, shift_completes hs hrm hd⟩
  case rolI8 | rorI8 | rclI8 | rcrI8 | shrI8 | sarI8 | shlOne | shlCl =>
    exact fun s _ _ _ hs hrm hd => ⟨s.anyFlag, shift_completes hs hrm hd⟩
  case rolOne | rorOne | rclOne | rcrOne | shrOne | sarOne | rolCl | rorCl | rclCl | rcrCl | shrCl | sarCl =>
    exact fun s _ _ hs hrm hd => ⟨s.anyFlag, shift_completes hs hrm hd⟩

section
variable {s : State} {N M : Nat} {d : Dst} {x y : Src} {scc : Scc} {dfv : Dfv} {sg : Bool} {reg : RegId} {m : Mem}
  {target : Word}

/-! ### Comparisons and tests -/

/-- `compare_ok` read as a completion. -/
theorem compare_completes (hs : s.apxEnabled = true) (hx : srcReady s N x) (hy : srcReady s N y) :
    finish (compare N x y s) = .next (s.setFlags (subFlags (srcValue s N x) (srcValue s N y) false)) :=
  finish_next.2 ((compare_ok N x y).2 ⟨hs, hx, hy, rfl⟩)

/-- `testBits_ok` read as a completion. -/
theorem testBits_completes (hs : s.apxEnabled = true) (hx : srcReady s N x) (hy : srcReady s N y) :
    finish (testBits N x y s) =
      .next (s.setFlags (logicFlags (s.anyFlag 0) (srcValue s N x &&& srcValue s N y))) :=
  finish_next.2 ((testBits_ok N x y).2 ⟨hs, hx, hy, rfl⟩)

/-- `condCompare_ok` read as a completion: the operands are read whatever the condition. -/
theorem condCompare_completes (hs : s.apxEnabled = true) (hx : srcReady s N x) (hy : srcReady s N y) :
    finish (condCompare scc dfv N x y s) =
      .next (s.setFlags (if s.flags.scc scc then subFlags (srcValue s N x) (srcValue s N y) false else
        dfvFlags dfv)) :=
  finish_next.2 ((condCompare_ok scc dfv N x y).2 ⟨hs, hx, hy, rfl⟩)

/-- `condTest_ok` read as a completion: the operands are read whatever the condition. -/
theorem condTest_completes (hs : s.apxEnabled = true) (hx : srcReady s N x) (hy : srcReady s N y) :
    finish (condTest scc dfv N x y s) =
      .next (s.setFlags (if s.flags.scc scc then logicFlags (s.anyFlag 0) (srcValue s N x &&& srcValue s N y) else
        dfvFlags dfv)) :=
  finish_next.2 ((condTest_ok scc dfv N x y).2 ⟨hs, hx, hy, rfl⟩)

/-! ### Moves, the stack and JMPABS -/

/-- `move_ok` read as a completion. -/
theorem move_completes (hs : s.apxEnabled = true) (hx : srcReady s N x) (hd : dstReady s N d) :
    finish (move N d x s) = .next (putDst s N d (srcValue s N x)) :=
  finish_next.2 ((move_ok N d x).2 ⟨hs, hx, hd, rfl⟩)

/-- `lea_ok` read as a completion: nothing is accessed. -/
theorem lea_completes (hs : s.apxEnabled = true) :
    finish (lea N reg m s) = .next (s.writeGpr N reg ((effAddr s m).setWidth N) false) :=
  finish_next.2 ((lea_ok N reg m).2 ⟨hs, rfl⟩)

/-- `moveExtend_ok` read as a completion. -/
theorem moveExtend_completes (hs : s.apxEnabled = true) (hx : srcReady s M x) :
    finish (moveExtend N M sg reg x s) =
      .next (s.writeGpr N reg (if sg then (srcValue s M x).signExtend N else (srcValue s M x).setWidth N) false) :=
  finish_next.2 ((moveExtend_ok N M sg reg x).2 ⟨hs, hx, rfl⟩)

/-- `push_ok` read as a completion. -/
theorem push_completes (hs : s.apxEnabled = true) (hx : srcReady s 64 x)
    (hwrite : accessOk s (stackAccess (s.rsp - 8) 8 .write true)) :
    finish (push x s) = .next ((s.poke (s.rsp - 8) 8 (srcValue s 64 x).toNat).setGpr 4 (s.rsp - 8)) :=
  finish_next.2 ((push_ok x).2 ⟨hs, hx, hwrite, rfl⟩)

/-- `pop_ok` read as a completion: the destination is that of the state with RSP already raised. -/
theorem pop_completes (hs : s.apxEnabled = true) (hread : accessOk s (stackAccess s.rsp 8 .read true))
    (hd : dstReady (s.setGpr 4 (s.rsp + 8)) 64 d) :
    finish (pop d s) = .next (putDst (s.setGpr 4 (s.rsp + 8)) 64 d (memValue s 64 s.rsp)) :=
  finish_next.2 ((pop_ok d).2 ⟨hs, hread, hd, rfl⟩)

/-- `jumpAbs_ok` read as a completion. -/
theorem jumpAbs_completes (hs : s.apxEnabled = true) (hc : canonical s.params.laWidth target = true) :
    finish (jumpAbs target s) = .next (s.withRip target) :=
  finish_next.2 ((jumpAbs_ok target).2 ⟨hs, hc, rfl⟩)

theorem jumpAbs_raises (hs : s.apxEnabled = true) (hc : canonical s.params.laWidth target = false) :
    finish (jumpAbs target s) = takeException .gp :=
  raises_after_gate hs rfl (bind_eq_error (by rw [hc, require_false]))

end

/-- Settles O35, by what each operation completes with; the AF of a test is a free value of the state. -/
theorem compareAndTest : Obligations.CompareAndTest :=
  ⟨fun _ _ _ _ _ _ hs hrm => condCompare_completes hs hrm trivial,
    fun _ _ _ _ _ _ hs hrm => condCompare_completes hs trivial hrm,
    fun _ _ _ _ _ hs hrm => condCompare_completes hs hrm trivial,
    fun _ _ _ _ _ _ hs hrm => condCompare_completes hs hrm trivial,
    fun s _ _ _ _ _ hs hrm => ⟨s.anyFlag 0, condTest_completes hs hrm trivial⟩,
    fun s _ _ _ _ _ hs hrm => ⟨s.anyFlag 0, condTest_completes hs hrm trivial⟩,
    fun _ _ _ _ hs hrm => compare_completes hs hrm trivial,
    fun _ _ _ _ hs hrm => compare_completes hs trivial hrm,
    fun _ _ _ hs hrm => compare_completes hs hrm trivial,
    fun _ _ _ _ hs hrm => compare_completes hs hrm trivial,
    fun s _ _ _ hs hrm => ⟨s.anyFlag 0, testBits_completes hs hrm trivial⟩,
    fun s _ _ _ hs hrm => ⟨s.anyFlag 0, testBits_completes hs hrm trivial⟩⟩

/-- Settles O51, by what each operation completes with; a register destination and an immediate need no access. -/
theorem rex2DataMoves : Obligations.Rex2DataMoves :=
  ⟨fun _ _ _ _ hs hd => move_completes hs trivial hd,
    fun _ _ _ _ hs hrm => move_completes hs hrm dstReg_ready,
    fun _ _ _ hs hd => move_completes hs trivial hd,
    fun _ _ _ hs => move_completes hs trivial trivial,
    fun _ _ _ _ hs => lea_completes hs,
    fun _ _ _ _ hs hrm => moveExtend_completes hs hrm,
    fun _ _ _ _ _ hs hrm => moveExtend_completes hs hrm,
    fun _ _ _ _ _ hs hrm => moveExtend_completes hs hrm⟩

/-- Settles O52, by `push_completes` and `pop_completes`; PUSHP and POPP do what PUSH and POP do. -/
theorem pushAndPop : Obligations.PushAndPop :=
  ⟨fun _ _ hs hrm hwrite => push_completes hs hrm hwrite,
    fun _ _ hs hread hd => pop_completes hs hread hd,
    fun _ _ hs hwrite => push_completes hs trivial hwrite,
    fun _ _ hs hwrite => push_completes hs trivial hwrite,
    fun _ _ hs hread => pop_completes hs hread trivial,
    fun _ _ hs hread => pop_completes hs hread trivial⟩

/-- Settles O55: the canonical check is all that stands between the open gate and the jump. -/
theorem absoluteJump : Obligations.AbsoluteJump :=
  ⟨fun _ _ hs hc => jumpAbs_completes hs hc, fun _ _ hs hc => jumpAbs_raises hs hc⟩

end Sys2Proof.Machine
end

section
/-! O53 and O54. That PUSH2 and POP2 go on, when they raise #UD and #GP(0), and that POP2 with the operands exchanged
undoes PUSH2 (47_push2_pop2.md R420 to R424). -/
namespace Sys2Proof.Machine

/-! ### Values in memory -/

section
variable {s : State}

/-- A stored register value is read back. -/
theorem memValue_poke_self (hs : s.memOk) (a v : Word) : memValue (s.poke a 8 v.toNat) 64 a = v := by
  have hbytes : readBytes (s.poke a 8 v.toNat).mem a 8 = leBytes 8 v.toNat := readBytes_poke hs a 8 _ (by norm_num)
  rw [memValue, hbytes, leValue_leBytes, show 256 ^ 8 = 2 ^ 64 by norm_num, Nat.mod_eq_of_lt v.isLt, BitVec.ofNat_toNat,
    BitVec.setWidth_eq]

/-- A store leaves a value alone that shares no byte with it. -/
theorem memValue_poke_of_disjoint (hs : s.memOk) {a x : Word} {n N : Nat} (v : Nat)
    (h : ∀ j < N / 8, ∀ i < n, x + BitVec.ofNat 64 j ≠ a + BitVec.ofNat 64 i) :
    memValue (s.poke a n v) N x = memValue s N x := by
  have hbytes : readBytes (s.poke a n v).mem x (N / 8) = readBytes s.mem x (N / 8) :=
    readBytes_congr x _ fun j hj => State.byteAt_poke_of_notMem hs a n v _ (h j hj)
  rw [memValue, hbytes, memValue]

/-- The eight bytes behind a stored value are not its own. -/
theorem memValue_poke_behind (hs : s.memOk) (a : Word) (v : Nat) :
    memValue (s.poke a 8 v) 64 (a + 8) = memValue s 64 (a + 8) := by
  refine memValue_poke_of_disjoint hs v fun j hj i hi => ?_
  have hplace : a + 8 + BitVec.ofNat 64 j = a + BitVec.ofNat 64 (8 + j) := by
    rw [BitVec.ofNat_add, ← BitVec.add_assoc]
    rfl
  rw [hplace]
  exact addr_ne (by omega) (by omega) (by omega)

theorem memValue_setGpr (s : State) (r : RegId) (v : Word) (N : Nat) (a : Word) :
    memValue (s.setGpr r v) N a = memValue s N a := rfl

theorem rsp_setGpr (s : State) (v : Word) : (s.setGpr 4 v).rsp = v := by
  rw [State.rsp, State.getGpr_setGpr, if_pos rfl]

end

/-! ### The pair on the stack -/

/-- The state after PUSH2: the first value above the second one, and RSP at the second (47_push2_pop2.md R421). -/
def pushedPair (s : State) (v b : Word) : State :=
  ((s.poke (s.rsp - 8) 8 v.toNat).poke (s.rsp - 16) 8 b.toNat).setGpr 4 (s.rsp - 16)

section
variable {s : State} {v b : RegId}

theorem rsp_pushedPair (s : State) (x y : Word) : (pushedPair s x y).rsp = s.rsp - 16 := rsp_setGpr _ _

theorem getGpr_pushedPair (s : State) (x y : Word) {r : RegId} (hr : r ≠ 4) :
    (pushedPair s x y).getGpr r = s.getGpr r := by
  rw [pushedPair, State.getGpr_setGpr, if_neg hr.symm, State.getGpr_poke, State.getGpr_poke]

theorem memValue_pushedPair_low (hs : s.memOk) (x y : Word) :
    memValue (pushedPair s x y) 64 (s.rsp - 16) = y := by
  have hmem : (s.poke (s.rsp - 8) 8 x.toNat).memOk := Memory.wf_poke hs _ _ _
  rw [pushedPair, memValue_setGpr, memValue_poke_self hmem]

theorem memValue_pushedPair_high (hs : s.memOk) (x y : Word) :
    memValue (pushedPair s x y) 64 (s.rsp - 16 + 8) = x := by
  have hmem : (s.poke (s.rsp - 8) 8 x.toNat).memOk := Memory.wf_poke hs _ _ _
  have haddr : s.rsp - 16 + 8 = s.rsp - 8 := by bv_omega
  rw [pushedPair, memValue_setGpr, memValue_poke_behind hmem, haddr, memValue_poke_self hs]

/-! ### PUSH2 and POP2 go on -/

/-- `push2_ok` read as a completion. -/
theorem push2_completes (hs : s.apxEnabled = true) (hv : v ≠ 4) (hb : b ≠ 4) (halign : s.rsp.toNat % 16 = 0)
    (hwrite : accessOk s (stackAccess (s.rsp - 16) 16 .write false)) :
    finish (push2 v b s) = .next (pushedPair s (s.getGpr v) (s.getGpr b)) :=
  finish_next.2 ((push2_ok v b).2 ⟨hs, hv, hb, halign, hwrite, rfl⟩)

/-- `pop2_ok` read as a completion. -/
theorem pop2_completes (hs : s.apxEnabled = true) (hv : v ≠ 4) (hb : b ≠ 4) (hvb : v ≠ b)
    (halign : s.rsp.toNat % 16 = 0) (hread : accessOk s (stackAccess s.rsp 16 .read false)) :
    finish (pop2 v b s) =
      .next (((s.setGpr v (memValue s 64 s.rsp)).setGpr b (memValue s 64 (s.rsp + 8))).setGpr 4 (s.rsp + 16)) :=
  finish_next.2 ((pop2_ok v b).2 ⟨hs, hv, hb, hvb, halign, hread, rfl⟩)

/-! ### Operands and an RSP that are refused -/

theorem pushPairGate_closed (h : v = 4 ∨ b = 4) : (v != 4 && b != 4) = false := by
  rwa [Bool.and_eq_false_iff, bne_eq_false_iff_eq, bne_eq_false_iff_eq]

theorem popPairGate_closed (h : v = 4 ∨ b = 4 ∨ v = b) : (v != 4 && b != 4 && v != b) = false := by
  rwa [and3_eq_false, bne_eq_false_iff_eq, bne_eq_false_iff_eq, bne_eq_false_iff_eq]

/-- The alignment of RSP is checked right behind the gate (47_push2_pop2.md R420; 60_exceptions.md R456). -/
theorem raises_of_misaligned_rsp {ok : Bool} {f : Unit → Except Exc State} (hs : s.apxEnabled = true) (hok : ok = true)
    (halign : s.rsp.toNat % 16 ≠ 0) :
    finish (gate s ok >>= fun _ => require (s.rsp.toNat % 16 == 0) .gp >>= f) = takeException .gp :=
  raises_after_gate hs hok (bind_eq_error (by rw [beq_eq_false_iff_ne.2 halign, require_false]))

theorem push2_raises_of_misaligned (hs : s.apxEnabled = true) (hv : v ≠ 4) (hb : b ≠ 4)
    (halign : s.rsp.toNat % 16 ≠ 0) : finish (push2 v b s) = takeException .gp :=
  raises_of_misaligned_rsp hs (by rw [bne_iff_ne.2 hv, bne_iff_ne.2 hb, Bool.and_self]) halign

theorem pop2_raises_of_misaligned (hs : s.apxEnabled = true) (hv : v ≠ 4) (hb : b ≠ 4) (hvb : v ≠ b)
    (halign : s.rsp.toNat % 16 ≠ 0) : finish (pop2 v b s) = takeException .gp :=
  raises_of_misaligned_rsp hs
    (by rw [bne_iff_ne.2 hv, bne_iff_ne.2 hb, bne_iff_ne.2 hvb, Bool.and_self, Bool.and_self]) halign

end

/-- Settles O54: the pair lies on the stack in the order in which POP2 with the operands exchanged reads it, and RSP,
which POP2 writes last, comes back by the same 16. -/
theorem popPairUndoesPushPair : Obligations.PopPairUndoesPushPair := by
  intro s t u v b hs hpush hpop r
  obtain ⟨-, -, -, -, -, hpushed⟩ := (push2_ok v b).1 (finish_next.1 hpush)
  obtain rfl : t = pushedPair s (s.getGpr v) (s.getGpr b) := hpushed
  obtain ⟨-, -, -, -, -, -, rfl⟩ := (pop2_ok b v).1 (finish_next.1 hpop)
  rw [rsp_pushedPair, memValue_pushedPair_low hs, memValue_pushedPair_high hs]
  simp only [State.getGpr_setGpr]
  split_ifs with hr4 hrv hrb
  case pos =>
    subst hr4
    exact BitVec.sub_add_cancel _ _
  case pos => rw [hrv]
  case pos => rw [hrb]
  case neg => exact getGpr_pushedPair s _ _ (Ne.symm hr4)

/-- Settles O53: the four forms are two operations; the #UD is that of a closed gate. -/
theorem pushAndPopPairs : Obligations.PushAndPopPairs := by
  refine ⟨?push2, ?push2p, ?pop2, ?pop2p, ?push2Ud, ?push2Gp, ?push2pUd, ?push2pGp, ?pop2Ud, ?pop2Gp, ?pop2pUd,
    ?pop2pGp⟩
  case push2 | push2p => exact fun _ _ _ => push2_completes
  case pop2 | pop2p => exact fun _ _ _ => pop2_completes
  case push2Ud | push2pUd => exact fun _ _ _ _ h => exec_ud_of_gate (pushPairGate_closed h)
  case pop2Ud | pop2pUd => exact fun _ _ _ _ h => exec_ud_of_gate (popPairGate_closed h)
  case push2Gp | push2pGp => exact fun _ _ _ => push2_raises_of_misaligned
  case pop2Gp | pop2pGp => exact fun _ _ _ => pop2_raises_of_misaligned

end Sys2Proof.Machine
end

section
/-! O6, O7 and O8. What a step runs or where it stops, by what the bytes at RIP decode to (70_reset_and_hazards.md R495
to R497). -/
namespace Sys2Proof.Machine

section
variable {s : State}

/-! ### The fetch -/

theorem fetchBytes_succ_of_noFault {i n : Nat} (h : fetchFault s i = none) :
    fetchBytes s i (n + 1) =
      (memRead s.mem (s.rip.toNat + i) :: (fetchBytes s (i + 1) n).1, (fetchBytes s (i + 1) n).2) := by
  rw [fetchBytes, h]

/-- Bytes that lie behind RIP and can be fetched are fetched first, whatever follows them. -/
theorem fetchBytes_of_bytes {bs : List Byte} {i : Nat} (m : Nat)
    (hfetch : ∀ j < bs.length, fetchFault s (i + j) = none)
    (hbytes : ∀ j < bs.length, bs[j]? = some (memRead s.mem (s.rip.toNat + (i + j)))) :
    (fetchBytes s i (bs.length + m)).1 = bs ++ (fetchBytes s (i + bs.length) m).1 := by
  induction bs generalizing i with
  | nil => simp
  | cons b bs ih =>
    have hnext (j : Nat) : i + 1 + j = i + (j + 1) := by omega
    have hhead : some b = some (memRead s.mem (s.rip.toNat + i)) := hbytes 0 (Nat.succ_pos _)
    have hfault : fetchFault s i = none := hfetch 0 (Nat.succ_pos _)
    have htail := ih (i := i + 1)
      (fun j hj => by rw [hnext]; exact hfetch (j + 1) (Nat.succ_lt_succ hj))
      (fun j hj => by rw [hnext]; exact hbytes (j + 1) (Nat.succ_lt_succ hj))
    rw [List.length_cons, Nat.add_right_comm, fetchBytes_succ_of_noFault hfault, htail, hnext, List.cons_append,
      Option.some.inj hhead]

/-- A byte that can be fetched does not lie past the wrap of RIP at 2^64 (20_memory.md R87). -/
theorem rip_add_lt_of_noFault {j : Nat} (h : fetchFault s j = none) : s.rip.toNat + j < 2 ^ 64 := by
  by_contra hwrap
  rw [fetchFault, if_pos (Nat.le_of_not_lt hwrap)] at h
  split at h <;> exact nomatch h

theorem byteAt_rip_of_noFault {j : Nat} (h : fetchFault s j = none) :
    s.byteAt (s.rip + BitVec.ofNat 64 j) = memRead s.mem (s.rip.toNat + j) := by
  rw [State.byteAt, BitVec.toNat_add, BitVec.toNat_ofNat, Nat.add_mod_mod, Nat.mod_eq_of_lt (rip_add_lt_of_noFault h)]

/-! ### The step -/

theorem step_at_stopAddress (h : s.params.stopAddress = some s.rip) : step s = .fault .stopAddress := by
  rw [step, if_pos h]

/-- Away from the stop address the step is what the bytes at RIP decode to (70_reset_and_hazards.md R495). -/
theorem step_of_decoded {d : Decoded} (h : s.params.stopAddress ≠ some s.rip)
    (hd : decode (fetchBytes s 0 15).1 = d) :
    step s = runDecoded s (fetchBytes s 0 15).1 (fetchBytes s 0 15).2 d := by
  rw [step, if_neg h, maxLength, hd]

/-- A refused encoding names an absent register only as a MOV to or from one (10_state.md R42). -/
theorem namesAbsentRegister_iff {p : Params} {r : DecodeRefusal} :
    namesAbsentRegister p r = true ↔
      ∃ id, (r = .movSystemReg false id ∧ id ∉ p.controlRegs) ∨ (r = .movSystemReg true id ∧ id ∉ p.debugRegs) := by
  cases r with
  | movSystemReg dr id => cases dr <;> simp [namesAbsentRegister]
  | _ => simp [namesAbsentRegister]

/-- The registers that a refused encoding names exist. -/
theorem namesAbsentRegister_eq_false {p : Params} {r : DecodeRefusal}
    (h : ∀ id, (r = .movSystemReg false id → id ∈ p.controlRegs) ∧ (r = .movSystemReg true id → id ∈ p.debugRegs)) :
    namesAbsentRegister p r = false := by
  rw [← Bool.not_eq_true, namesAbsentRegister_iff]
  rintro ⟨id, ⟨hr, habsent⟩ | ⟨hr, habsent⟩⟩
  · exact habsent ((h id).1 hr)
  · exact habsent ((h id).2 hr)

end

/-- Settles O7: the fetch finds the encoding first, the decoder gives the instruction back and leaves what follows. -/
theorem stepRunsTheEncodedInstruction : Obligations.StepRunsTheEncodedInstruction := by
  intro s i hwf hlen hstop hfetch hbytes
  have hmem : ∀ j < (encode i).length, (encode i)[j]? = some (memRead s.mem (s.rip.toNat + (0 + j))) := by
    intro j hj
    rw [hbytes j hj, byteAt_rip_of_noFault (hfetch j hj), Nat.zero_add]
  have hfetched := fetchBytes_of_bytes (15 - (encode i).length) (fun j hj => by rw [Nat.zero_add, hfetch j hj]) hmem
  rw [Nat.add_sub_cancel' hlen] at hfetched
  rw [step_of_decoded hstop (hfetched ▸ decode_encode hwf _), runDecoded, hfetched, List.length_append,
    Nat.add_sub_cancel_right]

/-- Settles O6: the state the step runs the instruction in is `State.advance`, field by field. -/
theorem stepRunsTheDecodedInstruction : Obligations.StepRunsTheDecodedInstruction := by
  intro s i rest hstop _ hdecode
  rw [step_of_decoded hstop hdecode, runDecoded, State.advance]

/-- Settles O8, one case for each outcome of the decoder that is no instruction. -/
theorem stepStops : Obligations.StepStops := by
  refine ⟨fun _ => step_at_stopAddress, ?ud, ?truncated, ?refused⟩
  case ud =>
    intro s hstop hdecode
    rw [step_of_decoded hstop hdecode, runDecoded]
  case truncated =>
    intro s hstop hdecode
    rw [step_of_decoded hstop hdecode, runDecoded]
    exact ⟨fun e he => by rw [he, truncatedFault, Option.getD_some],
      fun hnone => by rw [hnone, truncatedFault, Option.getD_none]⟩
  case refused =>
    intro s r hstop hdecode
    rw [step_of_decoded hstop hdecode, runDecoded, refuse_eq]
    refine ⟨fun hapx hoff => if_pos (.inl ⟨hapx, hoff⟩), fun hrun =>
      ⟨fun habsent => if_pos (.inr (namesAbsentRegister_iff.2 habsent)), fun hpresent => if_neg ?_⟩⟩
    rintro (⟨hapx, hoff⟩ | habsent)
    · rcases hrun with hnot | hon
      · exact Bool.false_ne_true (hnot.symm.trans hapx)
      · exact Bool.false_ne_true (hoff.symm.trans hon)
    · exact Bool.false_ne_true ((namesAbsentRegister_eq_false hpresent).symm.trans habsent)

end Sys2Proof.Machine
end

section
/-! O32. The fields of the extended instruction-information field and of the exit qualifications (60_exceptions.md
R469, R470): each is read past the parts below it. -/
namespace Sys2Proof.Machine

/-! ### The parts of an appended word -/

section
variable {V W : Nat} {x : BitVec V} {y : BitVec W}

theorem getLsbD_append_of_le {i : Nat} (h : W ≤ i) : (x ++ y).getLsbD i = x.getLsbD (i - W) := by
  rw [BitVec.getLsbD_append, if_neg (Nat.not_lt.2 h)]

theorem getLsbD_append_ofBool {b : Bool} : (x ++ BitVec.ofBool b).getLsbD 0 = b := by
  rw [BitVec.getLsbD_append, if_pos Nat.one_pos, BitVec.getLsbD_ofBool, decide_eq_true rfl, Bool.true_and]

end

/-! ### The extended instruction-information field -/

theorem Eii.bits_values (e : Eii) (n : Nat) :
    (e.bits n).extractLsb' 2 2 = e.asize ∧ (e.bits n).getLsbD 4 = e.isReg ∧ (e.bits n).extractLsb' 5 2 = e.osize ∧
    (e.bits n).extractLsb' 7 3 = e.segment ∧ (e.bits n).getLsbD 10 = e.index.isNone ∧
    (e.bits n).getLsbD 11 = e.base.isNone := by
  unfold Eii.bits
  refine ⟨?asize, ?isReg, ?osize, ?segment, ?indexInvalid, ?baseInvalid⟩
  case asize | osize | segment =>
    repeat rw [BitVec.extractLsb'_append_eq_of_le (by decide)]
    exact BitVec.extractLsb'_append_eq_right
  case isReg | indexInvalid | baseInvalid =>
    repeat rw [getLsbD_append_of_le (by decide)]
    exact getLsbD_append_ofBool

/-- A field that does not apply holds a free value (notes/assumptions/42.md). -/
theorem Eii.bits_registers (e : Eii) (n : Nat) :
    (e.bits n).extractLsb' 0 2 = e.scale.getD (Config.freeScale n) ∧
    (e.bits n).extractLsb' 16 5 = e.reg1.getD (Config.freeRegId n 0) ∧
    (e.bits n).extractLsb' 24 5 = e.index.getD (Config.freeRegId n 1) ∧
    (e.bits n).extractLsb' 32 5 = e.base.getD (Config.freeRegId n 2) ∧
    (e.bits n).extractLsb' 40 5 = e.reg2.getD (Config.freeRegId n 3) := by
  unfold Eii.bits
  and_intros
  all_goals
    repeat rw [BitVec.extractLsb'_append_eq_of_le (by decide)]
    exact BitVec.extractLsb'_append_eq_right

theorem Eii.bits_reserved (e : Eii) (n : Nat) :
    (e.bits n).extractLsb' 12 4 = 0 ∧ (e.bits n).extractLsb' 21 3 = 0 ∧ (e.bits n).extractLsb' 29 3 = 0 ∧
    (e.bits n).extractLsb' 37 3 = 0 ∧ (e.bits n).extractLsb' 45 19 = 0 := by
  unfold Eii.bits
  refine ⟨?above11, ?above20, ?above28, ?above36, ?above44⟩
  case above11 | above20 | above28 | above36 =>
    repeat rw [BitVec.extractLsb'_append_eq_of_le (by decide)]
    exact BitVec.extractLsb'_append_eq_right
  case above44 =>
    repeat rw [BitVec.extractLsb'_append_eq_of_le (by decide)]
    exact BitVec.extractLsb'_zero

theorem eq_of_eq_getD {α : Type} {o : Option α} {x d a : α} (hx : x = o.getD d) (ho : o = some a) : x = a := by
  rw [hx, ho, Option.getD_some]

/-! ### The exit qualifications -/

/-- The exit qualification of MOV to (`access` = 0) and from (`access` = 1) a control register. -/
def movCrQualification (access : BitVec 2) (cr : BitVec 4) (g : RegId) : Word :=
  (0 : BitVec 51) ++ g ++ (0 : BitVec 2) ++ access ++ cr

theorem qualification_movTo (cr : BitVec 4) (g : RegId) :
    (CrAccess.movTo cr g).qualification = movCrQualification 0 cr g := rfl

theorem qualification_movFrom (cr : BitVec 4) (g : RegId) :
    (CrAccess.movFrom cr g).qualification = movCrQualification 1 cr g := rfl

theorem movCrQualification_fields (access : BitVec 2) (cr : BitVec 4) (g : RegId) :
    (movCrQualification access cr g).extractLsb' 0 4 = cr ∧
    (movCrQualification access cr g).extractLsb' 4 2 = access ∧
    (movCrQualification access cr g).extractLsb' 8 5 = g := by
  unfold movCrQualification
  and_intros
  all_goals
    repeat rw [BitVec.extractLsb'_append_eq_of_le (by decide)]
    exact BitVec.extractLsb'_append_eq_right

theorem drQualification_fields (dr : BitVec 3) (d : Bool) (g : RegId) :
    (drQualification dr d g).extractLsb' 0 3 = dr ∧ (drQualification dr d g).getLsbD 4 = d ∧
    (drQualification dr d g).extractLsb' 8 5 = g := by
  unfold drQualification
  refine ⟨BitVec.extractLsb'_append_eq_right, ?direction, ?register⟩
  case direction =>
    repeat rw [getLsbD_append_of_le (by decide)]
    exact getLsbD_append_ofBool
  case register =>
    repeat rw [BitVec.extractLsb'_append_eq_of_le (by decide)]
    exact BitVec.extractLsb'_append_eq_right

/-- Settles O32, field by field; a field that applies holds its own value and no free one. -/
theorem fieldsOfTheVmExitInformation : Obligations.FieldsOfTheVmExitInformation := by
  refine ⟨fun e n => ?information, fun _ _ => ⟨rfl, rfl, rfl, rfl, rfl⟩, fun cr g => ?controlRegister,
    drQualification_fields⟩
  case information =>
    obtain ⟨hasize, hisReg, hosize, hsegment, hindexInvalid, hbaseInvalid⟩ := e.bits_values n
    obtain ⟨hscale, hreg1, hindex, hbase, hreg2⟩ := e.bits_registers n
    obtain ⟨hzero12, hzero21, hzero29, hzero37, hzero45⟩ := e.bits_reserved n
    exact ⟨fun _ => eq_of_eq_getD hscale, hasize, hisReg, hosize, hsegment, hindexInvalid, hbaseInvalid, hzero12,
      fun _ => eq_of_eq_getD hreg1, hzero21, fun _ => eq_of_eq_getD hindex, hzero29, fun _ => eq_of_eq_getD hbase,
      hzero37, fun _ => eq_of_eq_getD hreg2, hzero45⟩
  case controlRegister =>
    rw [qualification_movTo, qualification_movFrom]
    obtain ⟨htoCr, htoAccess, htoGpr⟩ := movCrQualification_fields 0 cr g
    obtain ⟨hfromCr, hfromAccess, hfromGpr⟩ := movCrQualification_fields 1 cr g
    exact ⟨htoCr, htoAccess, htoGpr, hfromCr, hfromAccess, hfromGpr⟩

end Sys2Proof.Machine
end

section
/-! O57 and O58. The #GP(0) of privilege, operand and alignment checks (60_exceptions.md R445 to R453) and the #NM of
CR0.TS (R454, R455, R457), both of which come behind the enabling gate. -/
namespace Sys2Proof.Machine

section
variable {s : State} {e : Exc} {m : Mem} {reg : RegId}

/-! ### A check that fails -/

theorem require_bind_of_false {β : Type} {c : Bool} {f : Unit → Except Exc β} (hc : c = false) :
    (require c e >>= f) = .error e := by
  rw [hc, require_false, bind_error]

/-- Of two checks that raise the same exception, either may fail. -/
theorem require_bind_of_or {β : Type} {c d : Bool} {f : Unit → Except Exc β} (h : c = false ∨ d = false) :
    (require c e >>= fun _ => require d e >>= f) = .error e := by
  cases c with
  | false => exact require_bind_of_false rfl
  | true => exact bind_eq_of_passed require_true (require_bind_of_false (h.resolve_left Bool.noConfusion))

/-- What a read behind its checks gives. -/
theorem load_of_accessOk {N align : Nat} {ac : Bool} (h : accessOk s (memAccess s m (N / 8) .read ac align)) :
    s.load N (memAccess s m (N / 8) .read ac align) = .ok (memValue s N (linAddr s m)) :=
  load_ok.2 ⟨h, rfl⟩

/-! ### Privilege and register operands, before memory is looked at -/

theorem invept_raises_of_cpl (hs : s.apxEnabled = true) (hvmx : s.params.features.vmx = true)
    (hop : s.ctrl.inVmxOperation = true) (hept : s.ctrl.eptSupported = true) (hsup : s.ctrl.inveptSupported = true)
    (hcpl : s.cpl ≠ 0) : finish (invept reg m s) = takeException .gp :=
  raises_after_gate hs (by simp only [hvmx, hop, hept, hsup, Bool.and_self])
    (require_bind_of_false (decide_eq_false hcpl))

theorem invvpid_raises_of_cpl (hs : s.apxEnabled = true) (hvmx : s.params.features.vmx = true)
    (hop : s.ctrl.inVmxOperation = true) (hvpid : s.ctrl.vpidSupported = true) (hsup : s.ctrl.invvpidSupported = true)
    (hcpl : s.cpl ≠ 0) : finish (invvpid reg m s) = takeException .gp :=
  raises_after_gate hs (by simp only [hvmx, hop, hvpid, hsup, Bool.and_self])
    (require_bind_of_false (decide_eq_false hcpl))

theorem invpcid_raises_of_cpl_or_type (hs : s.apxEnabled = true) (hf : s.params.features.invpcid = true)
    (h : s.cpl ≠ 0 ∨ 3 < (s.getGpr reg).toNat) : finish (invpcid reg m s) = takeException .gp :=
  raises_after_gate hs hf
    (require_bind_of_or (h.imp decide_eq_false fun htype => decide_eq_false (Nat.not_le.2 htype)))

theorem wruss_raises_of_cpl {N : Nat} (hs : s.apxEnabled = true) (hcet : s.params.features.cet = true)
    (hcr4 : s.ctrl.cr4Cet = true) (hcpl : s.cpl ≠ 0) : finish (wruss N m reg s) = takeException .gp :=
  raises_after_gate hs (by simp only [hcet, hcr4, Bool.and_self]) (require_bind_of_false (decide_eq_false hcpl))

theorem enqcmds_raises_of_cpl_or_destination (hs : s.apxEnabled = true) (hf : s.params.features.enqcmd = true)
    (h : s.cpl ≠ 0 ∨ aligned64 (addrReg s m.a32 reg) = false) : finish (enqcmds reg m s) = takeException .gp :=
  raises_after_gate hs hf (require_bind_of_or (h.imp_left decide_eq_false))

theorem enqcmd_raises_of_pasid_or_destination (hs : s.apxEnabled = true) (hf : s.params.features.enqcmd = true)
    (h : s.ctrl.pasidValid = false ∨ aligned64 (addrReg s m.a32 reg) = false) :
    finish (enqcmd reg m s) = takeException .gp :=
  raises_after_gate hs hf (require_bind_of_false (Bool.and_eq_false_iff.2 h.symm))

theorem movdir64b_raises_of_destination (hs : s.apxEnabled = true) (hf : s.params.features.movdir = true)
    (h : aligned64 (addrReg s m.a32 reg) = false) : finish (movdir64b reg m s) = takeException .gp :=
  raises_after_gate hs hf (require_bind_of_false h)

/-- The 4-byte alignment of a shadow-stack write is checked once the address is canonical (20_memory.md R70). -/
theorem wrss_raises_of_misaligned {N : Nat} (hs : s.apxEnabled = true) (hcet : s.params.features.cet = true)
    (hcr4 : s.ctrl.cr4Cet = true) (hwrss : wrssEnabled s = true)
    (hfirst : canonical s.params.laWidth (linAddr s m) = true)
    (hlast : canonical s.params.laWidth (linAddr s m + BitVec.ofNat 64 (N / 8 - 1)) = true)
    (halign : (linAddr s m).toNat % 4 ≠ 0) : finish (wrss N m reg s) = takeException .gp :=
  wrss_raises hs hcet hcr4 hwrss (checkAccess_of_misaligned (Bool.and_eq_true_iff.2 ⟨hfirst, hlast⟩) halign)

/-! ### Operands that are read and then refused -/

section
variable {W n i : Nat} {v : BitVec W}

theorem setWidth_beq_zero_of_bit (hi : i < n) (hbit : v.getLsbD i = true) : (v.setWidth n == 0) = false := by
  refine beq_eq_false_iff_ne.2 fun hzero => ?_
  have hfield : (v.setWidth n).getLsbD i = true := by rw [BitVec.getLsbD_setWidth, hbit, decide_eq_true hi]; rfl
  rw [hzero] at hfield
  exact Bool.false_ne_true (BitVec.getLsbD_zero.symm.trans hfield)

/-- A field of `n` bits from bit `lo` on is not 0 when one of its bits is 1. -/
theorem field_beq_zero_of_bit {lo : Nat} (hlo : lo ≤ i) (hi : i < lo + n) (hbit : v.getLsbD i = true) :
    ((v >>> lo).setWidth n == 0) = false :=
  setWidth_beq_zero_of_bit (i := i - lo) (by omega)
    (by rwa [BitVec.getLsbD_ushiftRight, Nat.add_sub_cancel' hlo])

end

theorem enqcmd_raises_of_command (hs : s.apxEnabled = true) (hf : s.params.features.enqcmd = true)
    (hpasid : s.ctrl.pasidValid = true) (hdst : aligned64 (addrReg s m.a32 reg) = true)
    (hread : accessOk s (memAccess s m 64 .read false 1))
    (hbit : ∃ i < 31, (memValue s 512 (linAddr s m)).getLsbD i = true) :
    finish (enqcmd reg m s) = takeException .gp :=
  let ⟨_, hi, hset⟩ := hbit
  raises_after_gate hs hf (bind_eq_of_passed (require_ok.2 (Bool.and_eq_true_iff.2 ⟨hdst, hpasid⟩))
    (bind_eq_of_ok (load_of_accessOk hread) (require_bind_of_false (setWidth_beq_zero_of_bit hi hset))))

theorem enqcmds_raises_of_command (hs : s.apxEnabled = true) (hf : s.params.features.enqcmd = true)
    (hcpl : s.cpl = 0) (hdst : aligned64 (addrReg s m.a32 reg) = true)
    (hread : accessOk s (memAccess s m 64 .read false 1))
    (hbit : ∃ i, 20 ≤ i ∧ i < 31 ∧ (memValue s 512 (linAddr s m)).getLsbD i = true) :
    finish (enqcmds reg m s) = takeException .gp :=
  let ⟨_, hlo, hi, hset⟩ := hbit
  raises_after_gate hs hf (bind_eq_of_passed (require_ok.2 (decide_eq_true hcpl))
    (bind_eq_of_passed (require_ok.2 hdst)
      (bind_eq_of_ok (load_of_accessOk hread) (require_bind_of_false (field_beq_zero_of_bit hlo hi hset)))))

/-- The descriptors that INVPCID refuses: a reserved bit, a PCID while PCIDs are off, a linear address that is not
canonical (60_exceptions.md R452). -/
theorem invpcidDescOk_eq_false {type : Word} {desc : BitVec 128}
    (h : (∃ i, 12 ≤ i ∧ i < 64 ∧ desc.getLsbD i = true) ∨
      (s.ctrl.cr4Pcide = false ∧ type.toNat ≤ 1 ∧ ∃ i < 12, desc.getLsbD i = true) ∨
      (type = 0 ∧ canonical s.params.laWidth (desc.extractLsb' 64 64) = false)) :
    invpcidDescOk s type desc = false := by
  rw [invpcidDescOk, and3_eq_false]
  rcases h with ⟨i, hlo, hi, hset⟩ | ⟨hpcide, htype, i, hi, hset⟩ | ⟨htype, haddr⟩
  · exact .inl (field_beq_zero_of_bit hlo hi hset)
  · have htype01 : type = 0 ∨ type = 1 := by bv_omega
    have hoff : (type == 0 || type == 1) = true := by
      rwa [Bool.or_eq_true, beq_iff_eq, beq_iff_eq]
    exact .inr (.inl (by rw [hpcide, hoff, setWidth_beq_zero_of_bit hi hset]; rfl))
  · rw [← BitVec.setWidth_ushiftRight_eq_extractLsb] at haddr
    exact .inr (.inr (by rw [htype, haddr]; rfl))

theorem invpcid_raises_of_descriptor (hs : s.apxEnabled = true) (hf : s.params.features.invpcid = true)
    (hcpl : s.cpl = 0) (htype : (s.getGpr reg).toNat ≤ 3) (hread : accessOk s (memAccess s m 16 .read false 1))
    (hdesc : invpcidDescOk s (s.getGpr reg) (memValue s 128 (linAddr s m)) = false) :
    finish (invpcid reg m s) = takeException .gp :=
  raises_after_gate hs hf (bind_eq_of_passed (require_ok.2 (decide_eq_true hcpl))
    (bind_eq_of_passed (require_ok.2 (decide_eq_true htype))
      (bind_eq_of_ok (load_of_accessOk hread) (require_bind_of_false hdesc))))

theorem loadTileConfig_raises_of_rejected (hs : s.apxEnabled = true) (hf : s.params.features.amxTile = true)
    (hread : accessOk s (memAccess s m 64 .read false 1))
    (hrejected : memValue s 512 (linAddr s m) ∈ s.params.tileCfgRejected) :
    finish (loadTileConfig m s) = takeException .gp :=
  raises_after_gate hs hf (bind_eq_of_ok (load_of_accessOk hread)
    (require_bind_of_false (by rw [List.contains_iff_mem.2 hrejected]; rfl)))

/-! ### CR0.TS -/

theorem gate_bind_require_nm {b : Bool} (hs : s.apxEnabled = true) (hb : b = true) (hts : s.ctrl.cr0Ts = true) :
    (gate s b >>= fun _ => require (!s.ctrl.cr0Ts) .nm) = .error .nm :=
  bind_eq_of_passed (gate_ok.2 ⟨hs, hb⟩) (by rw [hts, Bool.not_true, require_false])

theorem klGate_nm {feature : Bool} (hs : s.apxEnabled = true) (hf : feature = true) (hem : s.ctrl.cr0Em = false)
    (hosfxsr : s.ctrl.cr4Osfxsr = true) (hkl : s.ctrl.cr4Kl = true) (hts : s.ctrl.cr0Ts = true) :
    klGate s feature = .error .nm :=
  gate_bind_require_nm hs (by rw [hf, sseUsable, hem, hosfxsr, hkl]; rfl) hts

theorem shaGate_nm (hs : s.apxEnabled = true) (hf : s.params.features.sha = true) (hem : s.ctrl.cr0Em = false)
    (hosfxsr : s.ctrl.cr4Osfxsr = true) (hts : s.ctrl.cr0Ts = true) : shaGate s = .error .nm :=
  gate_bind_require_nm hs (by rw [hf, sseUsable, hem, hosfxsr]; rfl) hts

theorem kmovGate_nm {ok : Features → Bool} {idsOk : Bool} (hs : s.apxEnabled = true)
    (hf : ok s.params.features = true) (hids : idsOk = true) (hts : s.ctrl.cr0Ts = true) :
    kmovGate s ok idsOk = .error .nm :=
  gate_bind_require_nm hs (by rw [hf, hids]; rfl) hts

/-- What begins with a check that fails raises its exception. -/
theorem raises_of_check {α : Type} {check : Except Exc α} {f : α → Except Exc State} (h : check = .error e) :
    finish (check >>= f) = takeException e :=
  finish_fault.2 (bind_eq_error h)

theorem kmovLoad_nm {N : Nat} {ok : Features → Bool} {k : ShortId} {src : KRM} (hs : s.apxEnabled = true)
    (hf : ok s.params.features = true) (hk : shortIdOk s.params k = true)
    (hsrc : ∀ i, src = .k i → shortIdOk s.params i = true) (hts : s.ctrl.cr0Ts = true) :
    finish (kmovLoad N ok k src s) = takeException .nm := by
  cases src with
  | k i => exact raises_of_check (kmovGate_nm hs hf (Bool.and_eq_true_iff.2 ⟨hk, hsrc i rfl⟩) hts)
  | mem m => exact raises_of_check (kmovGate_nm hs hf hk hts)

end

/-- Settles O57. The cases are those of the statement: the checks before memory is looked at, then those of operands
that have been read. -/
theorem privilegeAndOperandTraps : Obligations.PrivilegeAndOperandTraps := by
  refine ⟨?invept, ?invvpid, ?invpcid, ?wrussd, ?wrussq, ?enqcmds, ?enqcmd, ?movdir64b, ?wrssd, ?wrssq, ?enqcmdCommand,
    ?enqcmdsCommand, ?invpcidDescriptor, ?ldtilecfg⟩
  case invept => exact fun _ _ _ => invept_raises_of_cpl
  case invvpid => exact fun _ _ _ => invvpid_raises_of_cpl
  case invpcid => exact fun _ _ _ => invpcid_raises_of_cpl_or_type
  case wrussd | wrussq => exact fun _ _ _ => wruss_raises_of_cpl
  case enqcmds => exact fun _ _ _ => enqcmds_raises_of_cpl_or_destination
  case enqcmd => exact fun _ _ _ => enqcmd_raises_of_pasid_or_destination
  case movdir64b => exact fun _ _ _ => movdir64b_raises_of_destination
  case wrssd => exact fun _ _ _ => wrss_raises_of_misaligned (N := 32)
  case wrssq => exact fun _ _ _ => wrss_raises_of_misaligned (N := 64)
  case enqcmdCommand => exact fun _ _ _ => enqcmd_raises_of_command
  case enqcmdsCommand => exact fun _ _ _ => enqcmds_raises_of_command
  case invpcidDescriptor =>
    exact fun _ _ _ hs hf hcpl htype hread hdesc =>
      invpcid_raises_of_descriptor hs hf hcpl htype hread (invpcidDescOk_eq_false hdesc)
  case ldtilecfg => exact fun _ _ => loadTileConfig_raises_of_rejected

/-- Settles O58: the gates of the three classes raise #NM once their #UD conditions have passed. -/
theorem deviceNotAvailableTraps : Obligations.DeviceNotAvailableTraps := by
  refine ⟨?aesdec128, ?aesdec256, ?aesdecWide128, ?aesdecWide256, ?aesenc128, ?aesenc256, ?aesencWide128,
    ?aesencWide256, ?encodekey128, ?encodekey256, ?sha1msg1, ?sha1msg2, ?sha1nexte, ?sha1rnds4, ?sha256msg1,
    ?sha256msg2, ?sha256rnds2, ?kmovbKKm, ?kmovbKR, ?kmovbRK, ?kmovbMK, ?kmovdRK, ?kmovdKKm, ?kmovdKR, ?kmovdMK,
    ?kmovqKKm, ?kmovqKR, ?kmovqRK, ?kmovqMK, ?kmovwKKm, ?kmovwKR, ?kmovwRK, ?kmovwMK⟩
  case aesdec128 | aesdec256 | aesenc128 | aesenc256 | encodekey128 | encodekey256 =>
    exact fun _ _ _ hs hf hem hosfxsr hkl hts => raises_of_check (klGate_nm hs hf hem hosfxsr hkl hts)
  case aesdecWide128 | aesdecWide256 | aesencWide128 | aesencWide256 =>
    exact fun _ _ hs hf hem hosfxsr hkl hts => raises_of_check (klGate_nm hs hf hem hosfxsr hkl hts)
  case sha1msg1 | sha1msg2 | sha1nexte | sha256msg1 | sha256msg2 | sha256rnds2 =>
    exact fun _ _ _ hs hf hem hosfxsr hts => raises_of_check (shaGate_nm hs hf hem hosfxsr hts)
  case sha1rnds4 =>
    exact fun _ _ _ _ hs hf hem hosfxsr hts => raises_of_check (shaGate_nm hs hf hem hosfxsr hts)
  case kmovbKKm | kmovdKKm | kmovqKKm | kmovwKKm => exact fun _ _ _ => kmovLoad_nm
  case kmovbKR | kmovbRK | kmovbMK | kmovdRK | kmovdKR | kmovdMK | kmovqKR | kmovqRK | kmovqMK | kmovwKR | kmovwRK |
      kmovwMK =>
    exact fun _ _ _ hs hf hk hts => raises_of_check (kmovGate_nm hs hf hk hts)

end Sys2Proof.Machine
end
